-- ==== Sys2Proof/Word.lean ====
section
/-! DEFINITION. The plain types every other file uses: bytes, string numbers, ports. -/

namespace Sys2Proof

/-- One byte of a frame, a reply or an event record. -/
abbrev Byte := BitVec 8

/-- One of the sixteen string inputs. Input `i` is the manual's string number `i.val + 1`. -/
abbrev StringId := Fin 16

/-- Uptime in 10 ms units, wrapping after 4 294 967 295 (R2, R171). -/
abbrev Uptime := BitVec 32

/-- The eight bytes of a lock code (R41, R183), most significant byte first. -/
abbrev LockCode := BitVec 64

/-- All sixteen inputs in ascending string order. -/
def allStrings : List StringId := [0, 1, 2, 3, 4, 5, 6, 7, 8, 9, 10, 11, 12, 13, 14, 15]

/-- The manual's number of a string, 1 to 16. -/
def stringNumber (i : StringId) : Nat := i.val + 1

/-- A table with one entry per string input. -/
def tab {α : Type} (f : StringId → α) : Vector α 16 :=
  #v[f 0, f 1, f 2, f 3, f 4, f 5, f 6, f 7, f 8, f 9, f 10, f 11, f 12, f 13, f 14, f 15]

/-- The three serial ports (R158): S, V and M. -/
inductive Port where
  | s
  | v
  | m
  deriving DecidableEq, Repr

/-- All ports, in the order S, V, M of the ring bits of R183. -/
def allPorts : List Port := [.s, .v, .m]

/-- One thing kept for each port. -/
structure PerPort (α : Type) where
  s : α
  v : α
  m : α
  deriving DecidableEq, Repr

/-- The entry of one port. -/
def PerPort.get {α : Type} (t : PerPort α) : Port → α
  | .s => t.s
  | .v => t.v
  | .m => t.m

/-- Replace the entry of one port. -/
def PerPort.put {α : Type} (t : PerPort α) (p : Port) (x : α) : PerPort α :=
  match p with
  | .s => { t with s := x }
  | .v => { t with v := x }
  | .m => { t with m := x }

end Sys2Proof
end

