-- ==== Sys2Proof/Syntax.lean ====
section
/-! DEFINITION. The commands the part takes, one constructor for each row of spec/opcode_table.json, with
the data each carries into the part: bytes of a request, readings of the converters, positions of the
contacts and inputs. -/

namespace Sys2Proof

/-- The three raw classes of the fire loop reading (section 7.2). -/
inductive LoopClass where
  | normal
  | alarm
  | loopFault
  deriving DecidableEq, Repr

/-- What one string's channels deliver at the end of a scan interval (R1). -/
structure ChannelReading where
  /-- the converter's raw code, a signed 24-bit number (section 1.2) -/
  raw : BitVec 24
  /-- the converter's own over-range indication -/
  overRange : Bool
  /-- the string-side voltage reading in 0.1 V units, before the clamp of R7 -/
  sideVoltage : Int
  deriving DecidableEq, Repr

/-- What all channels deliver at the end of a scan interval (R1, R145). -/
structure RawScan where
  channels : Vector ChannelReading 16
  /-- the bus voltage reading in 0.1 V units, before the clamp of R7 -/
  bus : Int
  /-- the temperature code, unsigned (section 1.4) -/
  temperatureCode : BitVec 24
  /-- the arc index the Arc Detector measured for the interval (R145) -/
  arcIndex : Byte
  deriving DecidableEq, Repr

/-- What the part reads from outside itself as it starts up (R99, R17, R151, R164, R177). -/
structure StartInputs where
  /-- each relay's feedback contact: true where it shows closed -/
  feedbackClosed : Vector Bool 16
  /-- each fast detector's first reading, in 10 mA units -/
  fast : Vector Nat 16
  /-- the SERVICE KEY input is in its on position -/
  keyOn : Bool
  /-- the first raw class of the fire loop -/
  loop : LoopClass
  /-- copy A of the settings record is found not to pass its check, and so on -/
  settingsAFails : Bool
  settingsBFails : Bool
  holdsAFails : Bool
  holdsBFails : Bool
  deriving DecidableEq, Repr

/-- The commands. A request carries the port it was received on and its payload bytes (R160, R183). An
event of one string carries that string. -/
inductive Instr where
  | powerUp (inputs : StartInputs)
  | supplyDip (inputs : StartInputs)
  | restartWaitEnd (inputs : StartInputs)
  /-- `frame` is the completed frame from its address byte to its second CRC byte -/
  | frameDropped (p : Port) (frame : List Byte)
  | unknownRequestCode (p : Port) (code : Byte) (payload : List Byte)
  | status (p : Port) (payload : List Byte)
  | readString (p : Port) (payload : List Byte)
  | hold (p : Port) (payload : List Byte)
  | release (p : Port) (payload : List Byte)
  | acknowledgeReverse (p : Port) (payload : List Byte)
  | acknowledgeGround (p : Port) (payload : List Byte)
  | acknowledgeOvercurrent (p : Port) (payload : List Byte)
  | acknowledgeArc (p : Port) (payload : List Byte)
  | acknowledgeStore (p : Port) (payload : List Byte)
  | fireRestore (p : Port) (payload : List Byte)
  | retire (p : Port) (payload : List Byte)
  | retestSwitch (p : Port) (payload : List Byte)
  | calibrate (p : Port) (payload : List Byte)
  | setPresenceAbsent (p : Port) (payload : List Byte)
  | setPresencePresent (p : Port) (payload : List Byte)
  | searchStart (p : Port) (payload : List Byte)
  | searchAbort (p : Port) (payload : List Byte)
  | fetchEvents (p : Port) (payload : List Byte)
  | readSetting (p : Port) (payload : List Byte)
  | writeSetting (p : Port) (payload : List Byte)
  | writeRoute (p : Port) (payload : List Byte)
  | restart (p : Port) (payload : List Byte)
  | replyTransmitStart (p : Port)
  | transmissionEnd (p : Port)
  | baudRateApplied (p : Port)
  /-- `on` is the position the input changes to -/
  | serviceKeyInputChange (on : Bool)
  | keyDebounceExpiry
  | scanCompletion (raw : RawScan)
  | sevalScanTakeUp
  | tscScanTakeUp
  | arcdScanTakeUp
  | afterRampBlankExpiry
  /-- `reading` is the fast detector's reading in 10 mA units -/
  | currentFellBelowIZero (i : StringId) (reading : Nat)
  | currentReachedIZero (i : StringId) (reading : Nat)
  | feedbackShowsClosed (i : StringId)
  | feedbackShowsOpen (i : StringId)
  | closeConfirmExpiry (i : StringId)
  | openConfirmExpiry (i : StringId)
  | retestStepExpiry
  | retestOpenStepTimeout
  | recoveryPulseExpiry (i : StringId)
  | pulseEnd (i : StringId)
  | rampEnd (i : StringId)
  | rampSlotFree
  | dwellPassed (i : StringId)
  | qualificationTimeout (i : StringId)
  | interruptTimeout (i : StringId)
  | curtailPeriodExpiry (i : StringId)
  | recloseExpiry (i : StringId)
  | stableExpiry (i : StringId)
  /-- `reading` is the measured resistance in kilohms -/
  | periodicMeasurementComplete (reading : Nat)
  | gapExpiry
  | searchMeasurementComplete (reading : Nat)
  | stepTimerExpiry
  | fireLoopClassChange (c : LoopClass)
  | fireDebounceExpiry
  | connectedSetHoldoffExpiry
  | coalesceExpiry (p : Port)
  | commitComplete
  /-- `bytes` are the bytes that arrive on a port in one ms and end no frame: with them the receiver gives up a
  partial frame, or starts one and goes on collecting (R159) -/
  | partialFrameGivenUp (p : Port) (bytes : List Byte)
  | powerLoss
  deriving DecidableEq, Repr

/-- The request codes of R183. -/
inductive RequestCode where
  | status
  | readString
  | hold
  | release
  | acknowledge
  | fireRestore
  | retire
  | retestSwitch
  | calibrate
  | setPresence
  | searchStart
  | searchAbort
  | fetchEvents
  | readSetting
  | writeSetting
  | writeRoute
  | restart
  deriving DecidableEq, Repr

end Sys2Proof
end

