-- ==== Sys2Proof/Decode.lean ====
section
/-! DEFINITION. The command a word spells. The spec gives the commands no bit encoding: opcode_table.json has
no bits for any row, and a request reaches the part as a frame on a port, an event as an occurrence. -/

namespace Sys2Proof

/-- No row of the table gives bits, so no word spells a command. -/
def decodeTableWord (_nbits _w : Nat) : Option Instr := none

end Sys2Proof
end

