-- ==== Sys2Proof/Config.lean ====
section
/-! DEFINITION. What the manual leaves open as a value: constants without a body, of which nothing can
be proved but that they are some value. Each is named in an assumption log entry. -/

namespace Sys2Proof

/-- Which of a stored record's two copies a commit writes when neither copy is good. R177 names the copy
"that does not hold the latest good version" and is silent when there is none. -/
opaque Config.firstCopyIsB : Bool

/-- The sequence number that commit writes. R177 gives "one above that version's" and is silent when
there is no good version. -/
opaque Config.firstSequence : Nat

end Sys2Proof
end

