-- ==== Sys2Proof/Machine/State.lean ====
section
/-! DEFINITION. The state of the part, block by block as section "Block overview" of spec/00_scope.md names
the owners, and its value after reset. -/

namespace Sys2Proof.Machine

/-- No meaning of this model faults: the spec gives every command an effect. The type has no
constructor, so a fault cannot be answered. -/
inductive Fault where
  deriving DecidableEq, Repr

/-- Why `exec` has no meaning for a command. -/
inductive Refusal where
  /-- Raised by `exec` for a command that has no meaning yet, by its mnemonic. Safe: nothing is claimed. -/
  | notModelled (mnemonic : String)
  deriving DecidableEq, Repr

/-! ### Settings and the two stored records (chapters 10 and 11) -/

/-- The settings that are not per string, in the order of the setting index (section 11.2). -/
inductive Setting where
  | tScan | vWake | k25 | kSlope
  | iFloor | tD | stepUp | sSuspect | iRev | nRev | iOver | nOver
  | tCoil | tConfirm | tRamp | tSpace | tDwell | tInterrupt | tCurtail | iZero | kQual | tQual
  | tBase | recloseLimit | tStable
  | lRated | tKnee | tCut | nShed | tShedGap
  | tIso | tGap | rTrip | rClear | searchEnable | tStep
  | aTrip | aCount | tBlank
  | addrS | addrV | baudS | baudV
  | nNotifyS | nNotifyV | nNotifyM | tCoalesceS | tCoalesceV | tCoalesceM
  deriving DecidableEq, Repr

/-- The place of a setting in the table of values. -/
def Setting.slot : Setting → Fin 49
  | .tScan => 0 | .vWake => 1 | .k25 => 2 | .kSlope => 3
  | .iFloor => 4 | .tD => 5 | .stepUp => 6 | .sSuspect => 7
  | .iRev => 8 | .nRev => 9 | .iOver => 10 | .nOver => 11
  | .tCoil => 12 | .tConfirm => 13 | .tRamp => 14 | .tSpace => 15 | .tDwell => 16
  | .tInterrupt => 17 | .tCurtail => 18 | .iZero => 19 | .kQual => 20 | .tQual => 21
  | .tBase => 22 | .recloseLimit => 23 | .tStable => 24
  | .lRated => 25 | .tKnee => 26 | .tCut => 27 | .nShed => 28 | .tShedGap => 29
  | .tIso => 30 | .tGap => 31 | .rTrip => 32 | .rClear => 33 | .searchEnable => 34 | .tStep => 35
  | .aTrip => 36 | .aCount => 37 | .tBlank => 38
  | .addrS => 39 | .addrV => 40 | .baudS => 41 | .baudV => 42
  | .nNotifyS => 43 | .nNotifyV => 44 | .nNotifyM => 45
  | .tCoalesceS => 46 | .tCoalesceV => 47 | .tCoalesceM => 48

/-- The default of each setting, in slot order (section 11.2). `search_enable` is 1 for ENABLED. -/
def defaultValues : Vector Int 49 :=
  #v[100, 2000, 409600, 640,
     50, 200, 4, 120, 100, 2, 1500, 10,
     40, 80, 20, 250, 5, 50, 30, 20, 900, 60,
     30, 3, 15,
     16000, 700, 950, 5, 60,
     6, 30, 60, 120, 1, 60,
     96, 3, 100,
     1, 2, 19200, 19200,
     1, 1, 1, 0, 0, 0]

/-- The range of a current channel (R4). -/
inductive Range where
  | wide
  | narrow
  deriving DecidableEq, Repr

/-- A peer group (R23). -/
inductive PeerGroup where
  | none
  | a
  | b
  | c
  | d
  deriving DecidableEq, Repr

/-- What the settings record holds of one string (R41, R4, R177). -/
structure StringSettings where
  present : Bool
  offset : Int
  gain : Nat
  range : Range
  group : PeerGroup
  rank : Nat
  deriving DecidableEq, Repr

/-- The kinds of event, in the order of the kinds table of chapter 9, which numbers them 1 to 22 (R184). -/
inductive EventKind where
  | stringIsolated | stringConnected | connectedSet | suspectSet | suspectCleared | reverseTrip
  | overcurrentTrip | insulationLow | searchStarted | searchResult | arcTrip | fireLine | arraySafe
  | thermalShed | thermalRestore | switchFault | interruptFailed | isolationFailed | holdChanged
  | closeBlocked | restarted | daylight
  deriving DecidableEq, Repr

/-- The place of a kind in the routing table; its code on the ports is one more (R184). -/
def EventKind.slot : EventKind → Fin 22
  | .stringIsolated => 0 | .stringConnected => 1 | .connectedSet => 2 | .suspectSet => 3
  | .suspectCleared => 4 | .reverseTrip => 5 | .overcurrentTrip => 6 | .insulationLow => 7
  | .searchStarted => 8 | .searchResult => 9 | .arcTrip => 10 | .fireLine => 11 | .arraySafe => 12
  | .thermalShed => 13 | .thermalRestore => 14 | .switchFault => 15 | .interruptFailed => 16
  | .isolationFailed => 17 | .holdChanged => 18 | .closeBlocked => 19 | .restarted => 20
  | .daylight => 21

/-- The settings record (R177): what is in force, and what a commit of it writes. -/
structure Settings where
  values : Vector Int 49
  strings : Vector StringSettings 16
  /-- the rings each kind of event is copied to (R172) -/
  routes : Vector (PerPort Bool) 22
  deriving DecidableEq, Repr

/-- The string part of a settings record of defaults (R180). -/
def defaultString : StringSettings :=
  { present := true, offset := 0, gain := 4096, range := .wide, group := .none, rank := 0 }

/-- The default routing table (R172), by kind code from 1. -/
def defaultRoutes : Vector (PerPort Bool) 22 :=
  #v[⟨true, false, true⟩,   -- STRING_ISOLATED
     ⟨true, false, true⟩,   -- STRING_CONNECTED
     ⟨true, true, false⟩,   -- CONNECTED_SET
     ⟨true, false, true⟩,   -- SUSPECT_SET
     ⟨true, false, true⟩,   -- SUSPECT_CLEARED
     ⟨true, false, true⟩,   -- REVERSE_TRIP
     ⟨true, false, true⟩,   -- OVERCURRENT_TRIP
     ⟨true, false, true⟩,   -- INSULATION_LOW
     ⟨true, false, true⟩,   -- SEARCH_STARTED
     ⟨true, false, true⟩,   -- SEARCH_RESULT
     ⟨true, true, true⟩,    -- ARC_TRIP
     ⟨true, true, true⟩,    -- FIRE_LINE
     ⟨true, false, true⟩,   -- ARRAY_SAFE
     ⟨true, true, true⟩,    -- THERMAL_SHED
     ⟨true, false, true⟩,   -- THERMAL_RESTORE
     ⟨true, false, true⟩,   -- SWITCH_FAULT
     ⟨true, true, true⟩,    -- INTERRUPT_FAILED
     ⟨true, true, true⟩,    -- ISOLATION_FAILED
     ⟨true, false, true⟩,   -- HOLD_CHANGED
     ⟨true, false, true⟩,   -- CLOSE_BLOCKED
     ⟨true, true, true⟩,    -- RESTARTED
     ⟨true, false, false⟩]  -- DAYLIGHT

/-- The settings record of defaults (R180). -/
def defaultSettings : Settings :=
  { values := defaultValues, strings := Vector.replicate 16 defaultString, routes := defaultRoutes }

/-- The fourteen kinds of hold, in the order of the kinds table of chapter 3. -/
inductive HoldKind where
  | sup | inv | svc | fire | start | store | reverse | overcurrent | ground | search | arc | thermal
  | switch | retired
  deriving DecidableEq, Repr

/-- The place of a hold kind in a hold set: its row in the kinds table, less one (section 11.1). -/
def HoldKind.slot : HoldKind → Fin 14
  | .sup => 0 | .inv => 1 | .svc => 2 | .fire => 3 | .start => 4 | .store => 5 | .reverse => 6
  | .overcurrent => 7 | .ground => 8 | .search => 9 | .arc => 10 | .thermal => 11 | .switch => 12
  | .retired => 13

/-- A hold set: which kinds a string carries, each at most once by construction (R43). -/
abbrev HoldSet := Vector Bool 14

/-- The empty hold set. -/
def noHolds : HoldSet := Vector.replicate 14 false

/-- Why a switch became FAULTED (R90, R184). -/
inductive FaultKind where
  | failToClose
  | failToOpen
  | lostClosed
  | uncommandedClosed
  deriving DecidableEq, Repr

/-- The detail of a GROUND hold (R41). -/
inductive GroundDetail where
  | located
  | unresolved
  | busSide
  | noSearch
  deriving DecidableEq, Repr

/-- What the hold record holds of one string (R177): its presence and its stored holds. -/
structure StoredString where
  present : Bool
  holds : HoldSet
  lockCode : Option LockCode
  faultKind : Option FaultKind
  groundDetail : Option GroundDetail
  deriving DecidableEq, Repr

/-- The hold record (R177). -/
abbrev HoldRecord := Vector StoredString 16

/-- One copy of a stored record (R177): whether its check value is correct, and what it holds. -/
structure Copy (α : Type) where
  good : Bool
  sequence : Nat
  data : α
  deriving DecidableEq, Repr

/-- The two copies of a stored record. -/
structure Copies (α : Type) where
  a : Copy α
  b : Copy α
  deriving DecidableEq, Repr

/-- The two stored records (R177). -/
inductive StoreRecord where
  | settings
  | holds
  deriving DecidableEq, Repr

/-- An entry of the commit queue (R178): a record, and the ports whose deferred replies wait on it. -/
structure CommitEntry where
  record : StoreRecord
  waiters : List Port
  deriving DecidableEq, Repr

/-- The content a write copied when it began (R178). -/
inductive WriteImage where
  | settings (image : Settings)
  | holds (image : HoldRecord)
  deriving DecidableEq, Repr

/-- The write in progress: that of the head of the commit queue (R178). -/
structure Write where
  startedAt : Nat
  image : WriteImage
  deriving DecidableEq, Repr

/-- The Configuration Store. -/
structure Cfs where
  settingsCopies : Copies Settings
  holdCopies : Copies HoldRecord
  queue : List CommitEntry
  writing : Option Write
  deriving DecidableEq, Repr

/-! ### Measurement Front End (chapter 1) -/

/-- The two daylight states (R10, R11). -/
inductive Daylight where
  | night
  | day
  deriving DecidableEq, Repr

/-- A string's converted sample (R5, R6, R7). -/
structure Sample where
  current : Int
  clipped : Bool
  sideVoltage : Nat
  deriving DecidableEq, Repr

/-- The last-sample store (R3). -/
structure Samples where
  channels : Vector Sample 16
  bus : Nat
  temperature : Int
  deriving DecidableEq, Repr

/-- A scan record (R2). An input without an entry is `none`. -/
structure ScanRecord where
  completion : Uptime
  daylight : Daylight
  entries : Vector (Option Sample) 16
  bus : Nat
  temperature : Int
  arcIndex : Byte
  arcBlank : Bool
  deriving DecidableEq, Repr

/-- An offset capture in progress (R13). -/
structure Capture where
  string : StringId
  count : Nat
  sum : Int
  deriving DecidableEq, Repr

/-- The Measurement Front End. -/
structure Mfe where
  /-- when the scan in progress started, in ms of uptime, and how long it runs (R1) -/
  scanStart : Nat
  scanLength : Nat
  daylight : Daylight
  wakeCount : Nat
  /-- the start time of a running dark run (R11) -/
  darkRun : Option Uptime
  /-- `none` until the first scan completes (R3) -/
  samples : Option Samples
  capture : Option Capture
  /-- the fast detectors' latest readings, 0 to 3200 (R9) -/
  fast : Vector Nat 16
  /-- the below-zero indications (R9) -/
  below : Vector Bool 16
  deriving DecidableEq, Repr

/-- The model's own: scan records handed to a block and not yet taken up by it, oldest first (R2). -/
structure Handed where
  seval : List ScanRecord
  tsc : List ScanRecord
  arcd : List ScanRecord
  deriving DecidableEq, Repr

/-! ### String Evaluator (chapter 2) -/

/-- The evaluator's state of one string (R19). -/
structure EvalString where
  suspicion : Nat
  suspect : Bool
  lastDeficit : Option Nat
  reverseDwell : Nat
  overDwell : Nat
  /-- the whole-scan mark (R22) -/
  mark : Bool
  deriving DecidableEq, Repr

/-- The evaluator's state of one peer group (R19). -/
structure EvalGroup where
  reference : Option Nat
  count : Nat
  deriving DecidableEq, Repr

/-- The String Evaluator: its strings, and groups A to D. -/
structure Seval where
  strings : Vector EvalString 16
  groups : Vector EvalGroup 4
  deriving DecidableEq, Repr

/-! ### String Table (chapter 3) -/

/-- The detail of an OVERCURRENT hold (R41, R100). The time remaining is the reclose timer's. -/
structure OvercurrentDetail where
  attempt : Nat
  auto : Bool
  deriving DecidableEq, Repr

/-- A string record (R41), less the fields kept in the settings record (`StringSettings`). -/
structure StringRecord where
  holds : HoldSet
  lockCode : Option LockCode
  overcurrentCount : Nat
  overcurrent : Option OvercurrentDetail
  faultKind : Option FaultKind
  groundDetail : Option GroundDetail
  deriving DecidableEq, Repr

/-- The four array conditions, true while standing (R47). -/
structure Conditions where
  fire : Bool
  start : Bool
  store : Bool
  arc : Bool
  deriving DecidableEq, Repr

/-- The String Table. -/
structure Stab where
  strings : Vector StringRecord 16
  conditions : Conditions
  deriving DecidableEq, Repr

/-! ### Switch Sequencer (chapter 4) -/

/-- The switch states of R74, in the order of its table, which R184 numbers 0 to 11. `opened` is OPEN. -/
inductive SwitchState where
  | absent | opened | pendingClose | relayClosing | rampWait | ramping | closed | interrupting
  | curtailWait | pendingOpen | relayOpening | faulted
  deriving DecidableEq, Repr

/-- What a solid-state switch is doing (R74, R77). -/
inductive Drive where
  | off
  | ramping
  | on
  deriving DecidableEq, Repr

/-- A dwell timer (R78): stopped, running with its expiry time, or passed. -/
inductive Dwell where
  | stopped
  | running (untilMs : Nat)
  | passed
  deriving DecidableEq, Repr

/-- The latest qualification test since entry into PENDING_CLOSE (R79, R80). -/
inductive QualTest where
  /-- no test could be made: the last-sample store holds no values -/
  | unable
  | made (passed : Bool) (side bus : Nat)
  deriving DecidableEq, Repr

/-- The sequencer's state of one string (R74). -/
structure Switch where
  state : SwitchState
  drive : Drive
  /-- the expiry time of the timer the state carries (R74): t_qual in PENDING_CLOSE, t_confirm in
  RELAY_CLOSING and RELAY_OPENING and after an ABSENT string's recovery pulse, t_ramp in RAMPING,
  t_interrupt in INTERRUPTING, the t_curtail period in CURTAIL_WAIT -/
  timer : Option Nat
  dwell : Dwell
  lastTest : QualTest
  /-- t_curtail periods elapsed since entry into CURTAIL_WAIT (R87) -/
  periods : Nat
  deriving DecidableEq, Repr

/-- The mark of a coil queue entry, and the direction of a pulse (R92). -/
inductive Mark where
  | toOpen
  | toClose
  deriving DecidableEq, Repr

/-- An entry of the coil queue (R92). -/
structure CoilEntry where
  string : StringId
  mark : Mark
  deriving DecidableEq, Repr

/-- A coil pulse in progress (R93). -/
structure Pulse where
  string : StringId
  mark : Mark
  endsAt : Nat
  deriving DecidableEq, Repr

/-- The latest ramp start, and when t_space, as it stood then, has elapsed since it (R82). -/
structure RampSlot where
  startedAt : Nat
  freeAt : Nat
  deriving DecidableEq, Repr

/-- The three steps of a retest (R96). -/
inductive RetestStep where
  | firstOpen
  | close
  | secondOpen
  deriving DecidableEq, Repr

/-- A retest in progress (R96, R97). While its step waits for its grant, `timer` is when t_interrupt has
elapsed since an open step's entry joined; once pulsed, it is the confirmation deadline. -/
structure Retest where
  string : StringId
  step : RetestStep
  pulsed : Bool
  timer : Option Nat
  deriving DecidableEq, Repr

/-- The Switch Sequencer with the Coil Arbiter and the ramp slot. -/
structure Sseq where
  switches : Vector Switch 16
  /-- each relay's feedback reading: true where it shows closed (section 4.5) -/
  feedback : Vector Bool 16
  queue : List CoilEntry
  pulses : List Pulse
  slot : Option RampSlot
  /-- the ramp waiting list (R82) -/
  rampList : List StringId
  retest : Option Retest
  /-- the CURTAIL line is asserted (R88) -/
  curtail : Bool
  deriving DecidableEq, Repr

/-! ### Reclose Controller and Thermal Shed Controller (chapter 5) -/

/-- The Reclose Controller's timers of one string (R100), each with its expiry time while it runs. -/
structure RecloseTimers where
  reclose : Option Nat
  stable : Option Nat
  deriving DecidableEq, Repr

/-- An entry of the shed stack (R107). -/
structure ShedEntry where
  string : StringId
  current : Nat
  time : Uptime
  deriving DecidableEq, Repr

/-- The Thermal Shed Controller (R107). The stack's top is the head of the list. -/
structure Tsc where
  limit : Option Nat
  total : Option Nat
  overDwell : Nat
  victim : Option StringId
  restoreMark : Option StringId
  lastMove : Option Uptime
  stack : List ShedEntry
  deriving DecidableEq, Repr

/-! ### Insulation Monitor and Ground Search Unit (chapter 6) -/

/-- Who owns a measurement (R121). -/
inductive Owner where
  | periodic
  | search
  deriving DecidableEq, Repr

/-- What a measurement is for (R119). A SEARCH purpose goes with the SEARCH owner. -/
inductive Purpose where
  | routine
  | confirm
  | search
  deriving DecidableEq, Repr

/-- The measurement in flight (R119): its start time, and its end, t_iso later as it stood at the start. -/
structure Measurement where
  owner : Owner
  purpose : Purpose
  startedAt : Nat
  endsAt : Nat
  deriving DecidableEq, Repr

/-- The last reading (R119). -/
structure LastReading where
  reading : Nat
  time : Uptime
  owner : Owner
  deriving DecidableEq, Repr

/-- The Insulation Monitor (R119). The cycle state is `State.cycleState`. -/
structure Imon where
  inFlight : Option Measurement
  /-- the gap timer's expiry time while it runs -/
  gap : Option Nat
  last : Option LastReading
  lowMark : Bool
  suppression : Bool
  deriving DecidableEq, Repr

/-- The search states (R127). -/
inductive SearchState where
  | idle
  | isolate
  | busCheck
  | probeSwitch
  | probeMeasure
  | verifySwitch
  | verifyMeasure
  deriving DecidableEq, Repr

/-- The Ground Search Unit (R127). The lists are P, C, X, K, F, E and V. -/
structure Gsu where
  state : SearchState
  p : List StringId
  c : List StringId
  x : List StringId
  k : List StringId
  f : List StringId
  e : List StringId
  v : List StringId
  /-- the step timer's expiry time while it runs -/
  timer : Option Nat
  restarts : Nat
  measurements : Nat
  busChecked : Bool
  /-- the model's own: strings reported as having left CLOSED whose reports the unit has not taken up -/
  left : List StringId
  deriving DecidableEq, Repr

/-! ### Arc Detector and Fire Line Interface (chapter 7) -/

/-- The Arc Detector (R143). A window mark is true for OVER; the oldest mark comes first. -/
structure Arcd where
  window : List Bool
  ramping : List StringId
  /-- the after-ramp blank's expiry time while it runs -/
  blank : Option Nat
  /-- the blank mark of the interval in progress -/
  intervalBlank : Bool
  latest : Option (Byte × Bool)
  deriving DecidableEq, Repr

/-- The accepted states of the fire loop (section 7.2), in the order of the status byte (R182). -/
inductive LoopState where
  | unknown
  | normal
  | alarm
  | loopFault
  deriving DecidableEq, Repr

/-- The Fire Line Interface (R151). -/
structure Fli where
  accepted : LoopState
  raw : LoopClass
  /-- the debounce timer's expiry time while it runs -/
  debounce : Option Nat
  positionsKnown : Bool
  retestMarks : Vector Bool 16
  /-- the ARRAY SAFE contact is closed (R155) -/
  arraySafe : Bool
  deriving DecidableEq, Repr

/-! ### Ports and Event Router (chapters 8 and 9) -/

/-- The ten result codes, in the order of their codes 0 to 9 (R182). -/
inductive Result where
  | done | doneClamped | busy | notPermitted | badForm | badString | wrongCode | heldOtherCode | state
  | retired
  deriving DecidableEq, Repr

/-- A reply, formed when it became ready (R161). -/
structure Reply where
  address : Byte
  code : Byte
  result : Result
  status : Byte
  body : List Byte
  deriving DecidableEq, Repr

/-- What an outstanding request waits for (R163). -/
inductive Wait where
  /-- commits of stored records, after which the reply with this result and body is ready -/
  | commit (result : Result) (body : List Byte)
  /-- the end of the offset capture -/
  | capture
  /-- the end of the retest -/
  | retest
  deriving DecidableEq, Repr

/-- An outstanding request (R163): its code byte and its wait. -/
structure Outstanding where
  code : Byte
  wait : Wait
  deriving DecidableEq, Repr

/-- A port's receiver (R159): idle, or collecting a frame and expecting the byte of the position named. -/
inductive Receiver where
  | idle
  | address
  | length
  /-- the code, payload and CRC bytes, of which this many are still to come -/
  | body (left : Nat)
  deriving DecidableEq, Repr

/-- One port (R158 to R163). -/
structure PortState where
  /-- the baud rate the port runs at (R168) -/
  baud : Nat
  receiver : Receiver
  /-- when the last byte was received or the last transmission ended, in ms of uptime (R161) -/
  quietFrom : Option Nat
  outstanding : Option Outstanding
  /-- ready replies not yet sent, in the order in which they became ready (R161) -/
  ready : List Reply
  transmitting : Option Reply
  deriving DecidableEq, Repr

/-- The service key (R164): the key state, the input, and the debounce timer's expiry time. -/
structure Key where
  on : Bool
  input : Bool
  debounce : Option Nat
  deriving DecidableEq, Repr

/-- The ports together, with the key and the restart wait of R170. -/
structure Ports where
  port : PerPort PortState
  key : Key
  restartWait : Bool
  deriving DecidableEq, Repr

/-- An event record (R171, R184). `string` is `none` where the field is absent. -/
structure EventRecord where
  kind : EventKind
  string : Option StringId
  time : Uptime
  valueA : BitVec 32
  valueB : BitVec 16
  gap : Bool
  deriving DecidableEq, Repr

/-- A ring's coalescing delay (R175). -/
inductive Delay where
  | stopped
  | running (untilMs : Nat)
  | expired
  deriving DecidableEq, Repr

/-- One port's ring (R173), oldest record first. -/
structure Ring where
  records : List EventRecord
  delay : Delay
  deriving DecidableEq, Repr

/-- The Event Router (R173, R176). -/
structure Evr where
  ring : PerPort Ring
  lastSet : List StringId
  lastIssue : Option Uptime
  /-- the hold-off timer's expiry time while it runs -/
  holdOff : Option Nat
  deriving DecidableEq, Repr

/-! ### The whole part -/

/-- The state of the part: the supply, uptime, the blocks, and the queue of commands that wait. -/
structure State where
  /-- the auxiliary supply is up and the part has started -/
  powered : Bool
  /-- uptime in ms, counted from 0 at each start-up -/
  now : Nat
  /-- the settings in force, presence among them -/
  settings : Settings
  cfs : Cfs
  mfe : Mfe
  handed : Handed
  seval : Seval
  stab : Stab
  sseq : Sseq
  rcl : Vector RecloseTimers 16
  tsc : Tsc
  imon : Imon
  gsu : Gsu
  arcd : Arcd
  fli : Fli
  ports : Ports
  evr : Evr
  /-- the model's own: the Switch Sequencer has reported a change of a switch state, a SWITCH hold or a retest
  mark (R76, R156) that the Fire Line Interface and the Measurement Front End have not taken up (assumption 4) -/
  reports : Bool
  pending : List Instr
  deriving DecidableEq, Repr

/-! ### The part without supply, and reset -/

/-- A string record that holds nothing. -/
def emptyRecord : StringRecord :=
  { holds := noHolds, lockCode := none, overcurrentCount := 0, overcurrent := none,
    faultKind := none, groundDetail := none }

/-- The evaluator's start-up values of a string (R19). -/
def emptyEval : EvalString :=
  { suspicion := 0, suspect := false, lastDeficit := none, reverseDwell := 0, overDwell := 0,
    mark := false }

/-- A switch that is off and runs no timer. -/
def restingSwitch : Switch :=
  { state := .absent, drive := .off, timer := none, dwell := .stopped, lastTest := .unable,
    periods := 0 }

/-- A port with nothing received, outstanding or to send (R158). -/
def idlePort (baud : Nat) : PortState :=
  { baud := baud, receiver := .idle, quietFrom := none, outstanding := none, ready := [],
    transmitting := none }

/-- An empty ring with its delay stopped (R173). -/
def emptyRing : Ring := { records := [], delay := .stopped }

/-- The Ground Search Unit's start-up values (R127). -/
def idleGsu : Gsu :=
  { state := .idle, p := [], c := [], x := [], k := [], f := [], e := [], v := [], timer := none,
    restarts := 0, measurements := 0, busChecked := false, left := [] }

/-- The part without supply: every volatile state cleared, the stored records and the waiting commands kept. -/
def State.off (settingsCopies : Copies Settings) (holdCopies : Copies HoldRecord)
    (pending : List Instr) : State :=
  { powered := false
    now := 0
    settings := defaultSettings
    cfs := { settingsCopies := settingsCopies, holdCopies := holdCopies, queue := [], writing := none }
    mfe := { scanStart := 0, scanLength := 1000, daylight := .night, wakeCount := 0, darkRun := none,
             samples := none, capture := none, fast := Vector.replicate 16 0,
             below := Vector.replicate 16 true }
    handed := { seval := [], tsc := [], arcd := [] }
    seval := { strings := Vector.replicate 16 emptyEval,
               groups := Vector.replicate 4 { reference := none, count := 0 } }
    stab := { strings := Vector.replicate 16 emptyRecord,
              conditions := { fire := false, start := false, store := false, arc := false } }
    sseq := { switches := Vector.replicate 16 restingSwitch, feedback := Vector.replicate 16 false,
              queue := [], pulses := [], slot := none, rampList := [], retest := none,
              curtail := false }
    rcl := Vector.replicate 16 { reclose := none, stable := none }
    tsc := { limit := none, total := none, overDwell := 0, victim := none, restoreMark := none,
             lastMove := none, stack := [] }
    imon := { inFlight := none, gap := none, last := none, lowMark := false, suppression := false }
    gsu := idleGsu
    arcd := { window := [], ramping := [], blank := none, intervalBlank := false, latest := none }
    fli := { accepted := .unknown, raw := .normal, debounce := none, positionsKnown := false,
             retestMarks := Vector.replicate 16 false, arraySafe := false }
    ports := { port := { s := idlePort 19200, v := idlePort 19200, m := idlePort 115200 },
               key := { on := false, input := false, debounce := none }, restartWait := false }
    evr := { ring := { s := emptyRing, v := emptyRing, m := emptyRing }, lastSet := [],
             lastIssue := none, holdOff := none }
    reports := false
    pending := pending }

/-- A copy of a stored record that has never been written. -/
def blankCopies {α : Type} (data : α) : Copies α :=
  { a := { good := false, sequence := 0, data := data },
    b := { good := false, sequence := 0, data := data } }

/-- What the hold record shows of a string with no stored holds. -/
def emptyStored (present : Bool) : StoredString :=
  { present := present, holds := noHolds, lockCode := none, faultKind := none, groundDetail := none }

/-- A part that has never had supply: neither stored record has ever been written. -/
def State.neverStarted : State :=
  State.off (blankCopies defaultSettings) (blankCopies (Vector.replicate 16 (emptyStored true))) []

/-- A hold set of START and STORE (R48). -/
def startAndStore : HoldSet :=
  #v[false, false, false, false, true, true, false, false, false, false, false, false, false, false]

/-- The event records of the start-up that `State.reset` stands for (R181, R156). -/
def resetRestarted : EventRecord :=
  { kind := .restarted, string := none, time := 0, valueA := 0, valueB := 3, gap := false }

/-- ARRAY_SAFE, closed, with no string that is not isolated. -/
def resetArraySafe : EventRecord :=
  { kind := .arraySafe, string := none, time := 0, valueA := 1, valueB := 0, gap := false }

/-- The machine right after reset: a power-up (R179) of a part whose stored records have never been
written, so that both fail their check and are replaced by defaults (R180), with every relay's feedback
open, no current, the key off and the fire loop normal. Every start-up value the chapters give stands
here. `Sys2Proof.Tests` shows that the start-up of R179 leaves exactly this state. -/
def State.reset : State :=
  { State.neverStarted with
    powered := true
    cfs := { State.neverStarted.cfs with
             queue := [{ record := .settings, waiters := [] }, { record := .holds, waiters := [] }],
             writing := some { startedAt := 0, image := .settings defaultSettings } }
    stab := { strings := Vector.replicate 16 { emptyRecord with holds := startAndStore },
              conditions := { fire := false, start := true, store := true, arc := false } }
    sseq := { State.neverStarted.sseq with
              switches := Vector.replicate 16
                { restingSwitch with state := .opened, dwell := .running 5000 } }
    imon := { State.neverStarted.imon with
              inFlight := some { owner := .periodic, purpose := .routine, startedAt := 0,
                                 endsAt := 6000 } }
    fli := { State.neverStarted.fli with
             debounce := some 200, positionsKnown := true, arraySafe := true }
    evr := { State.neverStarted.evr with
             ring := { s := { records := [resetRestarted, resetArraySafe], delay := .expired },
                       v := { records := [resetRestarted], delay := .expired },
                       m := { records := [resetRestarted, resetArraySafe], delay := .expired } } } }

end Sys2Proof.Machine
end

