-- ==== Sys2Proof/Machine/Ops.lean ====
section
/-! DEFINITION. The named operations every block uses: reading the state, replacing a block's part of it,
the arithmetic of section "Arithmetic" of spec/00_scope.md, and the clock. -/

namespace Sys2Proof.Machine

/-! ### Replacing one block's state -/

def State.modCfs (f : Cfs → Cfs) (s : State) : State := { s with cfs := f s.cfs }
def State.modSettings (f : Settings → Settings) (s : State) : State := { s with settings := f s.settings }
def State.modMfe (f : Mfe → Mfe) (s : State) : State := { s with mfe := f s.mfe }
def State.modHanded (f : Handed → Handed) (s : State) : State := { s with handed := f s.handed }
def State.modSeval (f : Seval → Seval) (s : State) : State := { s with seval := f s.seval }
def State.modStab (f : Stab → Stab) (s : State) : State := { s with stab := f s.stab }
def State.modSseq (f : Sseq → Sseq) (s : State) : State := { s with sseq := f s.sseq }
def State.modTsc (f : Tsc → Tsc) (s : State) : State := { s with tsc := f s.tsc }
def State.modImon (f : Imon → Imon) (s : State) : State := { s with imon := f s.imon }
def State.modGsu (f : Gsu → Gsu) (s : State) : State := { s with gsu := f s.gsu }
def State.modArcd (f : Arcd → Arcd) (s : State) : State := { s with arcd := f s.arcd }
def State.modFli (f : Fli → Fli) (s : State) : State := { s with fli := f s.fli }
def State.modPorts (f : Ports → Ports) (s : State) : State := { s with ports := f s.ports }
def State.modEvr (f : Evr → Evr) (s : State) : State := { s with evr := f s.evr }
def State.modReports (f : Bool → Bool) (s : State) : State := { s with reports := f s.reports }

/-- Replace the Reclose Controller's timers of one string. -/
def State.modRcl (i : StringId) (f : RecloseTimers → RecloseTimers) (s : State) : State :=
  { s with rcl := s.rcl.set i (f s.rcl[i]) }

/-- Replace one string record of the String Table. -/
def State.modString (i : StringId) (f : StringRecord → StringRecord) (s : State) : State :=
  s.modStab fun t => { t with strings := t.strings.set i (f t.strings[i]) }

/-- Replace the settings of one string. -/
def State.modStringSettings (i : StringId) (f : StringSettings → StringSettings) (s : State) : State :=
  s.modSettings fun t => { t with strings := t.strings.set i (f t.strings[i]) }

/-- Replace the sequencer's state of one string. -/
def State.modSwitch (i : StringId) (f : Switch → Switch) (s : State) : State :=
  s.modSseq fun q => { q with switches := q.switches.set i (f q.switches[i]) }

/-- Replace the evaluator's state of one string. -/
def State.modEval (i : StringId) (f : EvalString → EvalString) (s : State) : State :=
  s.modSeval fun e => { e with strings := e.strings.set i (f e.strings[i]) }

/-- Replace one port. -/
def State.modPort (p : Port) (f : PortState → PortState) (s : State) : State :=
  s.modPorts fun t => { t with port := t.port.put p (f (t.port.get p)) }

/-- Replace one ring. -/
def State.modRing (p : Port) (f : Ring → Ring) (s : State) : State :=
  s.modEvr fun e => { e with ring := e.ring.put p (f (e.ring.get p)) }

/-! ### Reading the state -/

/-- Uptime in 10 ms units, as events and replies carry it (R171). -/
def State.uptime (s : State) : Uptime := BitVec.ofNat 32 (s.now / 10)

/-- A setting in force. -/
def State.cfg (s : State) (k : Setting) : Int := s.settings.values[k.slot]

/-- A setting in force that is never negative. -/
def State.cfgNat (s : State) (k : Setting) : Nat := (s.cfg k).toNat

/-- What the settings record holds of a string. -/
def State.strSet (s : State) (i : StringId) : StringSettings := s.settings.strings[i]

/-- A string's presence (R41). -/
def State.present (s : State) (i : StringId) : Bool := (s.strSet i).present

/-- A string's record. -/
def State.str (s : State) (i : StringId) : StringRecord := s.stab.strings[i]

/-- A string carries a hold of a kind. -/
def State.has (s : State) (k : HoldKind) (i : StringId) : Bool := (s.str i).holds[k.slot]

/-- A string's target is CLOSED (R50). -/
def State.target (s : State) (i : StringId) : Bool := s.present i && decide ((s.str i).holds = noHolds)

/-- The sequencer's state of a string. -/
def State.sw (s : State) (i : StringId) : Switch := s.sseq.switches[i]

/-- A string's switch state (R74). -/
def State.switchState (s : State) (i : StringId) : SwitchState := (s.sw i).state

/-- A string's relay feedback shows closed. -/
def State.feedback (s : State) (i : StringId) : Bool := s.sseq.feedback[i]

/-- A string's fast below-zero indication (R9). -/
def State.below (s : State) (i : StringId) : Bool := s.mfe.below[i]

/-- A string's fast detector reading (R9). -/
def State.fast (s : State) (i : StringId) : Nat := s.mfe.fast[i]

/-- The evaluator's state of a string. -/
def State.eval (s : State) (i : StringId) : EvalString := s.seval.strings[i]

/-- The strings that satisfy a test, in ascending order. -/
def stringsWhere (f : StringId → Bool) : List StringId := allStrings.filter f

/-- The strings whose switch state is CLOSED. -/
def State.closedSet (s : State) : List StringId := stringsWhere fun i => s.switchState i == .closed

/-- One port. -/
def State.port (s : State) (p : Port) : PortState := s.ports.port.get p

/-- One ring. -/
def State.ring (s : State) (p : Port) : Ring := s.evr.ring.get p

/-- A ground search is active (R127). -/
def State.searchActive (s : State) : Bool := s.gsu.state != .idle

/-- The released set of a search's current step (R128). -/
def State.released (s : State) (i : StringId) : Bool :=
  match s.gsu.state with
  | .idle => false
  | .isolate | .busCheck => s.gsu.k.contains i
  | .probeSwitch | .probeMeasure => s.gsu.k.contains i || s.gsu.x.contains i
  | .verifySwitch | .verifyMeasure => s.gsu.k.contains i || s.gsu.v.contains i

/-- The Insulation Monitor's cycle states (R119). -/
inductive CycleState where
  | measuring
  | gap
  | held
  deriving DecidableEq, Repr

/-- The cycle state: MEASURING while a measurement is in flight, GAP while the gap timer runs, else HELD (R119). -/
def State.cycleState (s : State) : CycleState :=
  if s.imon.inFlight.isSome then .measuring else if s.imon.gap.isSome then .gap else .held

/-- The Arc Detector's over count: the OVER marks in its window (R143). -/
def State.overCount (s : State) : Nat := s.arcd.window.count true

/-- The RESTART reply of R170 is still to be sent, or is being sent, on port M. -/
def State.restartReplyWaits (s : State) : Bool :=
  let p := s.port .m
  (p.ready ++ p.transmitting.toList).any fun r => r.code == 0x91 && r.result == .done

/-! ### Timers and the clock -/

/-- A running timer has reached its expiry time. -/
def State.due (s : State) (timer : Option Nat) : Bool :=
  match timer with
  | some t => decide (t ≤ s.now)
  | none => false

/-- The expiry time of a timer that starts now and runs for `ms`. -/
def State.after (s : State) (ms : Nat) : Nat := s.now + ms

/-- A string's dwell has passed: t_dwell has elapsed since its relay was last confirmed open (R78). -/
def State.dwellOver (s : State) (i : StringId) : Bool :=
  match (s.sw i).dwell with
  | .stopped => false
  | .running t => decide (t ≤ s.now)
  | .passed => true

/-- One ms of uptime passes (assumption 1). -/
def State.tick (s : State) : State := if s.powered then { s with now := s.now + 1 } else s

/-! ### Sets and lists of strings -/

/-- A list of strings less the members of another. -/
def minus (xs ys : List StringId) : List StringId := xs.filter fun i => !ys.contains i

/-- The union of two lists of strings, in ascending order, no string twice. -/
def union (xs ys : List StringId) : List StringId :=
  stringsWhere fun i => xs.contains i || ys.contains i

/-- Apply an operation to the strings of a list, in the order of the list. -/
def forStrings (f : StringId → State → State) : List StringId → State → State
  | [], s => s
  | i :: rest, s => forStrings f rest (f i s)

/-- The string with a number, if it is 1 to 16. -/
def stringOfNumber (n : Nat) : Option StringId :=
  if h : 1 ≤ n ∧ n ≤ 16 then some ⟨n - 1, by omega⟩ else none

/-! ### Arithmetic (spec/00_scope.md, section Arithmetic) -/

/-- Clamped to a range. -/
def clampInt (lo hi x : Int) : Int := max lo (min hi x)

/-- A quotient rounded to the nearest integer, halves away from zero. -/
def roundDiv (n : Int) (d : Nat) : Int :=
  if 0 ≤ n then (2 * n + d) / (2 * d) else -((2 * -n + d) / (2 * d))

/-- A quotient truncated toward zero. -/
def truncDiv (n : Int) (d : Int) : Int := Int.tdiv n d

/-- Insert a number into a list sorted ascending. -/
def insertAscending (x : Nat) : List Nat → List Nat
  | [] => [x]
  | y :: ys => if x ≤ y then x :: y :: ys else y :: insertAscending x ys

/-- Sorted ascending, equal values kept as often as they occur. -/
def sortAscending : List Nat → List Nat
  | [] => []
  | x :: xs => insertAscending x (sortAscending xs)

/-! ### Bytes, most significant first (R182) -/

/-- A number as one byte. -/
def byte (n : Nat) : Byte := BitVec.ofNat 8 n

/-- Sixteen bits as two bytes. -/
def bytes16 (x : BitVec 16) : List Byte := [x.extractLsb' 8 8, x.extractLsb' 0 8]

/-- Thirty-two bits as four bytes. -/
def bytes32 (x : BitVec 32) : List Byte :=
  [x.extractLsb' 24 8, x.extractLsb' 16 8, x.extractLsb' 8 8, x.extractLsb' 0 8]

/-- A set of strings as its sixteen-bit field: bit n - 1 for string n (R182). -/
def setBits (xs : List StringId) : Nat := (xs.map fun i => 2 ^ i.val).sum

/-- A Boolean as the bit `k` of a number. -/
def bitAt (k : Nat) (b : Bool) : Nat := if b then 2 ^ k else 0

end Sys2Proof.Machine
end

