-- ==== Sys2Proof/Machine/Flags.lean ====
section
/-! DEFINITION. The flags the part computes: the attention flag of a ring (R175) and the status byte of a
reply (R182). -/

namespace Sys2Proof.Machine

/-- The n_notify setting of a port's ring (section 9.4). -/
def notifyOf : Port → Setting
  | .s => .nNotifyS
  | .v => .nNotifyV
  | .m => .nNotifyM

/-- The t_coalesce setting of a port's ring (section 9.4). -/
def coalesceOf : Port → Setting
  | .s => .tCoalesceS
  | .v => .tCoalesceV
  | .m => .tCoalesceM

/-- A ring's attention flag (R175). It is worked out from the ring where it is read, so it is always up to date. -/
def State.attention (s : State) (p : Port) : Bool :=
  let r := s.ring p
  decide (s.cfgNat (notifyOf p) ≤ r.records.length) || (r.delay == .expired && !r.records.isEmpty)

/-- The code of an accepted loop state (R182). -/
def loopCode : LoopState → Nat
  | .unknown => 0
  | .normal => 1
  | .alarm => 2
  | .loopFault => 3

/-- The status byte of a reply on a port (R182), as the part stands now (R161). -/
def State.statusByte (s : State) (p : Port) : Byte :=
  byte (bitAt 0 (s.attention p) + bitAt 1 s.ports.key.on + 4 * loopCode s.fli.accepted
        + bitAt 4 s.searchActive + bitAt 5 s.fli.arraySafe)

/-- The code of a result (R182). -/
def resultCode : Result → Byte
  | .done => 0
  | .doneClamped => 1
  | .busy => 2
  | .notPermitted => 3
  | .badForm => 4
  | .badString => 5
  | .wrongCode => 6
  | .heldOtherCode => 7
  | .state => 8
  | .retired => 9

/-- The code of a switch state (R184). -/
def switchCode : SwitchState → Nat
  | .absent => 0
  | .opened => 1
  | .pendingClose => 2
  | .relayClosing => 3
  | .rampWait => 4
  | .ramping => 5
  | .closed => 6
  | .interrupting => 7
  | .curtailWait => 8
  | .pendingOpen => 9
  | .relayOpening => 10
  | .faulted => 11

/-- The code of a fault kind (R184). -/
def faultCode : FaultKind → Nat
  | .failToClose => 0
  | .failToOpen => 1
  | .lostClosed => 2
  | .uncommandedClosed => 3

end Sys2Proof.Machine
end

