-- ==== Sys2Proof/Machine/Events.lean ====
section
/-! DEFINITION. The Event Router (chapter 9): event records, the routing table, the three rings with their
coalescing delays, and CONNECTED_SET. -/

namespace Sys2Proof.Machine

/-- The most records a ring holds (R173). -/
def ringSize : Nat := 32

/-- A copy joins a ring: a full ring first loses its oldest record, and the copy's gap flag says so (R173). -/
def Ring.push (r : Ring) (e : EventRecord) : Ring :=
  if r.records.length < ringSize then { r with records := r.records ++ [{ e with gap := false }] }
  else { r with records := r.records.drop 1 ++ [{ e with gap := true }] }

/-- The delay of a ring that a copy joins at `now`, with t_coalesce as it stands, in 10 ms units (R175). -/
def Delay.onJoin (d : Delay) (now length : Nat) : Delay :=
  match d with
  | .stopped => if length = 0 then .expired else .running (now + 10 * length)
  | d => d

/-- One copy of a record joins one port's ring (R173, R175). -/
def State.joinRing (p : Port) (e : EventRecord) (s : State) : State :=
  s.modRing p fun r => { r.push e with delay := r.delay.onJoin s.now (s.cfgNat (coalesceOf p)) }

/-- The routing table names a port's ring for a kind (R172). -/
def State.routed (s : State) (k : EventKind) (p : Port) : Bool := (s.settings.routes[k.slot]).get p

/-- The Event Router takes a record up: one copy into each ring routed for its kind (R171). -/
def State.route (e : EventRecord) (s : State) : State :=
  let copy (p : Port) (s : State) : State := if s.routed e.kind p then s.joinRing p e else s
  copy .m (copy .v (copy .s s))

/-- A block hands the Event Router a record stamped with a scan's completion time (R171). -/
def State.emitAt (time : Uptime) (k : EventKind) (i : Option StringId) (a b : Int) (s : State) : State :=
  s.route { kind := k, string := i, time := time, valueA := BitVec.ofInt 32 a,
            valueB := BitVec.ofInt 16 b, gap := false }

/-- A block hands the Event Router a record stamped with the uptime (R171). -/
def State.emit (k : EventKind) (i : Option StringId) (a b : Int) (s : State) : State :=
  s.emitAt s.uptime k i a b

/-! ### CONNECTED_SET (R176) -/

/-- Issue CONNECTED_SET with the strings now CLOSED. A hold-off timer still running is past its end and stops:
it runs to 1 s after the last issue, and what changes in the second after this one starts it anew. -/
def State.issueConnected (s : State) : State :=
  let now := s.closedSet
  let s := s.emit .connectedSet none (setBits now) now.length
  s.modEvr fun e => { e with lastSet := now, lastIssue := some s.uptime, holdOff := none }

/-- At least 1 s has passed since the last CONNECTED_SET, or there was none (R176). -/
def State.connectedMayIssue (s : State) : Bool :=
  match s.evr.lastIssue with
  | none => true
  | some t => decide (100 ≤ (s.uptime - t).toNat)

/-- The comparison of R176 at a report that a string entered or left CLOSED. A difference inside the second
starts the hold-off timer, which runs until 100 units of uptime have passed since the last issue. -/
def State.connectedCheck (s : State) : State :=
  if s.closedSet = s.evr.lastSet then s
  else if s.connectedMayIssue then s.issueConnected
  else
    match s.evr.holdOff, s.evr.lastIssue with
    | none, some t =>
      s.modEvr fun e => { e with holdOff := some (10 * (s.now / 10 + (100 - (s.uptime - t).toNat))) }
    | _, _ => s

/-- The hold-off timer expires: the sets are compared again (R176). -/
def State.holdOffExpires (s : State) : State :=
  let s := s.modEvr fun e => { e with holdOff := none }
  if s.closedSet = s.evr.lastSet then s else s.issueConnected

/-- A running coalescing delay reaches its expiry time (R175). -/
def State.coalesceExpires (p : Port) (s : State) : State :=
  match (s.ring p).delay with
  | .running t => if t ≤ s.now then s.modRing p fun r => { r with delay := .expired } else s
  | _ => s

/-- A fetch takes up to `n` of the oldest records; one that leaves the ring empty stops the delay (R174, R175). -/
def Ring.fetch (r : Ring) (n : Nat) : List EventRecord × Ring :=
  let rest := r.records.drop n
  (r.records.take n, { records := rest, delay := if rest.isEmpty then .stopped else r.delay })

end Sys2Proof.Machine
end

