-- ==== Sys2Proof/Machine/Ports.lean ====
section
/-! DEFINITION. The ports' side of a reply (sections 8.1 and 8.2): a reply becoming ready, deferred replies,
and the sending of replies. -/

namespace Sys2Proof.Machine

/-- The address a port's replies carry: its unit address on S and V, 0 on M (R161). -/
def State.unitAddress (s : State) : Port → Byte
  | .s => byte (s.cfgNat .addrS)
  | .v => byte (s.cfgNat .addrV)
  | .m => 0

/-- The reply to a request code becomes ready, formed as the part stands now (R161). -/
def State.reply (p : Port) (code : Byte) (result : Result) (body : List Byte) (s : State) : State :=
  s.modPort p fun t => { t with
    ready := t.ready ++ [{ address := s.unitAddress p, code := code ||| 0x80, result := result,
                           status := s.statusByte p, body := body }] }

/-- A port's outstanding request ends with a reply (R163). -/
def State.endOutstanding (p : Port) (result : Result) (body : List Byte) (s : State) : State :=
  match (s.port p).outstanding with
  | some o => (s.modPort p fun t => { t with outstanding := none }).reply p o.code result body
  | none => s

/-- A request starts to wait (R163). -/
def State.startWait (p : Port) (code : Byte) (wait : Wait) (s : State) : State :=
  s.modPort p fun t => { t with outstanding := some { code := code, wait := wait } }

/-- A deferred reply whose commits have completed becomes ready (R178). -/
def State.endCommitWait (p : Port) (s : State) : State :=
  match (s.port p).outstanding with
  | some { code := _, wait := .commit result body } => s.endOutstanding p result body
  | _ => s

/-- The request on port M that waits for a capture or a retest ends with STATE (R16, R96, R98). -/
def State.endUnitWait (wait : Wait) (s : State) : State :=
  match (s.port .m).outstanding with
  | some o => if o.wait = wait then s.endOutstanding .m .state [] else s
  | none => s

/-! ### The receiver (R159) -/

/-- The position a byte takes the receiver to. In the address or the length position 0xA5 starts a new frame; a
length of 0 or above 121 gives the frame up; the length counts the code and the payload, and two CRC bytes follow. -/
def Receiver.next (r : Receiver) (b : Byte) : Receiver :=
  match r with
  | .idle => if b = 0xA5 then .address else .idle
  | .address => if b = 0xA5 then .address else .length
  | .length =>
    if b = 0xA5 then .address else if b = 0 ∨ 121 < b.toNat then .idle else .body (b.toNat + 2)
  | .body n => if n ≤ 1 then .idle else .body (n - 1)

/-- The receiver expects the second CRC byte, which ends the frame. -/
def Receiver.ending (r : Receiver) : Bool :=
  match r with
  | .body n => decide (n ≤ 1)
  | _ => false

/-- The position that bytes in close succession take the receiver to; `none` where one of them ends a frame,
which is then no partial frame. -/
def Receiver.hear : Receiver → List Byte → Option Receiver
  | r, [] => some r
  | r, b :: bs => if r.ending then none else Receiver.hear (r.next b) bs

/-- More than 20 ms have passed since the last byte on the port. -/
def PortState.silent (t : PortState) (now : Nat) : Bool :=
  match t.quietFrom with
  | some q => decide (q + 20 < now)
  | none => false

/-- The position that bytes arriving at `now` take a port's receiver to: after the silence they are received
from the idle state. -/
def PortState.hear (t : PortState) (bytes : List Byte) (now : Nat) : Option Receiver :=
  Receiver.hear (if t.silent now then .idle else t.receiver) bytes

/-- A port's reply may start transmission (R161): one is ready, the port is neither collecting nor
transmitting, and 2 ms have passed since the last byte received and the end of any earlier transmission. -/
def PortState.maySend (t : PortState) (now : Nat) : Bool :=
  !t.ready.isEmpty && decide (t.receiver = .idle) && t.transmitting.isNone &&
    (match t.quietFrom with
     | none => true
     | some q => decide (q + 2 ≤ now))

/-- The oldest ready reply starts transmission (R161). -/
def PortState.send (t : PortState) : PortState :=
  match t.ready with
  | [] => t
  | r :: rest => { t with ready := rest, transmitting := some r }

/-- A transmission ends at `now`; the receiver is idle (R160, R161). -/
def PortState.sent (t : PortState) (now : Nat) : PortState :=
  { t with transmitting := none, receiver := .idle, quietFrom := some now }

/-- A port has heard a byte at `now`, which left its receiver as given; at the end of a frame it is idle (R159). -/
def PortState.heard (t : PortState) (now : Nat) (r : Receiver) : PortState :=
  { t with receiver := r, quietFrom := some now }

end Sys2Proof.Machine
end

