-- ==== Sys2Proof/Machine/Store.lean ====
section
/-! DEFINITION. The Configuration Store (chapter 10): the two copies of each record, the commit queue and
the write in progress. -/

namespace Sys2Proof.Machine

/-! ### The two copies (R177) -/

/-- The latest good version: the copy whose check is correct, and the higher sequence number of two. -/
def Copies.latest {α : Type} (c : Copies α) : Option (Copy α) :=
  match c.a.good, c.b.good with
  | true, true => if c.b.sequence ≤ c.a.sequence then some c.a else some c.b
  | true, false => some c.a
  | false, true => some c.b
  | false, false => none

/-- The next write goes into copy B: the copy that does not hold the latest good version. -/
def Copies.targetIsB {α : Type} (c : Copies α) : Bool :=
  match c.a.good, c.b.good with
  | true, true => decide (c.b.sequence ≤ c.a.sequence)
  | true, false => true
  | false, true => false
  | false, false => Config.firstCopyIsB

/-- The sequence number of the next write: one above the latest good version's. -/
def Copies.nextSequence {α : Type} (c : Copies α) : Nat :=
  match c.latest with
  | some v => v.sequence + 1
  | none => Config.firstSequence

/-- A write completes (R177). -/
def Copies.write {α : Type} (c : Copies α) (data : α) : Copies α :=
  let copy : Copy α := { good := true, sequence := c.nextSequence, data := data }
  if c.targetIsB then { c with b := copy } else { c with a := copy }

/-- A supply loss in the middle of a write leaves the copy being written failed (R177). -/
def Copies.spoil {α : Type} (c : Copies α) : Copies α :=
  match c.a.good, c.b.good with
  | false, false => c
  | _, _ =>
    if c.targetIsB then { c with b := { c.b with good := false } }
    else { c with a := { c.a with good := false } }

/-- Copies found at a start-up not to pass their check (R177). -/
def Copies.fail {α : Type} (c : Copies α) (aFails bFails : Bool) : Copies α :=
  { a := { c.a with good := c.a.good && !aFails }, b := { c.b with good := c.b.good && !bFails } }

/-! ### What a commit writes -/

/-- The seven stored kinds (R46). -/
def HoldKind.stored : HoldKind → Bool
  | .svc | .fire | .reverse | .ground | .arc | .switch | .retired => true
  | .sup | .inv | .start | .store | .overcurrent | .search | .thermal => false

/-- A hold set less its volatile kinds. -/
def storedHolds (h : HoldSet) : HoldSet :=
  #v[false, false, h[2], h[3], false, false, h[6], false, h[8], false, h[10], false, h[12], h[13]]

/-- What the hold record holds of a string now (R177). -/
def State.storedString (s : State) (i : StringId) : StoredString :=
  let r := s.str i
  { present := s.present i, holds := storedHolds r.holds, lockCode := r.lockCode,
    faultKind := r.faultKind, groundDetail := r.groundDetail }

/-- A record as it stands at this moment (R178). -/
def State.image (s : State) : StoreRecord → WriteImage
  | .settings => .settings s.settings
  | .holds => .holds (tab s.storedString)

/-! ### The commit queue (R178) -/

/-- Entries that wait: all but the head while it is being written. -/
def Cfs.waiting (c : Cfs) : List CommitEntry := if c.writing.isSome then c.queue.drop 1 else c.queue

/-- A request joins the entry of its record in a list of waiting entries, or a new entry joins the end. -/
def joinCommit (r : StoreRecord) (w : List Port) : List CommitEntry → List CommitEntry
  | [] => [{ record := r, waiters := w }]
  | e :: es =>
    if e.record = r then { e with waiters := e.waiters ++ w } :: es else e :: joinCommit r w es

/-- A commit of a record is asked for, with the ports whose deferred replies wait on it (R178). -/
def State.askCommit (r : StoreRecord) (w : List Port) (s : State) : State :=
  s.modCfs fun c => { c with
    queue := (if c.writing.isSome then c.queue.take 1 else []) ++ joinCommit r w c.waiting }

/-- The head entry's write begins, if none is in progress, with the record as it stands (R178). A step
ends with this, so that one step's changes to a record go into one write (assumption 5). -/
def State.beginWrite (s : State) : State :=
  match s.cfs.writing, s.cfs.queue with
  | none, e :: _ => s.modCfs fun c => { c with writing := some { startedAt := s.now, image := s.image e.record } }
  | _, _ => s

/-- A write's content reaches its copy. -/
def Cfs.finish (c : Cfs) (image : WriteImage) : Cfs :=
  match image with
  | .settings x => { c with settingsCopies := c.settingsCopies.write x, queue := c.queue.drop 1, writing := none }
  | .holds x => { c with holdCopies := c.holdCopies.write x, queue := c.queue.drop 1, writing := none }

/-- The replies on a completed entry's list become ready, but for one that still waits on another entry
(R178: SET PRESENCE waits for the later of the two). -/
def releaseWaiters (rest : List CommitEntry) : List Port → State → State
  | [], s => s
  | p :: ps, s =>
    releaseWaiters rest ps (if rest.any fun e => e.waiters.contains p then s else s.endCommitWait p)

/-- The least time a write takes, in ms (R178: 5 to 50 ms). -/
def leastWrite : Nat := 5

/-- A record's write completes (R178). -/
def State.commitCompletes (s : State) : State :=
  match s.cfs.writing, s.cfs.queue with
  | some w, e :: rest =>
    if w.startedAt + leastWrite ≤ s.now then
      (releaseWaiters rest e.waiters (s.modCfs fun c => c.finish w.image)).beginWrite
    else s
  | _, _ => s

/-- Supply is lost: the write in progress leaves its copy failed, and the queue is lost (R177, R178). -/
def Cfs.loseSupply (c : Cfs) : Cfs :=
  let c := match c.writing with
    | some { startedAt := _, image := .settings _ } => { c with settingsCopies := c.settingsCopies.spoil }
    | some { startedAt := _, image := .holds _ } => { c with holdCopies := c.holdCopies.spoil }
    | none => c
  { c with queue := [], writing := none }

end Sys2Proof.Machine
end

