-- ==== Sys2Proof/Machine/Operands.lean ====
section
/-! DEFINITION. The operand forms of requests (chapter 11): frames and their CRC, payload sizes and fields,
lock codes, lists of strings, set bytes and setting indices. -/

namespace Sys2Proof.Machine

/-! ### Frames (sections 8.1 and R182) -/

/-- One bit of the CRC-16 register, polynomial 0x1021, most significant bit first. -/
def crcBit (crc : BitVec 16) : BitVec 16 :=
  if crc.msb then (crc <<< 1) ^^^ 0x1021 else crc <<< 1

/-- One byte taken into the CRC register. -/
def crcByte (crc : BitVec 16) (b : Byte) : BitVec 16 :=
  let c := crc ^^^ (b.setWidth 16 <<< 8)
  crcBit (crcBit (crcBit (crcBit (crcBit (crcBit (crcBit (crcBit c)))))))

/-- The CRC-16 of a frame's bytes from its address on: initial value all ones, no final inversion. -/
def crc16 (bytes : List Byte) : BitVec 16 := bytes.foldl crcByte 0xFFFF

/-- A reply as the bytes of its frame, from the start byte to the second CRC byte (R161, R182, R183). -/
def Reply.frame (r : Reply) : List Byte :=
  let inner := [r.address, byte (3 + r.body.length), r.code, resultCode r.result, r.status] ++ r.body
  0xA5 :: inner ++ bytes16 (crc16 inner)

/-- A frame, from its address byte to its second CRC byte, has the size its length byte gives (R159). -/
def frameWhole (frame : List Byte) : Bool :=
  match frame with
  | a :: n :: rest => a != 0xA5 && n != 0 && decide (n.toNat ≤ 121) && rest.length == n.toNat + 2
  | _ => false

/-- A completed frame's received CRC is the one computed over its bytes (R160). -/
def crcRight (frame : List Byte) : Bool :=
  let inner := frame.take (frame.length - 2)
  frame.drop (frame.length - 2) == bytes16 (crc16 inner)

/-- A completed frame is addressed to a port: to its unit address on S and V, as it stands when the frame ends
(assumption 20); M takes any (R160). -/
def State.addressed (s : State) (p : Port) (frame : List Byte) : Bool :=
  match p, frame with
  | .m, _ => true
  | _, a :: _ => a == s.unitAddress p
  | _, [] => false

/-! ### Request codes and payload sizes (R183) -/

/-- The code byte of a request (R183). -/
def requestCode : RequestCode → Byte
  | .status => 0x01
  | .readString => 0x02
  | .hold => 0x03
  | .release => 0x04
  | .acknowledge => 0x05
  | .fireRestore => 0x06
  | .retire => 0x07
  | .retestSwitch => 0x08
  | .calibrate => 0x09
  | .setPresence => 0x0A
  | .searchStart => 0x0B
  | .searchAbort => 0x0C
  | .fetchEvents => 0x0D
  | .readSetting => 0x0E
  | .writeSetting => 0x0F
  | .writeRoute => 0x10
  | .restart => 0x11

/-- A code byte is one of the seventeen request codes. -/
def knownCode (code : Byte) : Bool := decide (1 ≤ code.toNat) && decide (code.toNat ≤ 17)

/-- The payload's size fits the request's layout for the port (R162, step 3): exact where the layout has
no list, and at least the fixed part where it ends in a list of one-byte entries. -/
def sizeFits (q : RequestCode) (p : Port) (payload : List Byte) : Bool :=
  let n := payload.length
  match q with
  | .status | .fireRestore | .searchStart | .searchAbort | .restart => n == 0
  | .readString | .retestSwitch | .calibrate | .fetchEvents => n == 1
  | .hold | .release => if p = .m then decide (8 ≤ n) else true
  | .acknowledge => decide (1 ≤ n)
  | .retire => n == 9
  | .setPresence => n == 10
  | .readSetting | .writeRoute => n == 2
  | .writeSetting => n == 6

/-! ### Fields of a payload -/

/-- The byte at a place of a payload. -/
def byteAt (payload : List Byte) (k : Nat) : Byte := payload.getD k 0

/-- A number of bytes, most significant first. -/
def numberOf (bytes : List Byte) : Nat := bytes.foldl (fun n b => 256 * n + b.toNat) 0

/-- Eight bytes as a lock code. -/
def lockCodeOf (bytes : List Byte) : LockCode := BitVec.ofNat 64 (numberOf (bytes.take 8))

/-- Four bytes as a signed value (R182). -/
def signed32Of (bytes : List Byte) : Int := (BitVec.ofNat 32 (numberOf (bytes.take 4))).toInt

/-- The list of a HOLD or RELEASE on a port: it follows the lock code on M (R183). -/
def listOf (p : Port) (payload : List Byte) : List Byte := if p = .m then payload.drop 8 else payload

/-- The distinct values of a list of string bytes, in ascending order (R54). -/
def distinctValues (list : List Byte) : List Byte :=
  ((List.range 256).map (BitVec.ofNat 8)).filter fun v => list.contains v

/-- The strings a list that has passed its checks names, in ascending order. -/
def stringsOf (list : List Byte) : List StringId :=
  stringsWhere fun i => list.contains (byte (stringNumber i))

/-- The string a byte names. -/
def stringOfByte (b : Byte) : Option StringId := stringOfNumber b.toNat

/-! ### Kinds, rings and presence -/

/-- The five kinds of ACKNOWLEDGE. -/
inductive AckKind where
  | reverse
  | ground
  | arc
  | overcurrent
  | store
  deriving DecidableEq, Repr

/-- The kind flag of ACKNOWLEDGE (R183). -/
def AckKind.flag : AckKind → Byte
  | .reverse => 1
  | .ground => 2
  | .arc => 4
  | .overcurrent => 8
  | .store => 16

/-- The kind a kind byte names when exactly one of the five flags, and no undefined bit, is set (R61, R182). -/
def ackKindOf (b : Byte) : Option AckKind :=
  if b = 1 then some .reverse
  else if b = 2 then some .ground
  else if b = 4 then some .arc
  else if b = 8 then some .overcurrent
  else if b = 16 then some .store
  else none

/-- All event kinds, in code order (R184). -/
def allKinds : List EventKind :=
  [.stringIsolated, .stringConnected, .connectedSet, .suspectSet, .suspectCleared, .reverseTrip,
   .overcurrentTrip, .insulationLow, .searchStarted, .searchResult, .arcTrip, .fireLine, .arraySafe,
   .thermalShed, .thermalRestore, .switchFault, .interruptFailed, .isolationFailed, .holdChanged,
   .closeBlocked, .restarted, .daylight]

/-- The event kind a code names: 1 to 22 (R184). -/
def kindOfCode (b : Byte) : Option EventKind :=
  if b.toNat = 0 then none else allKinds[b.toNat - 1]?

/-- The subset of rings a ring byte gives: bits 0 to 2, the rest undefined (R183, R182). -/
def ringsOf (b : Byte) : Option (PerPort Bool) :=
  if b.toNat ≤ 7 then some { s := b.getLsbD 0, v := b.getLsbD 1, m := b.getLsbD 2 } else none

/-! ### Setting indices (section 11.2) -/

/-- What a setting index names. -/
inductive SettingRef where
  | whole (k : Setting)
  | offset
  | gain
  | range
  | group
  | rank
  deriving DecidableEq, Repr

/-- The setting an index names (section 11.2). -/
def settingOfIndex (b : Byte) : Option SettingRef :=
  match b.toNat with
  | 0x01 => some (.whole .tScan) | 0x02 => some (.whole .vWake)
  | 0x03 => some .offset | 0x04 => some .gain | 0x05 => some .range
  | 0x06 => some (.whole .k25) | 0x07 => some (.whole .kSlope)
  | 0x10 => some (.whole .iFloor) | 0x11 => some (.whole .tD) | 0x12 => some (.whole .stepUp)
  | 0x13 => some (.whole .sSuspect) | 0x14 => some (.whole .iRev) | 0x15 => some (.whole .nRev)
  | 0x16 => some (.whole .iOver) | 0x17 => some (.whole .nOver)
  | 0x18 => some .group | 0x19 => some .rank
  | 0x20 => some (.whole .tCoil) | 0x21 => some (.whole .tConfirm) | 0x22 => some (.whole .tRamp)
  | 0x23 => some (.whole .tSpace) | 0x24 => some (.whole .tDwell) | 0x25 => some (.whole .tInterrupt)
  | 0x26 => some (.whole .tCurtail) | 0x27 => some (.whole .iZero) | 0x28 => some (.whole .kQual)
  | 0x29 => some (.whole .tQual)
  | 0x30 => some (.whole .tBase) | 0x31 => some (.whole .recloseLimit) | 0x32 => some (.whole .tStable)
  | 0x38 => some (.whole .lRated) | 0x39 => some (.whole .tKnee) | 0x3A => some (.whole .tCut)
  | 0x3B => some (.whole .nShed) | 0x3C => some (.whole .tShedGap)
  | 0x40 => some (.whole .tIso) | 0x41 => some (.whole .tGap) | 0x42 => some (.whole .rTrip)
  | 0x43 => some (.whole .rClear) | 0x44 => some (.whole .searchEnable) | 0x45 => some (.whole .tStep)
  | 0x48 => some (.whole .aTrip) | 0x49 => some (.whole .aCount) | 0x4A => some (.whole .tBlank)
  | 0x50 => some (.whole .addrS) | 0x51 => some (.whole .addrV)
  | 0x52 => some (.whole .baudS) | 0x53 => some (.whole .baudV)
  | 0x58 => some (.whole .nNotifyS) | 0x59 => some (.whole .nNotifyV) | 0x5A => some (.whole .nNotifyM)
  | 0x5B => some (.whole .tCoalesceS) | 0x5C => some (.whole .tCoalesceV)
  | 0x5D => some (.whole .tCoalesceM)
  | _ => none

/-- A per-string setting (section 11.2, mark P). -/
def SettingRef.perString : SettingRef → Bool
  | .whole _ => false
  | _ => true

/-- A setting reserved to port M (R167; section 11.2, mark M). -/
def SettingRef.reserved : SettingRef → Bool
  | .offset | .gain => true
  | .whole k => k = .k25 || k = .kSlope || k = .addrS || k = .addrV || k = .baudS || k = .baudV
  | _ => false

/-- The range of a numeric setting that does not depend on another (chapters 1 to 9). -/
def Setting.limits : Setting → Int × Int
  | .tScan => (50, 400) | .vWake => (500, 6000) | .k25 => (0, 16777215) | .kSlope => (100, 2000)
  | .iFloor => (10, 1000) | .tD => (50, 900) | .stepUp => (1, 15) | .sSuspect => (16, 250)
  | .iRev => (10, 1000) | .nRev => (1, 8) | .iOver => (100, 3200) | .nOver => (1, 50)
  | .tCoil => (20, 100) | .tConfirm => (20, 200) | .tRamp => (5, 200) | .tSpace => (0, 2000)
  | .tDwell => (1, 60) | .tInterrupt => (10, 500) | .tCurtail => (1, 120) | .iZero => (5, 200)
  | .kQual => (800, 1000) | .tQual => (10, 600)
  | .tBase => (5, 300) | .recloseLimit => (0, 15) | .tStable => (1, 120)
  | .lRated => (100, 51200) | .tKnee => (-400, 1400) | .tCut => (-350, 1500) | .nShed => (1, 50)
  | .tShedGap => (10, 600)
  | .tIso => (2, 30) | .tGap => (0, 600) | .rTrip => (10, 5000) | .rClear => (20, 9000)
  | .searchEnable => (0, 1) | .tStep => (10, 300)
  | .aTrip => (1, 255) | .aCount => (1, 8) | .tBlank => (0, 500)
  | .addrS => (1, 247) | .addrV => (1, 247) | .baudS => (19200, 115200) | .baudV => (19200, 115200)
  | .nNotifyS => (1, 32) | .nNotifyV => (1, 32) | .nNotifyM => (1, 32)
  | .tCoalesceS => (0, 255) | .tCoalesceV => (0, 255) | .tCoalesceM => (0, 255)

/-- The greatest permitted value not above `x`, or the least of all: R1, R167. `rest` is ascending. -/
def permitted (least : Int) (rest : List Int) (x : Int) : Int :=
  rest.foldl (fun best v => if v ≤ x then v else best) least

/-- The value a whole setting takes when `x` is written, or `none` where the write is BAD_FORM (R167,
R168). A dependent setting is clamped against its partner's value in force. -/
def State.settingValue (s : State) (k : Setting) (x : Int) : Option Int :=
  match k with
  | .tScan => some (permitted 50 [100, 200, 400] x)
  | .baudS | .baudV => some (permitted 19200 [38400, 115200] x)
  | .addrS | .addrV =>
    let a := clampInt 1 247 x
    some (if a = 165 then 164 else a)
  | .searchEnable => if x = 0 ∨ x = 1 then some x else none
  | .tConfirm => some (clampInt (s.cfg .tCoil) 200 x)
  | .rClear => some (clampInt (s.cfg .rTrip + 10) 9000 x)
  | .tCut => some (clampInt (s.cfg .tKnee + 50) 1500 x)
  | k => some (clampInt k.limits.1 k.limits.2 x)

/-- The setting that depends on another, and the least value the partner's new value leaves it (R168). -/
def dependentOf (k : Setting) (x : Int) : Option (Setting × Int) :=
  match k with
  | .tCoil => some (.tConfirm, x)
  | .rTrip => some (.rClear, x + 10)
  | .tKnee => some (.tCut, x + 50)
  | _ => none

/-- The code of a peer group (section 11.1). -/
def groupCode : PeerGroup → Nat
  | .none => 0
  | .a => 1
  | .b => 2
  | .c => 3
  | .d => 4

/-- The peer group a value codes (section 11.2). -/
def groupOf (x : Int) : Option PeerGroup :=
  if x = 0 then some .none
  else if x = 1 then some .a
  else if x = 2 then some .b
  else if x = 3 then some .c
  else if x = 4 then some .d
  else none

/-- The range a value codes (section 11.2). -/
def rangeOf (x : Int) : Option Range := if x = 0 then some .wide else if x = 1 then some .narrow else none

/-- The code of a range (section 11.1). -/
def rangeCode : Range → Nat
  | .wide => 0
  | .narrow => 1

end Sys2Proof.Machine
end

