-- ==== Sys2Proof/Machine/Table.lean ====
section
/-! DEFINITION. The String Table's records (chapter 3): hold sets, details and array conditions, and the
reactions of other blocks that need no switch: R16, R52, R115, R156. What a changed target does to the
switch is in Machine/Holds.lean. -/

namespace Sys2Proof.Machine

/-- A hold with what its kind carries (R42 to R44). -/
inductive Hold where
  | sup | inv
  | svc (code : LockCode)
  | fire | start | store | reverse | overcurrent
  | ground (detail : GroundDetail)
  | search | arc | thermal
  | switch (kind : FaultKind)
  | retired
  deriving DecidableEq, Repr

/-- The kind of a hold. -/
def Hold.kind : Hold → HoldKind
  | .sup => .sup
  | .inv => .inv
  | .svc _ => .svc
  | .fire => .fire
  | .start => .start
  | .store => .store
  | .reverse => .reverse
  | .overcurrent => .overcurrent
  | .ground _ => .ground
  | .search => .search
  | .arc => .arc
  | .thermal => .thermal
  | .switch _ => .switch
  | .retired => .retired

/-- All kinds, in the order of the kinds table. -/
def allHoldKinds : List HoldKind :=
  [.sup, .inv, .svc, .fire, .start, .store, .reverse, .overcurrent, .ground, .search, .arc, .thermal,
   .switch, .retired]

/-- A record gains a hold it does not carry, with its detail in the same step (R43, R44). -/
def StringRecord.put (r : StringRecord) (h : Hold) : StringRecord :=
  let r := { r with holds := r.holds.set h.kind.slot true }
  match h with
  | .svc code => { r with lockCode := some code }
  | .ground detail => { r with groundDetail := some detail }
  | .switch kind => { r with faultKind := some kind }
  | _ => r

/-- A record loses a kind, with its lock code or detail in the same step (R43). -/
def StringRecord.take (r : StringRecord) (k : HoldKind) : StringRecord :=
  let r := { r with holds := r.holds.set k.slot false }
  match k with
  | .svc => { r with lockCode := none }
  | .ground => { r with groundDetail := none }
  | .switch => { r with faultKind := none }
  | .overcurrent => { r with overcurrent := none }
  | _ => r

/-! ### ARRAY SAFE (R155, R156) -/

/-- A string counts as isolated for ARRAY SAFE (R155). -/
def State.isolated (s : State) (i : StringId) : Bool :=
  match s.switchState i with
  | .opened => true
  | .faulted => (s.str i).faultKind == some .failToClose && !s.fli.retestMarks[i]
  | _ => false

/-- The present strings that count as not isolated. -/
def State.notIsolated (s : State) : List StringId := stringsWhere fun i => s.present i && !s.isolated i

/-- ARRAY SAFE is worked out anew, with its event when it changes (R156). -/
def State.workArraySafe (s : State) : State :=
  let safe := s.fli.positionsKnown && s.notIsolated.isEmpty
  if safe = s.fli.arraySafe then s
  else
    (s.modFli fun f => { f with arraySafe := safe }).emit .arraySafe none (if safe then 1 else 0)
      s.notIsolated.length

/-- A report is made that can change ARRAY SAFE (R156). -/
def State.noteStates (s : State) : State := s.modReports fun _ => true

/-! ### Additions -/

/-- The String Table applies an addition to one record (R42 to R46), leaving its target to the caller. -/
def State.putHold (h : Hold) (i : StringId) (s : State) : State :=
  if s.present i = false then s
  else if s.has h.kind i then
    match h with
    | .switch kind =>
      ((s.modString i fun r => { r with faultKind := some kind }).askCommit .holds []).noteStates
    | _ => s
  else
    let s := s.modString i fun r => r.put h
    let s := if h.kind.stored then s.askCommit .holds [] else s
    match h with
    | .switch _ => s.noteStates
    | _ => s

/-! ### Removals -/

/-- An offset capture of a string is abandoned, with the reply STATE on port M (R16). -/
def State.abandonCapture (i : StringId) (s : State) : State :=
  match s.mfe.capture with
  | some c =>
    if c.string = i then (s.modMfe fun m => { m with capture := none }).endUnitWait .capture
    else s
  | none => s

/-- The Ground Search Unit takes a string made ABSENT out of C, X and V, into E (R141). With one string or none left
in C the probe under way goes on to its judgement (assumption 37). -/
def Gsu.dropAbsent (g : Gsu) (i : StringId) : Gsu :=
  { g with
    c := minus g.c [i], x := minus g.x [i], v := minus g.v [i],
    e := if g.p.contains i && !g.k.contains i && !g.f.contains i then union g.e [i] else g.e }

/-- The report of a removal to the block the hold concerns (R52). The Ground Search Unit does nothing at a
removal of SEARCH but at a string's becoming ABSENT (`State.searchLoses`). -/
def State.reportRemoval (k : HoldKind) (i : StringId) (s : State) : State :=
  match k with
  | .thermal => s.modTsc fun t => { t with stack := t.stack.filter fun e => e.string != i }
  | .overcurrent => s.modRcl i fun t => { t with reclose := none }
  | .svc => s.abandonCapture i
  | _ => s

/-- An active search loses a string made ABSENT (R141), whether the string still carried SEARCH or the search
had released it. -/
def State.searchLoses (i : StringId) (s : State) : State :=
  if s.searchActive then s.modGsu fun g => g.dropAbsent i else s

/-- A removal would empty the hold set of a present string that the search has not released (R51). -/
def State.freezes (s : State) (k : HoldKind) (i : StringId) : Bool :=
  s.searchActive && s.present i && !s.released i && decide (((s.str i).take k).holds = noHolds)

/-- The String Table applies a removal to one record, with the freeze of R51 and the report of R52. -/
def State.takeHold (k : HoldKind) (i : StringId) (s : State) : State :=
  if s.has k i = false then s
  else
    let freeze := s.freezes k i
    let s := s.modString i fun r => if freeze then (r.take k).put .search else r.take k
    let s := if k.stored then s.askCommit .holds [] else s
    s.reportRemoval k i

/-- The unit adds SEARCH to a present string outside the released set that arrives in OPEN (R128). -/
def State.freezeArrival (i : StringId) (s : State) : State :=
  if s.searchActive && s.present i && !s.released i && !s.has .search i then
    s.modString i fun r => r.put .search
  else s

/-! ### HOLD_CHANGED (R52) -/

/-- What a HOLD_CHANGED event gives as its cause (R184). -/
inductive ChangeCause where
  | port (p : Port)
  | fireLoop
  | presence
  deriving DecidableEq, Repr

/-- The code of a cause (R184). -/
def ChangeCause.code : ChangeCause → Nat
  | .port .s => 0
  | .port .v => 1
  | .port .m => 2
  | .fireLoop => 3
  | .presence => 4

/-- The code of a party kind in HOLD_CHANGED (R184). -/
def partyCode : HoldKind → Nat
  | .inv => 1
  | .svc => 2
  | .fire => 3
  | _ => 0

/-- One HOLD_CHANGED for the strings whose hold set changed, if any did (R52). -/
def State.emitHoldChanged (k : HoldKind) (added : Bool) (cause : ChangeCause) (changed : List StringId)
    (s : State) : State :=
  if changed.isEmpty then s
  else s.emit .holdChanged none (setBits changed)
    (partyCode k + (if added then 0 else 0x10) + 0x100 * cause.code)

end Sys2Proof.Machine
end

