-- ==== Sys2Proof/Machine/Reports.lean ====
section
/-! DEFINITION. What each block does with the Switch Sequencer's report of a change of switch state (R76):
the String Evaluator (R22, R36), the Reclose Controller (R105), the Thermal Shed Controller (R112, R117),
the Measurement Front End (R16), the Arc Detector (R146), the Ground Search Unit (R128, R136), the Fire
Line Interface (R156) and the Event Router (R176). -/

namespace Sys2Proof.Machine

/-- The Arc Detector takes a ramp start: the string joins the ramping set, the interval is blanked (R146). -/
def Arcd.rampStart (a : Arcd) (i : StringId) : Arcd :=
  { a with ramping := union a.ramping [i], intervalBlank := true }

/-- The Arc Detector takes a ramp end: the string leaves the set and the after-ramp blank starts with
t_blank, the later of two expiries standing; the interval is blanked (R146). -/
def Arcd.rampEnd (a : Arcd) (i : StringId) (now length : Nat) : Arcd :=
  { a with
    ramping := minus a.ramping [i]
    blank := if length = 0 then a.blank
      else match a.blank with
        | none => some (now + length)
        | some t => some (max t (now + length))
    intervalBlank := true }

/-- The evaluator takes the report that a string left CLOSED (R22, R36). -/
def EvalString.leftClosed (e : EvalString) : EvalString :=
  { e with reverseDwell := 0, overDwell := 0, mark := false }

/-- A string has entered CLOSED: the stable timer starts (R105) and the restore mark clears (R117). -/
def State.reportEnteredClosed (i : StringId) (s : State) : State :=
  let s := s.modRcl i fun t => { t with stable := some (s.after (60000 * s.cfgNat .tStable)) }
  s.modTsc fun t => { t with restoreMark := if t.restoreMark = some i then none else t.restoreMark }

/-- A string has left CLOSED: evaluator, stable timer and search (R36, R105, R136). -/
def State.reportLeftClosed (i : StringId) (s : State) : State :=
  let s := s.modEval i EvalString.leftClosed
  let s := s.modRcl i fun t => { t with stable := none }
  s.modGsu fun g => { g with left := g.left ++ [i] }

/-- The reports of R76 for one string's change from `old` to `new`, the state already changed. All act at once
but those to the Fire Line Interface and of leaving OPEN, which `State.takeReports` takes up. -/
def State.report (i : StringId) (old new : SwitchState) (s : State) : State :=
  let s := if old = .ramping ∧ new ≠ .ramping
    then s.modArcd fun a => a.rampEnd i s.now (s.cfgNat .tBlank) else s
  let s := if new = .ramping then s.modArcd fun a => a.rampStart i else s
  let s := if new = .interrupting then s.modArcd fun a => { a with intervalBlank := true } else s
  let s := if old = .closed ∧ new ≠ .closed then s.reportLeftClosed i else s
  let s := if new = .closed ∧ old ≠ .closed then s.reportEnteredClosed i else s
  let s := if old = .relayOpening ∧ new = .opened
    then s.modTsc fun t => { t with victim := if t.victim = some i then none else t.victim } else s
  let s := if new = .opened then s.freezeArrival i else s
  let s := if decide (old = .closed) != decide (new = .closed) then s.connectedCheck else s
  s.noteStates

/-- A string enters a switch state, with the timer the state carries; the CURTAIL line follows the states
(R88) and the change is reported at once (R76). -/
def State.enter (i : StringId) (new : SwitchState) (timer : Option Nat) (s : State) : State :=
  let old := s.switchState i
  let s := s.modSwitch i fun w => { w with state := new, timer := timer }
  let s := s.modSseq fun q =>
    { q with curtail := allStrings.any fun j => decide ((q.switches[j]).state = .curtailWait) }
  s.report i old new

/-- A capture whose string has left OPEN is abandoned (R16). -/
def State.checkCapture (s : State) : State :=
  match s.mfe.capture with
  | some c => if s.switchState c.string = .opened then s else s.abandonCapture c.string
  | none => s

/-- The Fire Line Interface and the Measurement Front End take up the reports made so far: ARRAY SAFE is worked
out (R156), and a capture whose string left OPEN is abandoned (R16). The changes that one addition or removal
made on several strings are judged together, by the states they have all reached (assumption 4). -/
def State.takeReports (s : State) : State :=
  if s.reports then (s.modReports fun _ => false).workArraySafe.checkCapture else s

end Sys2Proof.Machine
end

