-- ==== Sys2Proof/Machine/Switch.lean ====
section
/-! DEFINITION. The Switch Sequencer (chapter 4): the closing and opening sequences of a string, faults,
the Coil Arbiter, the ramp slot and the retest. An operation whose name ends in `Q` may put an entry in the
coil queue and leaves the granting to the arbiter, which runs after it. -/

namespace Sys2Proof.Machine

/-! ### Small pieces -/

/-- Command a string's solid-state switch. -/
def State.drive (i : StringId) (d : Drive) (s : State) : State := s.modSwitch i fun w => { w with drive := d }

/-- Set the timer of a string's state without a change of state. -/
def State.setTimer (i : StringId) (t : Option Nat) (s : State) : State :=
  s.modSwitch i fun w => { w with timer := t }

/-- The dwell timer starts: the relay has just been confirmed open (R78). -/
def State.startDwell (i : StringId) (s : State) : State :=
  s.modSwitch i fun w => { w with dwell := .running (s.after (1000 * s.cfgNat .tDwell)) }

/-- A string has an entry in the coil queue. -/
def State.queued (s : State) (i : StringId) : Bool := s.sseq.queue.any fun e => e.string == i

/-- A string joins the end of the coil queue, if it has no entry there (R92). -/
def State.joinQueue (i : StringId) (m : Mark) (s : State) : State :=
  if s.queued i then s else s.modSseq fun q => { q with queue := q.queue ++ [{ string := i, mark := m }] }

/-- A string's entry is withdrawn or removed from the coil queue (R92). -/
def State.leaveQueue (i : StringId) (s : State) : State :=
  s.modSseq fun q => { q with queue := q.queue.filter fun e => e.string != i }

/-- A string leaves the ramp waiting list; those behind it keep their order (R82). -/
def State.leaveRampList (i : StringId) (s : State) : State :=
  s.modSseq fun q => { q with rampList := q.rampList.filter fun j => j != i }

/-! ### Faults (R90, R91) -/

/-- A string becomes FAULTED (R91). -/
def State.becomeFaulted (i : StringId) (kind : FaultKind) (s : State) : State :=
  let old := s.switchState i
  let s := (s.drive i .off).leaveQueue i
  let s := (s.leaveRampList i).modSwitch i fun w => { w with dwell := .stopped }
  let s := s.enter i .faulted none
  let s := (s.putHold (.switch kind) i).takeReports
  s.emit .switchFault (some i) (faultCode kind) (switchCode old)

/-- The fault kind of a FAULTED string is replaced, with SWITCH_FAULT again (R91, R98). -/
def State.replaceFault (i : StringId) (kind : FaultKind) (s : State) : State :=
  (s.putHold (.switch kind) i).takeReports.emit .switchFault (some i) (faultCode kind) (switchCode (s.switchState i))

/-! ### Opening (section 4.4) -/

/-- A string enters CURTAIL_WAIT: INTERRUPT_FAILED, and the first t_curtail period starts (R87). -/
def State.enterCurtailWait (i : StringId) (s : State) : State :=
  let s := s.modSwitch i fun w => { w with periods := 0 }
  let s := s.enter i .curtailWait (some (s.after (1000 * s.cfgNat .tCurtail)))
  s.emit .interruptFailed (some i) (s.fast i) 0

/-- A string enters PENDING_OPEN: it joins the queue with an OPEN entry if it has none, and goes on to
CURTAIL_WAIT if its indication is clear (R89). -/
def State.pendingOpenQ (i : StringId) (s : State) : State :=
  let s := (s.enter i .pendingOpen none).joinQueue i .toOpen
  if s.below i then s else s.enterCurtailWait i

/-- A string enters INTERRUPTING, its switch commanded off, and passes at once to PENDING_OPEN if its
indication is set (R86). -/
def State.interruptQ (i : StringId) (s : State) : State :=
  let s := (s.drive i .off).enter i .interrupting (some (s.after (s.cfgNat .tInterrupt)))
  if s.below i then s.pendingOpenQ i else s

/-! ### Closing (section 4.2) -/

/-- A qualification test of a string in PENDING_CLOSE, on the last-sample store's values (R79). -/
def State.qualTest (s : State) (i : StringId) : QualTest :=
  match s.mfe.samples with
  | none => .unable
  | some v =>
    let side := (v.channels[i]).sideVoltage
    .made (decide (v.bus < 500) || decide (v.bus * s.cfgNat .kQual / 1000 ≤ side)) side v.bus

/-- A test passed. -/
def QualTest.isPassed : QualTest → Bool
  | .made true _ _ => true
  | _ => false

/-- A string enters PENDING_CLOSE: the t_qual timer starts and the first test is made (R78, R79). -/
def State.pendingCloseQ (i : StringId) (s : State) : State :=
  let s := s.enter i .pendingClose (some (s.after (1000 * s.cfgNat .tQual)))
  s.modSwitch i fun w => { w with lastTest := s.qualTest i }

/-- A string in PENDING_CLOSE whose dwell has passed and whose latest test passed joins the coil queue (R80). -/
def State.joinIfReadyQ (i : StringId) (s : State) : State :=
  if s.switchState i = .pendingClose ∧ s.dwellOver i = true ∧ (s.sw i).lastTest.isPassed = true
  then s.joinQueue i .toClose else s

/-- A test of a string in PENDING_CLOSE that has not joined the queue, and its joining (R79, R80). -/
def State.testAndJoinQ (i : StringId) (s : State) : State :=
  if s.switchState i = .pendingClose ∧ s.queued i = false
  then (s.modSwitch i fun w => { w with lastTest := s.qualTest i }).joinIfReadyQ i else s

/-- The ramp slot is free (R82). -/
def State.slotFree (s : State) : Bool :=
  match s.sseq.slot with
  | none => true
  | some r => decide (r.freeAt ≤ s.now)

/-- The head of the ramp waiting list starts its ramp (R82). -/
def State.startRamp (i : StringId) (s : State) : State :=
  let s := s.modSseq fun q => { q with
    rampList := q.rampList.drop 1
    slot := some { startedAt := s.now, freeAt := s.after (s.cfgNat .tSpace) } }
  (s.drive i .ramping).enter i .ramping (some (s.after (s.cfgNat .tRamp)))

/-- While the slot is free and the list is not empty, the head starts its ramp; at most `n` starts (R82). -/
def State.rampStarts : Nat → State → State
  | 0, s => s
  | n + 1, s =>
    match s.sseq.rampList with
    | [] => s
    | i :: _ => if s.slotFree then State.rampStarts n (s.startRamp i) else s

/-- The test of R82, when a string joins the list and when the t_space wait expires. -/
def State.rampTest (s : State) : State := State.rampStarts s.sseq.rampList.length s

/-- The feedback of a string in RELAY_CLOSING is accepted as closed (R81): RAMP_WAIT when the target is
CLOSED, PENDING_OPEN when it is OPEN. -/
def State.acceptClosedQ (i : StringId) (s : State) : State :=
  if s.target i then
    ((s.enter i .rampWait none).modSseq fun q => { q with rampList := q.rampList ++ [i] }).rampTest
  else s.pendingOpenQ i

/-- The feedback of a string in RELAY_OPENING is accepted as open (R89): it arrives in OPEN, its dwell starts, the
reports go out and are taken up, and the target is read again. STRING_ISOLATED goes before the records that the
reports cause (assumption 17). A dwell that starts now has not passed, so the string cannot join the coil queue here. -/
def State.acceptOpenQ (i : StringId) (s : State) : State :=
  let s := (s.startDwell i).emit .stringIsolated (some i) 0 0
  let s := (s.enter i .opened none).takeReports
  if s.target i then s.pendingCloseQ i else s

/-! ### Retest (section 4.7) -/

/-- The string under retest. -/
def State.underRetest (s : State) (i : StringId) : Bool :=
  match s.sseq.retest with
  | some r => r.string == i
  | none => false

/-- The mark of a step's entry, and the position it must show. -/
def RetestStep.mark : RetestStep → Mark
  | .firstOpen | .secondOpen => .toOpen
  | .close => .toClose

/-- The feedback shows a mark's position. -/
def Mark.shown (m : Mark) (closed : Bool) : Bool :=
  match m with
  | .toOpen => !closed
  | .toClose => closed

/-- A step of a retest joins the coil queue. An open step's wait is bounded by t_interrupt (R96). -/
def State.retestStepQ (i : StringId) (step : RetestStep) (s : State) : State :=
  let timer := match step.mark with
    | .toOpen => some (s.after (s.cfgNat .tInterrupt))
    | .toClose => none
  (s.modSseq fun q => { q with
    retest := some { string := i, step := step, pulsed := false, timer := timer } }).joinQueue i step.mark

/-- The retest mark of a string, kept by the Fire Line Interface (R151, R156). -/
def State.setRetestMark (i : StringId) (b : Bool) (s : State) : State :=
  (s.modFli fun f => { f with retestMarks := f.retestMarks.set i b }).noteStates

/-- The retest is over: its entry leaves the queue, and its mark is cleared (R96 to R98). -/
def State.endRetest (i : StringId) (s : State) : State :=
  ((s.leaveQueue i).modSseq fun q => { q with retest := none }).setRetestMark i false

/-- The retest has succeeded (R97): SWITCH is removed, the string enters OPEN with its dwell started, and
the reply DONE is deferred for the hold record's commit. -/
def State.retestSucceedsQ (i : StringId) (s : State) : State :=
  let s := (s.takeHold .switch i).endRetest i
  let s := ((s.startDwell i).enter i .opened none).takeReports
  let s := match (s.port .m).outstanding with
    | some { code := code, wait := .retest } =>
      (s.startWait .m code (.commit .done [])).askCommit .holds [.m]
    | _ => s
  if s.target i then s.pendingCloseQ i else s

/-- The retest has failed (R98). -/
def State.retestFails (i : StringId) (kind : FaultKind) (s : State) : State :=
  let s := (s.leaveQueue i).replaceFault i kind
  (s.endRetest i).takeReports.endUnitWait .retest

/-- The step of a retest has shown its position: the next step joins the queue, or the retest has succeeded (R97). -/
def State.retestPassesQ (i : StringId) (step : RetestStep) (s : State) : State :=
  match step with
  | .firstOpen => s.retestStepQ i .close
  | .close => s.retestStepQ i .secondOpen
  | .secondOpen => s.retestSucceedsQ i

/-- The fault kind of a step whose position was not shown by its deadline (R98). -/
def RetestStep.unconfirmed : RetestStep → FaultKind
  | .firstOpen | .secondOpen => .failToOpen
  | .close => .failToClose

/-! ### The Coil Arbiter (section 4.6) -/

/-- The most pulses the coil supply can power (R93). -/
def pulseLimit : Nat := 2

/-- The step of a retest whose entry on this string waits for its grant. -/
def State.retestWaits (s : State) (i : StringId) (m : Mark) : Bool :=
  match s.sseq.retest with
  | some r => r.string == i && !r.pulsed && decide (r.step.mark = m)
  | none => false

/-- An entry is grantable (R93). A CLOSE entry is one of PENDING_CLOSE or of a retest's close step. -/
def State.grantable (s : State) (e : CoilEntry) : Bool :=
  match e.mark with
  | .toOpen =>
    s.below e.string && decide ((s.sw e.string).drive = .off) &&
      (decide (s.switchState e.string = .pendingOpen) || decide (s.switchState e.string = .absent)
        || (decide (s.switchState e.string = .faulted) && s.retestWaits e.string .toOpen))
  | .toClose =>
    decide (s.switchState e.string = .pendingClose)
      || (decide (s.switchState e.string = .faulted) && s.retestWaits e.string .toClose)

/-- The entry to grant next: the oldest grantable OPEN entry, else the oldest CLOSE entry (R93). -/
def State.nextGrant (s : State) : Option CoilEntry :=
  match s.sseq.queue.find? fun e => decide (e.mark = .toOpen) && s.grantable e with
  | some e => some e
  | none => s.sseq.queue.find? fun e => decide (e.mark = .toClose) && s.grantable e

/-- A grant: the entry leaves the queue, its pulse starts, and its string goes on (R81, R89, R93, R97, R99). -/
def State.grant (e : CoilEntry) (s : State) : State :=
  let i := e.string
  let s := (s.leaveQueue i).modSseq fun q => { q with
    pulses := q.pulses ++ [{ string := i, mark := e.mark, endsAt := s.after (s.cfgNat .tCoil) }] }
  let deadline := some (s.after (s.cfgNat .tConfirm))
  match s.switchState i with
  | .pendingClose =>
    let s := s.enter i .relayClosing deadline
    if s.feedback i then s.acceptClosedQ i else s
  | .pendingOpen =>
    let s := s.enter i .relayOpening deadline
    if s.feedback i then s else s.acceptOpenQ i
  | .absent => s.setTimer i (if s.feedback i then deadline else none)
  | .faulted =>
    match s.sseq.retest with
    | some r =>
      let s := s.modSseq fun q => { q with retest := some { r with pulsed := true, timer := deadline } }
      if r.step.mark.shown (s.feedback i) then s.retestPassesQ i r.step else s
    | none => s
  | _ => s

/-- Grants while fewer than two pulses are in progress and a grantable entry waits; at most `n` grants (R93). -/
def State.grants : Nat → State → State
  | 0, s => s
  | n + 1, s =>
    if s.sseq.pulses.length < pulseLimit then
      match s.nextGrant with
      | some e => State.grants n (s.grant e)
      | none => s
    else s

/-- The arbiter runs (R93). Each grant starts a pulse and none ends meanwhile, so two grants are the most. -/
def State.arbiter (s : State) : State := State.grants pulseLimit s

/-! ### What the sequencer does with its events -/

/-- A string's target turned OPEN (R84 to R86). -/
def State.targetTurnsOpen (i : StringId) (s : State) : State :=
  match s.switchState i with
  | .pendingClose => (s.leaveQueue i).enter i .opened none
  | .rampWait => ((s.leaveRampList i).pendingOpenQ i).arbiter
  | .ramping | .closed => (s.interruptQ i).arbiter
  | _ => s

/-- A string's target turned CLOSED (R78). -/
def State.targetTurnsClosed (i : StringId) (s : State) : State :=
  match s.switchState i with
  | .opened => ((s.pendingCloseQ i).joinIfReadyQ i).arbiter
  | _ => s

/-- The feedback of a FAULTED string changes (R91, R97, R98). -/
def State.faultedFeedback (i : StringId) (closed : Bool) (s : State) : State :=
  match s.sseq.retest with
  | some r =>
    if r.string = i then
      if r.pulsed then
        if r.step.mark.shown closed then (s.retestPassesQ i r.step).arbiter else s
      else match r.step with
        | .firstOpen => s
        | .close => if closed then s.retestFails i .uncommandedClosed else s
        | .secondOpen => if closed then s else s.retestFails i .lostClosed
    else if closed ∧ (s.str i).faultKind = some .failToClose then s.replaceFault i .uncommandedClosed
    else s
  | none =>
    if closed ∧ (s.str i).faultKind = some .failToClose then s.replaceFault i .uncommandedClosed else s

/-- A relay's feedback comes to show closed (R81, R90, R91, R99). -/
def State.feedbackClosed (i : StringId) (s : State) : State :=
  let s := s.modSseq fun q => { q with feedback := q.feedback.set i true }
  match s.switchState i with
  | .relayClosing => (s.acceptClosedQ i).arbiter
  | .opened | .pendingClose => s.becomeFaulted i .uncommandedClosed
  | .faulted => s.faultedFeedback i true
  | _ => s

/-- A relay's feedback comes to show open (R89, R90, R97, R99). -/
def State.feedbackOpen (i : StringId) (s : State) : State :=
  let s := s.modSseq fun q => { q with feedback := q.feedback.set i false }
  match s.switchState i with
  | .relayOpening => (s.acceptOpenQ i).arbiter
  | .rampWait | .ramping | .closed | .interrupting | .curtailWait | .pendingOpen =>
    s.becomeFaulted i .lostClosed
  | .faulted => s.faultedFeedback i false
  | .absent => s.setTimer i none
  | _ => s

/-- A string's indication has been set: its "fell below I_zero" crossing is delivered (R86, R87, R93). -/
def State.fellBelow (i : StringId) (s : State) : State :=
  match s.switchState i with
  | .interrupting | .curtailWait => (s.pendingOpenQ i).arbiter
  | _ => if s.sseq.queue.any fun e => e.string == i && decide (e.mark = .toOpen) then s.arbiter else s

/-- A string's indication has been cleared: its "reached I_zero" crossing is delivered (R89). -/
def State.reachedIZero (i : StringId) (s : State) : State :=
  if s.switchState i = .pendingOpen then s.enterCurtailWait i else s

/-- The crossing of a string whose indication has changed is delivered (R9). -/
def State.cross (i : StringId) (s : State) : State := if s.below i then s.fellBelow i else s.reachedIZero i

/-- A string's latest reading lies below I_zero (R9). -/
def State.readsLow (s : State) (i : StringId) : Bool := decide (s.fast i < s.cfgNat .iZero)

/-- The readings of some strings are compared with I_zero: their indications all follow first, and then the crossings
are delivered in the order of the list (R9; assumption 32). -/
def State.compareFast (xs : List StringId) (s : State) : State :=
  let crossed := xs.filter fun i => s.readsLow i != s.below i
  forStrings State.cross crossed (s.modMfe fun m => { m with
    below := tab fun i => if xs.contains i then s.readsLow i else s.below i })

/-- A new reading of a string's fast detector (R9). -/
def State.readFast (i : StringId) (reading : Nat) (s : State) : State :=
  (s.modMfe fun m => { m with fast := m.fast.set i (min reading 3200) }).compareFast [i]

/-- A pulse of a string ends, and the arbiter grants (R93). -/
def State.pulseEnds (i : StringId) (s : State) : State :=
  match s.sseq.pulses.find? fun p => p.string == i && decide (p.endsAt ≤ s.now) with
  | some p => (s.modSseq fun q => { q with pulses := q.pulses.erase p }).arbiter
  | none => s

end Sys2Proof.Machine
end

