-- ==== Sys2Proof/Machine/Holds.lean ====
section
/-! DEFINITION. Additions and removals of holds with what a changed target does (R43, R50), and the
Reclose Controller's part in an overcurrent trip (section 5.1). -/

namespace Sys2Proof.Machine

/-- An addition is applied, and a target that turns OPEN is handed to the Switch Sequencer (R43, R50). -/
def State.addHold (h : Hold) (i : StringId) (s : State) : State :=
  let after := s.putHold h i
  if s.target i ∧ after.target i = false then after.targetTurnsOpen i else after

/-- A removal is applied, and a target that turns CLOSED is handed to the Switch Sequencer (R43, R50). -/
def State.removeHold (k : HoldKind) (i : StringId) (s : State) : State :=
  let after := s.takeHold k i
  if s.target i = false ∧ after.target i then after.targetTurnsClosed i else after

/-- An addition to each string of a list, in its order. -/
def State.addHolds (h : Hold) (xs : List StringId) (s : State) : State := forStrings (State.addHold h) xs s

/-- A removal from each string of a list, in its order. -/
def State.removeHolds (k : HoldKind) (xs : List StringId) (s : State) : State :=
  forStrings (State.removeHold k) xs s

/-- The strings that carry a kind. -/
def State.carriers (s : State) (k : HoldKind) : List StringId := stringsWhere fun i => s.has k i

/-- The strings that are PRESENT. -/
def State.presentSet (s : State) : List StringId := stringsWhere s.present

/-! ### The Reclose Controller (section 5.1) -/

/-- The wait of an attempt in ms: t_base doubled for each attempt before it, at most t_base × 32 (R102). -/
def recloseWait (base attempt : Nat) : Nat := 1000 * min (base * 2 ^ (attempt - 1)) (base * 32)

/-- The Reclose Controller takes up a newly added OVERCURRENT hold (R102). -/
def State.takeUpOvercurrent (i : StringId) (current : Int) (time : Uptime) (s : State) : State :=
  let attempt := min ((s.str i).overcurrentCount + 1) 15
  let auto := decide (attempt ≤ s.cfgNat .recloseLimit)
  let s := s.modRcl i fun t =>
    { stable := none
      reclose := if auto then some (s.after (recloseWait (s.cfgNat .tBase) attempt)) else t.reclose }
  let s := s.modString i fun r => { r with
    overcurrentCount := attempt, overcurrent := some { attempt := attempt, auto := auto } }
  s.emitAt time .overcurrentTrip (some i) current (attempt + (if auto then 0x100 else 0))

/-- The String Table adds OVERCURRENT to a string and, where the string did not carry it, reports the
addition to the Reclose Controller (R35, R102). -/
def State.addOvercurrent (i : StringId) (current : Int) (time : Uptime) (s : State) : State :=
  if s.present i ∧ s.has .overcurrent i = false
  then (s.addHold .overcurrent i).takeReports.takeUpOvercurrent i current time else s

/-- A string's reclose timer expires: OVERCURRENT is removed (R103). -/
def State.recloseExpires (i : StringId) (s : State) : State :=
  (s.modRcl i fun t => { t with reclose := none }).removeHold .overcurrent i

/-- A string's stable timer expires: its overcurrent count becomes 0 (R105). -/
def State.stableExpires (i : StringId) (s : State) : State :=
  (s.modRcl i fun t => { t with stable := none }).modString i fun r => { r with overcurrentCount := 0 }

end Sys2Proof.Machine
end

