-- ==== Sys2Proof/Machine/Search.lean ====
section
/-! DEFINITION. The Insulation Monitor's measurements and the Ground Search Unit (chapter 6). The unit takes
up the reports that strings left CLOSED, and tests the waits of its step, when the step of the part that
made them ends: `State.settle` (assumption 4). -/

namespace Sys2Proof.Machine

/-! ### Measurements (R121, R122) -/

/-- A measurement starts and runs for t_iso. -/
def State.startMeasurement (owner : Owner) (purpose : Purpose) (s : State) : State :=
  s.modImon fun m => { m with
    gap := none
    inFlight := some { owner := owner, purpose := purpose, startedAt := s.now,
                       endsAt := s.after (1000 * s.cfgNat .tIso) } }

/-- A gap starts; with t_gap at 0 the next ROUTINE measurement starts at once (R122). -/
def State.startGap (s : State) : State :=
  if s.cfgNat .tGap = 0 then s.startMeasurement .periodic .routine
  else s.modImon fun m => { m with gap := some (s.after (1000 * s.cfgNat .tGap)) }

/-- A SEARCH measurement in flight is abandoned, its reading discarded (R121). -/
def State.abandonSearchMeasurement (s : State) : State :=
  s.modImon fun m => { m with
    inFlight := match m.inFlight with
      | some f => if f.owner = .search then none else some f
      | none => none }

/-- A SEARCH measurement is in flight (R113). -/
def State.searchMeasuring (s : State) : Bool :=
  match s.imon.inFlight with
  | some f => f.owner == .search
  | none => false

/-! ### Lists (R127 to R130) -/

/-- The open set: P without the members of K, F and E (R127). -/
def Gsu.openSet (g : Gsu) : List StringId := minus (minus (minus g.p g.k) g.f) g.e

/-- The measuring set of the current step (R130). -/
def Gsu.measuringSet (g : Gsu) : List StringId :=
  match g.state with
  | .probeSwitch | .probeMeasure => g.x
  | .verifySwitch | .verifyMeasure => g.v
  | _ => []

/-- Every present string outside the released set is OPEN or FAULTED (R130). -/
def State.othersOpen (s : State) : Bool :=
  allStrings.all fun i => !s.present i || s.released i
    || decide (s.switchState i = .opened) || decide (s.switchState i = .faulted)

/-- The measurement condition (R130). -/
def State.measurementCondition (s : State) : Bool :=
  (s.gsu.measuringSet.all fun i => s.gsu.k.contains i || decide (s.switchState i = .closed)) && s.othersOpen

/-! ### Ending a search (R137) -/

/-- The four results, in the order of their codes (R184). -/
inductive SearchResult where
  | located
  | busSide
  | unresolved
  | aborted
  deriving DecidableEq, Repr

/-- The code of a result (R184). -/
def SearchResult.code : SearchResult → Nat
  | .located => 0
  | .busSide => 1
  | .unresolved => 2
  | .aborted => 3

/-- Value A of SEARCH_RESULT: the result, then F in order of location, 0 where absent (R184). -/
def searchValueA (r : SearchResult) (f : List StringId) : Nat :=
  let n (k : Nat) : Nat := match f[k]? with
    | some i => stringNumber i
    | none => 0
  2 ^ 24 * r.code + 2 ^ 16 * n 0 + 2 ^ 8 * n 1 + n 2

/-- A search ends with a result, GROUND with a detail going on the strings given first (R137). -/
def State.endSearch (r : SearchResult) (detail : GroundDetail) (held : List StringId) (s : State) : State :=
  let s := (s.addHolds (.ground detail) held).takeReports
  let s := (s.modGsu fun g => { g with timer := none }).abandonSearchMeasurement
  let s := s.modGsu fun g => { g with state := .idle }
  let s := (s.removeHolds .search (s.carriers .search)).takeReports
  let s := s.emit .searchResult none (searchValueA r s.gsu.f) s.gsu.measurements
  let s := s.startMeasurement .periodic .routine
  if r = .busSide then s.modImon fun m => { m with suppression := true } else s

/-- A search ends LOCATED (R135). -/
def State.endLocated (s : State) : State := s.endSearch .located .located []

/-- A search ends BUS_SIDE (R129, R131). -/
def State.endBusSide (s : State) : State := s.endSearch .busSide .busSide s.presentSet

/-- A search ends UNRESOLVED at the restart limit or at a low verification with F full (R136, R135). -/
def State.endUnresolved (s : State) : State := s.endSearch .unresolved .unresolved s.gsu.openSet

/-- A search ends UNRESOLVED because exclusions emptied C (R131, R132). -/
def State.endEmptied (s : State) : State :=
  s.endSearch .unresolved .unresolved (union s.gsu.openSet s.gsu.e)

/-- An active search is aborted (R138). -/
def State.abortSearch (s : State) : State :=
  if s.searchActive then s.endSearch .aborted .unresolved s.gsu.openSet else s

/-! ### The steps of a search (R131 to R135) -/

/-- The step timer starts with t_step. -/
def State.startStepTimer (s : State) : State :=
  s.modGsu fun g => { g with timer := some (s.after (1000 * s.cfgNat .tStep)) }

/-- A SEARCH measurement is asked for, in the measuring state given, and counted (R127). -/
def State.searchMeasure (st : SearchState) (s : State) : State :=
  (s.modGsu fun g => { g with state := st, timer := none, measurements := g.measurements + 1 }).startMeasurement
    .search .search

/-- The members of a list that are FAULTED. -/
def State.faultedOf (s : State) (xs : List StringId) : List StringId :=
  xs.filter fun i => decide (s.switchState i = .faulted)

/-- Strings join E and leave C, X and V. -/
def Gsu.exclude (g : Gsu) (xs : List StringId) : Gsu :=
  { g with c := minus g.c xs, x := minus g.x xs, v := minus g.v xs, e := union g.e xs }

/-- Verification: V is the open set, less its FAULTED members, which join E; an empty V ends the search
LOCATED (R135). -/
def State.verify (s : State) : State :=
  let v := s.gsu.openSet
  let bad := s.faultedOf v
  let s := s.modGsu fun g => { g with v := minus v bad, e := union g.e bad }
  if s.gsu.v.isEmpty then s.endLocated
  else
    let s := s.modGsu fun g => { g with state := .verifySwitch }
    (s.removeHolds .search s.gsu.v).startStepTimer

/-- The one string left in C is located: GROUND is added before SEARCH is removed (R134). -/
def State.locate (i : StringId) (s : State) : State :=
  let s := ((s.addHold (.ground .located) i).takeReports.removeHold .search i).takeReports
  (s.modGsu fun g => { g with c := minus g.c [i], x := minus g.x [i], f := g.f ++ [i] }).verify

/-- The first half of C, rounded up (R132). -/
def firstHalf (c : List StringId) : List StringId := c.take ((c.length + 1) / 2)

/-- Narrowing (R132): X is formed from the first half of C less its FAULTED members, formed again while it
comes out empty; an empty C ends the search, a single candidate is located. At most `n` times. -/
def State.narrowSteps : Nat → State → State
  | 0, s => s
  | n + 1, s =>
    let half := firstHalf s.gsu.c
    let bad := s.faultedOf half
    let s := s.modGsu fun g => { g with x := minus half bad, c := minus g.c bad, e := union g.e bad }
    if s.gsu.x.isEmpty then
      match s.gsu.c with
      | [] => s.endEmptied
      | [c] => s.locate c
      | _ => State.narrowSteps n s
    else
      let s := s.modGsu fun g => { g with state := .probeSwitch }
      (s.removeHolds .search s.gsu.x).startStepTimer

/-- Narrowing from the C that stands. Each forming of X takes at least one string out of C or ends, so one
more forming than C has members is the most. -/
def State.narrow (s : State) : State := State.narrowSteps (s.gsu.c.length + 1) s

/-- What follows when C has changed: the search ends, locates or narrows (R131 to R133). -/
def State.goOn (s : State) : State :=
  match s.gsu.c with
  | [] => s.endEmptied
  | [c] => s.locate c
  | _ => s.narrow

/-- What follows when V has changed: an empty V ends the search LOCATED (R135). -/
def State.goOnVerifying (s : State) : State := if s.gsu.v.isEmpty then s.endLocated else s

/-- Strings are excluded and frozen again, and the unit acts on what is left of X or V (R132, R135). The turning back
of members that were closing is reported before the next strings are released (R156). -/
def State.excludeAndGoOn (xs : List StringId) (s : State) : State :=
  let s := ((s.modGsu fun g => g.exclude xs).addHolds .search xs).takeReports
  match s.gsu.state with
  | .probeSwitch => if s.gsu.x.isEmpty then s.goOn else s
  | .verifySwitch => s.goOnVerifying
  | _ => s

/-! ### Discards and repeats (R136) -/

/-- The most restarts of one search (R136). -/
def restartLimit : Nat := 3

/-- The state a discarded step is run again from (R136). -/
def SearchState.again : SearchState → SearchState
  | .probeMeasure => .probeSwitch
  | .verifyMeasure => .verifySwitch
  | _ => .isolate

/-- A SEARCH measurement is discarded: members of X or V among the strings that left are excluded, and the
step is run again with a new step timer, or the search ends at the restart limit (R136). -/
def State.discard (leavers : List StringId) (s : State) : State :=
  let out := leavers.filter fun i => s.gsu.measuringSet.contains i && !s.gsu.k.contains i
  let s := s.abandonSearchMeasurement
  let s := ((s.modGsu fun g => { g.exclude out with state := g.state.again }).addHolds .search out).takeReports
  if restartLimit ≤ s.gsu.restarts then s.endUnresolved
  else
    let s := s.modGsu fun g => { g with restarts := g.restarts + 1 }
    match s.gsu.state with
    | .probeSwitch => if s.gsu.x.isEmpty then s.goOn else s.startStepTimer
    | .verifySwitch => if s.gsu.v.isEmpty then s.endLocated else s.startStepTimer
    | _ => s

/-- An ambiguous reading repeats its step at once, or ends the search at the restart limit (R136). -/
def State.repeatMeasurement (s : State) : State :=
  if restartLimit ≤ s.gsu.restarts then s.endUnresolved
  else (s.modGsu fun g => { g with restarts := g.restarts + 1 }).searchMeasure s.gsu.state

/-! ### Starting a search (R129) -/

/-- A ground search starts, with its cause's code (R129, R184). -/
def State.startSearch (cause : Nat) (s : State) : State :=
  let s := s.modGsu fun _ => { idleGsu with p := s.closedSet, state := .isolate }
  let s := s.modImon fun m => { m with inFlight := none, gap := none }
  let s := s.emit .searchStarted none cause s.gsu.p.length
  if s.gsu.p.isEmpty then s.endBusSide else (s.addHolds .search s.presentSet).takeReports

/-! ### Judging a SEARCH reading (R131, R133, R135) -/

/-- A SEARCH measurement completes with a reading, and the unit judges it by its state. A low probe leaves X as it
was, and a low verification V, until they are next formed (assumption 38). -/
def State.judgeSearch (reading : Nat) (s : State) : State :=
  let low := decide ((reading : Int) < s.cfg .rTrip)
  let good := decide (s.cfg .rClear ≤ (reading : Int))
  match s.gsu.state with
  | .busCheck =>
    if good then
      let bad := s.faultedOf s.gsu.openSet
      (s.modGsu fun g => { g with
        busChecked := true, e := union g.e bad, c := minus g.openSet bad }).goOn
    else if low then s.endBusSide
    else s.repeatMeasurement
  | .probeMeasure =>
    if low then
      let s := s.modGsu fun g => { g with c := g.x, state := .isolate }
      s.addHolds .search s.gsu.x
    else if good then
      (s.modGsu fun g => { g with k := union g.k g.x, c := minus g.c g.x, x := [] }).goOn
    else s.repeatMeasurement
  | .verifyMeasure =>
    if good then s.endLocated
    else if low then
      if s.gsu.f.length < 3 then
        let s := s.modGsu fun g => { g with c := g.v, state := .isolate }
        s.addHolds .search s.gsu.v
      else s.endUnresolved
    else s.repeatMeasurement
  | _ => s

/-- A SEARCH measurement completes (R121): the last reading is replaced, and the unit judges it. -/
def State.searchMeasured (reading : Nat) (s : State) : State :=
  let s := s.modImon fun m => { m with
    inFlight := none, last := some { reading := reading, time := s.uptime, owner := .search } }
  s.judgeSearch reading

/-- The step timer expires: members of X, or V, that are not CLOSED are excluded (R132, R135). -/
def State.stepTimerExpires (s : State) : State :=
  let s := s.modGsu fun g => { g with timer := none }
  s.excludeAndGoOn (s.gsu.measuringSet.filter fun i => decide (s.switchState i ≠ .closed))

/-! ### Taking up the reports of a step (assumption 4) -/

/-- The unit takes up the reports that strings left CLOSED: during a measurement a member of its measuring
set or of K discards it (R136); in an untimed wait a member of X or V is excluded (R132, R135). -/
def State.takeUpLeavers (s : State) : State :=
  let left := s.gsu.left
  let s := s.modGsu fun g => { g with left := [] }
  let concerned := left.filter fun i => s.gsu.measuringSet.contains i || s.gsu.k.contains i
  match s.gsu.state with
  | .probeMeasure | .verifyMeasure | .busCheck =>
    if s.searchMeasuring && !concerned.isEmpty then s.discard concerned else s
  | .probeSwitch | .verifySwitch =>
    let out := concerned.filter fun i => s.gsu.measuringSet.contains i
    if s.gsu.timer.isNone && !out.isEmpty then s.excludeAndGoOn out else s
  | _ => s

/-- What the unit does next of itself, if anything: take up reports, end the wait of ISOLATE (R130), go on from
an X or a V that a presence change has emptied (assumption 37), or start the measurement whose condition holds
(R132, R135). -/
def State.searchProgress (s : State) : Option State :=
  if s.gsu.left ≠ [] then some s.takeUpLeavers
  else match s.gsu.state with
  | .isolate =>
    if s.othersOpen then some (if s.gsu.busChecked then s.goOn else s.searchMeasure .busCheck) else none
  | .probeSwitch =>
    if s.gsu.x.isEmpty then some s.goOn
    else if s.measurementCondition then some (s.searchMeasure .probeMeasure) else none
  | .verifySwitch =>
    if s.gsu.v.isEmpty then some s.endLocated
    else if s.measurementCondition then some (s.searchMeasure .verifyMeasure) else none
  | _ => none

/-- The unit acts until nothing of its own is left to do, at most `n` times. -/
def State.settleSteps : Nat → State → State
  | 0, s => s
  | n + 1, s =>
    match s.searchProgress with
    | some s' => State.settleSteps n s'.takeReports
    | none => s

/-- The most actions the unit takes at the end of one step of the part. A search in one step narrows,
locates and verifies a few times at most; what is left beyond this is done at the next step's end. -/
def settleLimit : Nat := 32

/-- The end of a step for the Ground Search Unit. -/
def State.settle (s : State) : State := State.settleSteps settleLimit s

/-- The end of a step of the part: its reports are taken up, the search acts on them, and a waiting commit
begins (R178). -/
def State.finish (s : State) : State := s.takeReports.settle.beginWrite

end Sys2Proof.Machine
end

