-- ==== Sys2Proof/Machine/Scan.lean ====
section
/-! DEFINITION. The Measurement Front End (chapter 1): the end of a scan interval, the conversions, the
daylight state, the offset capture and the request CALIBRATE's work. -/

namespace Sys2Proof.Machine

/-! ### Conversions (R5 to R8) -/

/-- The clamp of a channel's range (R4). -/
def Range.clamp : Range → Int
  | .wide => 3200
  | .narrow => 800

/-- A raw code as a current, rounded and not yet clamped (R5). -/
def roundedCurrent (c : StringSettings) (raw : BitVec 24) : Int :=
  roundDiv ((raw.toInt - c.offset) * c.gain) 1048576

/-- A channel's readings converted under a string's calibration and range (R5, R6, R7). -/
def convertChannel (c : StringSettings) (r : ChannelReading) : Sample :=
  let rounded := roundedCurrent c r.raw
  let current := clampInt (-c.range.clamp) c.range.clamp rounded
  { current := current
    clipped := r.overRange || decide (current ≠ rounded)
    sideVoltage := (clampInt 0 16000 r.sideVoltage).toNat }

/-- The temperature code as a box temperature (R8). -/
def State.convertTemperature (s : State) (code : BitVec 24) : Int :=
  clampInt (-400) 1500 (250 + roundDiv (((code.toNat : Int) - s.cfg .k25) * 10) (s.cfgNat .kSlope))

/-- All readings of an interval, converted. -/
def State.convert (s : State) (raw : RawScan) : Samples :=
  { channels := tab fun i => convertChannel (s.strSet i) raw.channels[i]
    bus := (clampInt 0 16000 raw.bus).toNat
    temperature := s.convertTemperature raw.temperatureCode }

/-! ### Daylight (R10 to R12) -/

/-- The scans at or above V_wake that make a wake (R10). -/
def wakeScans : Nat := 10

/-- How long a dark run lasts before NIGHT, in 10 ms units (R11). -/
def darkTime : Nat := 6000

/-- The daylight tests on a scan's bus voltage, at its completion time (R10, R11). -/
def Mfe.daylightTest (m : Mfe) (bus : Nat) (wake : Nat) (time : Uptime) : Mfe :=
  match m.daylight with
  | .night =>
    if wake ≤ bus then
      if wakeScans ≤ m.wakeCount + 1 then { m with daylight := .day, wakeCount := 0, darkRun := none }
      else { m with wakeCount := m.wakeCount + 1 }
    else { m with wakeCount := 0 }
  | .day =>
    if bus < wake / 2 then
      match m.darkRun with
      | none => { m with darkRun := some time }
      | some t => if darkTime ≤ (time - t).toNat then { m with daylight := .night, darkRun := none } else m
    else { m with darkRun := none }

/-- The daylight state's code (R184). -/
def Daylight.code : Daylight → Nat
  | .night => 0
  | .day => 1

/-- The daylight tests, with a DAYLIGHT event at a change (R12). -/
def State.daylightStep (bus : Nat) (s : State) : State :=
  let before := s.mfe.daylight
  let s := s.modMfe fun m => m.daylightTest bus (s.cfgNat .vWake) s.uptime
  if s.mfe.daylight = before then s
  else s.emitAt s.uptime .daylight none bus s.mfe.daylight.code

/-! ### Offset capture (R13 to R16) -/

/-- The samples of a capture (R14). -/
def captureSamples : Nat := 16

/-- A capture has its sixteenth sample: the mean becomes the offset and the settings record is committed,
or STATE is replied where the mean is out of range (R15). -/
def State.completeCapture (i : StringId) (sum : Int) (s : State) : State :=
  let mean := roundDiv sum captureSamples
  let s := s.modMfe fun m => { m with capture := none }
  if -65536 ≤ mean ∧ mean ≤ 65535 then
    let s := s.modStringSettings i fun c => { c with offset := mean }
    match (s.port .m).outstanding with
    | some { code := code, wait := .capture } =>
      (s.startWait .m code (.commit .done (bytes32 (BitVec.ofInt 32 mean)))).askCommit .settings [.m]
    | _ => s.askCommit .settings []
  else s.endUnitWait .capture

/-- A capture in progress takes its string's sample of a scan (R14). -/
def State.captureStep (raw : RawScan) (v : Samples) (s : State) : State :=
  match s.mfe.capture with
  | none => s
  | some c =>
    if (v.channels[c.string]).clipped then s.abandonCapture c.string
    else
      let sum := c.sum + (raw.channels[c.string]).raw.toInt
      if captureSamples ≤ c.count + 1 then s.completeCapture c.string sum
      else s.modMfe fun m => { m with capture := some { c with count := c.count + 1, sum := sum } }

/-! ### The end of a scan interval (R1 to R3) -/

/-- The scan record of an interval (R2): an entry for each string PRESENT as it is assembled. -/
def State.scanRecord (s : State) (raw : RawScan) (v : Samples) : ScanRecord :=
  { completion := s.uptime, daylight := s.mfe.daylight
    entries := tab fun i => if s.present i then some v.channels[i] else none
    bus := v.bus, temperature := v.temperature
    arcIndex := raw.arcIndex, arcBlank := s.arcd.intervalBlank }

/-- The Arc Detector ends an interval: the index and its blank mark are the latest; the next interval's
mark is set where a ramp is in progress or the after-ramp blank runs (R145, R146). -/
def Arcd.nextInterval (a : Arcd) (index : Byte) : Arcd :=
  { a with latest := some (index, a.intervalBlank)
           intervalBlank := !a.ramping.isEmpty || a.blank.isSome }

/-- The next scan starts, with the period in force (R1). -/
def State.nextScan (s : State) : State :=
  s.modMfe fun m => { m with
    scanStart := s.now
    scanLength := match m.daylight with
      | .day => s.cfgNat .tScan
      | .night => 1000 }

/-- The completion carries the record to its three takers (R2). -/
def State.handOn (r : ScanRecord) (s : State) : State :=
  s.modHanded fun h => { seval := h.seval ++ [r], tsc := h.tsc ++ [r], arcd := h.arcd ++ [r] }

/-- The qualification tests of a scan completion, in ascending string order (R79, R80). -/
def State.qualifyAll (s : State) : State :=
  forStrings (fun i s => if s.switchState i = .pendingClose then (s.testAndJoinQ i).arbiter else s)
    allStrings s

/-- A scan completes (R2, R3). -/
def State.completeScan (raw : RawScan) (s : State) : State :=
  let v := s.convert raw
  let s := s.daylightStep v.bus
  let r := s.scanRecord raw v
  let s := s.captureStep raw v
  let s := s.modArcd fun a => a.nextInterval raw.arcIndex
  let s := (s.modMfe fun m => { m with samples := some v }).nextScan
  (s.handOn r).qualifyAll

end Sys2Proof.Machine
end

