-- ==== Sys2Proof/Machine/Evaluator.lean ====
section
/-! DEFINITION. The String Evaluator's work on a scan completion (chapter 2). -/

namespace Sys2Proof.Machine

/-! ### What the evaluator reads once (R21, R22) -/

/-- A string is evaluated at a completion: it has an entry and is still PRESENT (R21). -/
def State.evaluated (s : State) (r : ScanRecord) (i : StringId) : Bool :=
  (r.entries[i]).isSome && s.present i

/-- A string is counted CLOSED for a scan (R22), as the evaluator finds it at the take-up. -/
def State.countedClosed (s : State) (i : StringId) : Bool :=
  decide (s.switchState i = .closed) && (s.eval i).mark

/-- The sample of a string in a record, for a string that has an entry. Of a string read as CLOSED that has none, the
Thermal Shed Controller takes the current as 0 (R111; assumption 36). -/
def ScanRecord.sample (r : ScanRecord) (i : StringId) : Sample :=
  (r.entries[i]).getD { current := 0, clipped := false, sideVoltage := 0 }

/-! ### References (R24 to R26) -/

/-- The place of a peer group in the group table; NONE has none. -/
def PeerGroup.slot : PeerGroup → Option (Fin 4)
  | .none => Option.none
  | .a => some 0
  | .b => some 1
  | .c => some 2
  | .d => some 3

/-- A string is eligible for its group's reference (R24). -/
def State.eligible (s : State) (r : ScanRecord) (i : StringId) : Bool :=
  s.evaluated r i && (s.strSet i).group.slot.isSome && s.countedClosed i && !(r.sample i).clipped
    && decide (0 ≤ (r.sample i).current) && !(s.eval i).suspect

/-- A group's eligible currents, sorted ascending (R25). -/
def State.eligibleCurrents (s : State) (r : ScanRecord) (g : Fin 4) : List Nat :=
  sortAscending ((stringsWhere fun i => s.eligible r i && (s.strSet i).group.slot == some g).map
    fun i => (r.sample i).current.toNat)

/-- The middle of a sorted list: the middle value, or the mean of the two middle values truncated (R25). -/
def middle (xs : List Nat) : Nat :=
  let n := xs.length
  if n % 2 = 1 then xs.getD (n / 2) 0 else (xs.getD (n / 2 - 1) 0 + xs.getD (n / 2) 0) / 2

/-- A group's reference from its sorted eligible currents (R25). -/
def referenceOf (floor : Nat) (xs : List Nat) : Option Nat :=
  if xs.length < 3 then none else if middle xs < floor then none else some (middle xs)

/-- A group at a completion: its reference and eligible count in DAY, nothing in NIGHT (R25, R26). -/
def State.groupAt (s : State) (r : ScanRecord) (g : Fin 4) : EvalGroup :=
  match r.daylight with
  | .night => { reference := none, count := 0 }
  | .day =>
    let xs := s.eligibleCurrents r g
    { reference := referenceOf (s.cfgNat .iFloor) xs, count := xs.length }

/-! ### Deficit and suspicion (R27 to R30) -/

/-- A deficit in per-mille against a reference (R27). -/
def deficitOf (ref : Nat) (current : Int) : Nat :=
  (clampInt 0 1000 (truncDiv (((ref : Int) - current) * 1000) ref)).toNat

/-- The deficit a string receives at a completion, the group references formed (R27). -/
def State.deficitAt (s : State) (r : ScanRecord) (i : StringId) : Option Nat :=
  if s.evaluated r i ∧ r.daylight = .day ∧ s.countedClosed i = true ∧ (r.sample i).clipped = false then
    match (s.strSet i).group.slot with
    | none => none
    | some g => (s.seval.groups[g]).reference.map fun ref => deficitOf ref (r.sample i).current
  else none

/-- The suspicion counter after a scan with a deficit (R29). -/
def suspicionAfter (sus deficit threshold rise : Nat) : Nat :=
  if threshold ≤ deficit then min (sus + rise) 255 else sus - 1

/-- The deficit, the counter and the flag of one string (R28 to R30). -/
def State.judgeDeficit (r : ScanRecord) (i : StringId) (s : State) : State :=
  match s.deficitAt r i with
  | none => s.modEval i fun e => { e with lastDeficit := none }
  | some d =>
    let sus := suspicionAfter (s.eval i).suspicion d (s.cfgNat .tD) (s.cfgNat .stepUp)
    let was := (s.eval i).suspect
    let s := s.modEval i fun e => { e with lastDeficit := some d, suspicion := sus }
    if was = false ∧ s.cfgNat .sSuspect ≤ sus then
      (s.modEval i fun e => { e with suspect := true }).emitAt r.completion .suspectSet (some i) sus d
    else if was = true ∧ sus ≤ s.cfgNat .sSuspect / 2 then
      (s.modEval i fun e => { e with suspect := false }).emitAt r.completion .suspectCleared (some i) sus 0
    else s

/-! ### Dwells (R33 to R35) -/

/-- A sample meets the reverse condition (R33). -/
def reverseCondition (threshold : Nat) (x : Sample) : Bool :=
  decide (x.current ≤ -(threshold : Int)) || (x.clipped && decide (x.current < 0))

/-- A sample meets the overcurrent condition (R35). -/
def overCondition (threshold : Nat) (x : Sample) : Bool :=
  decide ((threshold : Int) ≤ x.current) || (x.clipped && decide (0 < x.current))

/-- The two dwell counts of one string; a string not evaluated keeps its own (R33, R35, R37). -/
def State.countDwells (r : ScanRecord) (i : StringId) (s : State) : State :=
  if s.evaluated r i then
    let closed := s.countedClosed i
    let x := r.sample i
    let rev := closed && reverseCondition (s.cfgNat .iRev) x
    let high := closed && overCondition (s.cfgNat .iOver) x
    s.modEval i fun e => { e with
      reverseDwell := if rev then e.reverseDwell + 1 else 0
      overDwell := if high then e.overDwell + 1 else 0 }
  else s

/-! ### Trips (R34, R35) -/

/-- The holds the dwell counts of a string call for, with their events (R34, R35). `dwell` is what the
counts stood at when the counting of this completion ended. REVERSE_TRIP goes after the records that the hold it
reports causes at once (assumption 17). -/
def State.trip (r : ScanRecord) (dwell : StringId → Nat × Nat) (i : StringId) (s : State) : State :=
  let rev := (dwell i).1
  let high := (dwell i).2
  let current := (r.sample i).current
  let s := if 0 < rev ∧ s.cfgNat .nRev ≤ rev then
      ((s.addHold .reverse i).takeReports.modEval i fun e => { e with reverseDwell := 0 }).emitAt r.completion
        .reverseTrip (some i) current rev
    else s
  if 0 < high ∧ s.cfgNat .nOver ≤ high then
    (s.addOvercurrent i current r.completion).modEval i fun e => { e with overDwell := 0 }
  else s

/-- Every string's whole-scan mark is renewed (R22): set where the state was CLOSED as read at the take-up, but
for a string that a trip of this completion has taken out of CLOSED, whose mark that report has cleared
(R36; assumption 12). -/
def State.renewMarks (states : StringId → SwitchState) (s : State) : State :=
  forStrings (fun i t => t.modEval i fun e =>
    { e with mark := decide (states i = .closed) && decide (s.switchState i = .closed) }) allStrings s

/-- The evaluator's work on one completion, in the order of R21. -/
def State.evaluate (r : ScanRecord) (s : State) : State :=
  let states := s.switchState
  let s := s.modSeval fun e => { e with groups := #v[s.groupAt r 0, s.groupAt r 1, s.groupAt r 2, s.groupAt r 3] }
  let s := forStrings (fun i s => (s.judgeDeficit r i).countDwells r i) allStrings s
  let dwell := fun i => ((s.eval i).reverseDwell, (s.eval i).overDwell)
  let s := forStrings (fun i t => if s.evaluated r i then t.trip r dwell i else t) allStrings s
  s.renewMarks states

end Sys2Proof.Machine
end

