-- ==== Sys2Proof/Machine/Thermal.lean ====
section
/-! DEFINITION. The Thermal Shed Controller's work on a scan completion (section 5.2). -/

namespace Sys2Proof.Machine

/-- The derated limit at a box temperature (R109). -/
def deratedLimit (rated : Nat) (knee cut t : Int) : Nat :=
  if t ≤ knee then rated
  else if cut ≤ t then 0
  else (truncDiv ((rated : Int) * (cut - t)) (cut - knee)).toNat

/-- A string counts for the total, and may be shed: read as CLOSED and with an entry in the record (R110). -/
def ScanRecord.counts (r : ScanRecord) (states : StringId → SwitchState) (i : StringId) : Bool :=
  decide (states i = .closed) && (r.entries[i]).isSome

/-- The total of a completion: positive currents of the strings that count (R110). -/
def totalOf (r : ScanRecord) (states : StringId → SwitchState) : Nat :=
  ((stringsWhere (r.counts states)).map fun i => (r.sample i).current.toNat).sum

/-- One string stands before another in victim order: rank, then current, then number, highest first (R111). -/
def State.shedBefore (s : State) (r : ScanRecord) (i j : StringId) : Bool :=
  let a := (s.strSet i).rank
  let b := (s.strSet j).rank
  let x := (r.sample i).current
  let y := (r.sample j).current
  decide (b < a) || (a == b && (decide (y < x) || (x == y && decide (j.val < i.val))))

/-- Insert a string into a list in victim order. -/
def State.insertVictim (s : State) (r : ScanRecord) (i : StringId) : List StringId → List StringId
  | [] => [i]
  | j :: js => if s.shedBefore r i j then i :: j :: js else j :: s.insertVictim r i js

/-- Strings in victim order (R111, R114). -/
def State.victimOrder (s : State) (r : ScanRecord) : List StringId → List StringId
  | [] => []
  | i :: is => s.insertVictim r i (s.victimOrder r is)

/-- One string is shed: THERMAL, a push, THERMAL_SHED (R111, R114). -/
def State.shed (r : ScanRecord) (total : Nat) (i : StringId) (s : State) : State :=
  let s := (s.addHold .thermal i).takeReports
  let s := s.modTsc fun t => { t with
    stack := { string := i, current := (r.sample i).current.toNat, time := r.completion } :: t.stack }
  s.emitAt r.completion .thermalShed (some i) total r.temperature

/-- A single shed (R111). -/
def State.shedOne (r : ScanRecord) (total : Nat) (i : StringId) (s : State) : State :=
  let s := s.shed r total i
  s.modTsc fun t => { t with lastMove := some r.completion, overDwell := 0, victim := some i }

/-- The full shed at L = 0, of the strings read as CLOSED in victim order (R114). Coil entries that join within it join
in that order too (assumption 40), and with no string CLOSED the over dwell count still becomes 0 (assumption 26). -/
def State.fullShed (r : ScanRecord) (total : Nat) (victims : List StringId) (s : State) : State :=
  let s := forStrings (fun i s => s.shed r total i) victims s
  s.modTsc fun t => { t with
    lastMove := if victims.isEmpty then t.lastMove else some r.completion
    overDwell := 0
    victim := match victims.getLast? with
      | some i => some i
      | none => t.victim }

/-- The awaited victim is in an opening state or in OPEN (R112). -/
def stillAwaited : SwitchState → Bool
  | .interrupting | .curtailWait | .pendingOpen | .relayOpening | .opened => true
  | _ => false

/-- The marked string is in a closing state or in OPEN (R117). -/
def stillReturning : SwitchState → Bool
  | .pendingClose | .relayClosing | .rampWait | .ramping | .opened => true
  | _ => false

/-- The over dwell count after a completion (R111). -/
def overDwellAfter (count total limit : Nat) : Nat := if limit < total then min (count + 1) 50 else 0

/-- The restore test of a completion with L greater than 0 at which nothing was shed (R116). -/
def State.restoreTest (s : State) (r : ScanRecord) (limit total : Nat) : Bool :=
  match s.tsc.stack with
  | [] => false
  | top :: _ =>
    (match s.tsc.lastMove with
     | none => true
     | some t => decide (100 * s.cfgNat .tShedGap ≤ (r.completion - t).toNat)) &&
    s.tsc.restoreMark.isNone && decide (total + top.current ≤ limit * 15 / 16)

/-- The top entry is popped: THERMAL removed, the restore mark where the target turned CLOSED, and
THERMAL_RESTORE (R116, R117), which goes after the records that the removal causes at once (assumption 17). -/
def State.restore (r : ScanRecord) (s : State) : State :=
  match s.tsc.stack with
  | [] => s
  | top :: rest =>
    let s := s.modTsc fun t => { t with stack := rest, lastMove := some r.completion }
    let was := s.target top.string
    let s := (s.removeHold .thermal top.string).takeReports
    let s := if was = false ∧ s.target top.string = true
      then s.modTsc fun t => { t with restoreMark := some top.string } else s
    s.emitAt r.completion .thermalRestore (some top.string) (r.completion - top.time).toNat r.temperature

/-- The controller's work on one completion, in the order of R110. The restore mark's test by the state read (R117)
comes before step 2, whatever the limit is (assumption 35). -/
def State.shedWork (r : ScanRecord) (s : State) : State :=
  let states := s.switchState
  let limit := deratedLimit (s.cfgNat .lRated) (s.cfg .tKnee) (s.cfg .tCut) r.temperature
  let total := totalOf r states
  let victims := s.victimOrder r (stringsWhere fun i => decide (states i = .closed))
  let s := s.modTsc fun t => { t with
    limit := some limit, total := some total
    restoreMark := match t.restoreMark with
      | some i => if stillReturning (states i) then some i else none
      | none => none }
  if limit = 0 then s.fullShed r total victims
  else
    let s := s.modTsc fun t => { t with
      victim := match t.victim with
        | some i => if stillAwaited (states i) then some i else none
        | none => none }
    let s := if s.tsc.victim.isNone
      then s.modTsc fun t => { t with overDwell := overDwellAfter t.overDwell total limit } else s
    match victims with
    | top :: _ =>
      if s.tsc.victim.isNone ∧ 0 < s.tsc.overDwell ∧ s.cfgNat .nShed ≤ s.tsc.overDwell
          ∧ s.searchMeasuring = false
      then s.shedOne r total top
      else if s.restoreTest r limit total then s.restore r else s
    | [] => if s.restoreTest r limit total then s.restore r else s

end Sys2Proof.Machine
end

