-- ==== Sys2Proof/Machine/Alarm.lean ====
section
/-! DEFINITION. Array conditions (R47), the Arc Detector's work on a scan completion (section 7.1), the fire
loop (section 7.2) and the judging of PERIODIC insulation readings (section 6.1). -/

namespace Sys2Proof.Machine

/-! ### Array conditions (R47) -/

/-- ARC is added to all present strings (R148, R149): nothing changes where the condition stands; else it
comes to stand, and an active search is aborted after the additions (R138). The commit is asked for by each addition
that changes a string, so there is none where no string is PRESENT (assumption 45). -/
def State.standArc (s : State) : State :=
  if s.stab.conditions.arc then s
  else
    let s := s.modStab fun t => { t with conditions := { t.conditions with arc := true } }
    (s.addHolds .arc s.presentSet).takeReports.abortSearch

/-- FIRE is added to all present strings (R152): nothing changes where the condition stands; else it comes
to stand, with one HOLD_CHANGED, and an active search is aborted after the additions (R138). HOLD_CHANGED goes before an
ARRAY_SAFE that the additions cause (assumption 44). The commit is asked for by each addition that changes a string, so
there is none where every present string carries FIRE already, or none is PRESENT (assumption 45). -/
def State.standFire (s : State) : State :=
  if s.stab.conditions.fire then s
  else
    let gained := s.presentSet.filter fun i => !s.has .fire i
    let s := s.modStab fun t => { t with conditions := { t.conditions with fire := true } }
    let s := s.addHolds .fire s.presentSet
    (s.emitHoldChanged .fire true .fireLoop gained).takeReports.abortSearch

/-- The start condition is cleared and START removed from every string in ascending order (R47, R123). -/
def State.clearStart (s : State) : State :=
  let s := s.modStab fun t => { t with conditions := { t.conditions with start := false } }
  s.removeHolds .start (s.carriers .start)

/-- The store condition is cleared and STORE removed from every string in ascending order (R47, R65). -/
def State.clearStore (s : State) : State :=
  let s := s.modStab fun t => { t with conditions := { t.conditions with store := false } }
  s.removeHolds .store (s.carriers .store)

/-- The arc condition is cleared, ARC removed from every string, and the Arc Detector told: its window
empties (R64, R150). -/
def State.clearArc (s : State) : State :=
  let s := s.modStab fun t => { t with conditions := { t.conditions with arc := false } }
  let s := s.removeHolds .arc (s.carriers .arc)
  s.modArcd fun a => { a with window := [] }

/-- The fire condition is cleared and FIRE removed from every string, with one HOLD_CHANGED (R153). -/
def State.clearFire (p : Port) (s : State) : State :=
  let lost := s.carriers .fire
  let s := s.modStab fun t => { t with conditions := { t.conditions with fire := false } }
  (s.removeHolds .fire lost).emitHoldChanged .fire false (.port p) lost

/-! ### The Arc Detector's window (R147, R148) -/

/-- The window after a mark joins it: eight scans at most, the oldest leaving (R147). -/
def windowAfter (w : List Bool) (mark : Bool) : List Bool :=
  let w := w ++ [mark]
  if 8 < w.length then w.drop 1 else w

/-- A scan is OVER (R147). -/
def scanOver (r : ScanRecord) (trip : Nat) : Bool := !r.arcBlank && decide (trip ≤ r.arcIndex.toNat)

/-- The detector's work on one completion (R147, R148). -/
def State.judgeArc (r : ScanRecord) (s : State) : State :=
  let s := s.modArcd fun a => { a with window := windowAfter a.window (scanOver r (s.cfgNat .aTrip)) }
  let count := s.overCount
  if 0 < count ∧ s.cfgNat .aCount ≤ count then
    let stood := s.stab.conditions.arc
    let s := s.standArc.modArcd fun a => { a with window := [] }
    s.emitAt r.completion .arcTrip none r.arcIndex.toNat (count + (if stood then 0x100 else 0))
  else s

/-! ### The fire loop (R151, R152) -/

/-- The accepted state a raw class becomes. -/
def acceptedAs : LoopClass → LoopState
  | .normal => .normal
  | .alarm => .alarm
  | .loopFault => .loopFault

/-- How long a class must hold, in ms (R151). -/
def fireDebounce : Nat := 200

/-- The raw class changes: the timer starts afresh for a class that differs from the accepted state, and
stops for one that equals it (R151). -/
def Fli.classChanges (f : Fli) (c : LoopClass) (now : Nat) : Fli :=
  if c = f.raw then f
  else { f with raw := c, debounce := if acceptedAs c = f.accepted then none else some (now + fireDebounce) }

/-- The debounce timer expires: the accepted state becomes the raw class (R151), with the action and the
event of R152 at a change. -/
def State.acceptLoop (s : State) : State :=
  let old := s.fli.accepted
  let new := acceptedAs s.fli.raw
  let s := s.modFli fun f => { f with debounce := none, accepted := new }
  if new = old then s
  else
    let s := if new = .alarm ∨ new = .loopFault then s.standFire else s
    s.emit .fireLine none (loopCode new) (loopCode old)

/-! ### PERIODIC readings (R122 to R126) -/

/-- The actions INSULATION_LOW reports (R184). -/
inductive LowAction where
  | startGate
  | noSearch
  | suppressed
  | search
  deriving DecidableEq, Repr

/-- The code of an action (R184). -/
def LowAction.code : LowAction → Nat
  | .startGate => 0
  | .noSearch => 1
  | .suppressed => 2
  | .search => 3

/-- INSULATION_LOW is handed over where `report` holds, and the low mark is set (R123, R125). -/
def State.lowReading (reading : Nat) (action : LowAction) (report : Bool) (s : State) : State :=
  let s := if report then s.emit .insulationLow none reading action.code else s
  s.modImon fun m => { m with lowMark := true }

/-- The first two cases of R125: GROUND goes on each string read as CLOSED, and the cycle goes on with a gap. -/
def State.groundClosed (reading : Nat) (detail : GroundDetail) (action : LowAction) (s : State) : State :=
  let closed := s.closedSet
  let gains := closed.any fun i => s.present i && !s.has .ground i
  let was := s.imon.lowMark
  ((s.addHolds (.ground detail) closed).takeReports.lowReading reading action (!was || gains)).startGap

/-- A confirmed low reading (R125). -/
def State.confirmedLow (reading : Nat) (s : State) : State :=
  if s.cfg .searchEnable = 0 then s.groundClosed reading .noSearch .noSearch
  else if s.imon.suppression then s.groundClosed reading .busSide .suppressed
  else (s.startSearch 0).lowReading reading .search true

/-- A PERIODIC reading is judged by its purpose and the start condition (R123, R124). -/
def State.judgePeriodic (reading : Nat) (purpose : Purpose) (s : State) : State :=
  let low := decide ((reading : Int) < s.cfg .rTrip)
  let good := decide (s.cfg .rClear ≤ (reading : Int))
  if s.stab.conditions.start then
    if good then s.clearStart.startGap
    else if low then (if s.imon.lowMark then s else s.lowReading reading .startGate true).startGap
    else s.startGap
  else if low then
    match purpose with
    | .confirm => s.confirmedLow reading
    | _ => s.startMeasurement .periodic .confirm
  else s.startGap

/-- A PERIODIC measurement completes: the last reading is replaced, a reading at or above R_clear clears the
low and suppression marks, and the reading is judged (R119, R126). -/
def State.periodicMeasured (reading : Nat) (purpose : Purpose) (s : State) : State :=
  let good := decide (s.cfg .rClear ≤ (reading : Int))
  let s := s.modImon fun m => { m with
    inFlight := none
    last := some { reading := reading, time := s.uptime, owner := .periodic }
    lowMark := m.lowMark && !good
    suppression := m.suppression && !good }
  s.judgePeriodic reading purpose

end Sys2Proof.Machine
end

