-- ==== Sys2Proof/Machine/Layouts.lean ====
section
/-! DEFINITION. The layouts of replies and event records (chapter 11). -/

namespace Sys2Proof.Machine

/-- A field of two bytes that may be absent: all ones (R182). -/
def field16 (x : Option Nat) : List Byte :=
  match x with
  | some n => bytes16 (BitVec.ofNat 16 n)
  | none => [0xFF, 0xFF]

/-- A signed field of two bytes that may be absent: its most negative value (R182). -/
def signedField16 (x : Option Int) : List Byte :=
  match x with
  | some n => bytes16 (BitVec.ofInt 16 n)
  | none => [0x80, 0x00]

/-- A field of one byte that may be absent (R182). -/
def field8 (x : Option Nat) : Byte := byte (x.getD 0xFF)

/-- An event record's twelve bytes (R184). -/
def EventRecord.encode (e : EventRecord) : List Byte :=
  [byte (e.kind.slot.val + 1 + bitAt 7 e.gap),
   byte (match e.string with
     | some i => stringNumber i
     | none => 0)]
    ++ bytes32 e.time ++ bytes32 e.valueA ++ bytes16 e.valueB

/-- The code of a ground detail (section 11.1). -/
def detailCode : GroundDetail → Nat
  | .located => 0
  | .unresolved => 1
  | .busSide => 2
  | .noSearch => 3

/-- The two bytes of a hold set: bit k for the kind in row k + 1 of the kinds table (section 11.1). -/
def holdBits (h : HoldSet) : Nat := (allHoldKinds.map fun k => bitAt k.slot.val h[k.slot]).sum

/-- A count of ms as whole seconds, rounded up (R106). -/
def secondsUp (ms : Nat) : Nat := (ms + 999) / 1000

/-- A string's reclose time remaining in seconds: absent without OVERCURRENT, 0 with auto no (R106). -/
def State.recloseLeft (s : State) (i : StringId) : Option Nat :=
  match (s.str i).overcurrent with
  | none => none
  | some d =>
    if d.auto then
      match (s.rcl[i]).reclose with
      | some t => some (secondsUp (t - s.now))
      | none => some 0
    else some 0

/-- A string's place in the shed stack, 1 for the top, 0 where it is not on it (R115, section 11.1). -/
def State.stackPosition (s : State) (i : StringId) : Nat :=
  match s.tsc.stack.findIdx? fun e => e.string == i with
  | some k => k + 1
  | none => 0

/-- The fields of a READ STRING reply (R72, section 11.1). The clipped flag is sent clear before the first scan
(assumption 33), the auto flag without an overcurrent detail (assumption 46). -/
def State.readString (s : State) (i : StringId) : List Byte :=
  let c := s.strSet i
  let r := s.str i
  let e := s.eval i
  let x := s.mfe.samples.map fun v => v.channels[i]
  [byte (stringNumber i), byte (bitAt 0 c.present), byte (groupCode c.group), byte c.rank,
   byte (rangeCode c.range)]
    ++ bytes16 (BitVec.ofNat 16 (holdBits r.holds))
    ++ [byte r.overcurrentCount, field8 (r.overcurrent.map OvercurrentDetail.attempt)]
    ++ field16 (s.recloseLeft i)
    ++ [field8 (r.faultKind.map faultCode), field8 (r.groundDetail.map detailCode),
        byte (switchCode (s.switchState i)), byte e.suspicion]
    ++ field16 e.lastDeficit
    ++ signedField16 (x.map Sample.current)
    ++ field16 (x.map Sample.sideVoltage)
    ++ [byte (s.stackPosition i),
        byte (bitAt 0 e.suspect + bitAt 1 ((x.map Sample.clipped).getD false)
          + bitAt 2 (s.mfe.daylight == .day) + bitAt 3 (s.target i)
          + bitAt 4 ((r.overcurrent.map OvercurrentDetail.auto).getD false))]

/-- The code of a cycle state (section 11.1). -/
def CycleState.code : CycleState → Nat
  | .measuring => 0
  | .gap => 1
  | .held => 2

/-- The code of a search state (section 11.1). -/
def SearchState.code : SearchState → Nat
  | .idle => 0
  | .isolate => 1
  | .busCheck => 2
  | .probeSwitch => 3
  | .probeMeasure => 4
  | .verifySwitch => 5
  | .verifyMeasure => 6

/-- The code of a reading's owner (section 11.1). -/
def Owner.code : Owner → Nat
  | .periodic => 0
  | .search => 1

/-- A group's fields in a STATUS reply. -/
def groupBytes (g : EvalGroup) : List Byte := field16 g.reference ++ [byte g.count]

/-- The STATUS flags (section 11.1). The arc blank flag is sent clear while there is no latest arc index (assumption
43). -/
def State.statusFlags (s : State) : Nat :=
  bitAt 0 (s.mfe.daylight == .day) + bitAt 1 s.imon.lowMark + bitAt 2 s.imon.suppression
    + bitAt 3 s.stab.conditions.fire + bitAt 4 s.stab.conditions.start
    + bitAt 5 s.stab.conditions.store + bitAt 6 s.stab.conditions.arc
    + bitAt 7 ((s.arcd.latest.map Prod.snd).getD false) + bitAt 8 s.sseq.curtail
    + bitAt 9 s.arcd.latest.isSome

/-- The fields of a STATUS reply on a port (R169, section 11.1). -/
def State.statusFields (s : State) (p : Port) : List Byte :=
  let g := s.gsu
  bytes32 s.uptime
    ++ field16 (s.mfe.samples.map Samples.bus)
    ++ signedField16 (s.mfe.samples.map Samples.temperature)
    ++ groupBytes s.seval.groups[0] ++ groupBytes s.seval.groups[1]
    ++ groupBytes s.seval.groups[2] ++ groupBytes s.seval.groups[3]
    ++ field16 s.tsc.limit ++ field16 s.tsc.total ++ [byte s.tsc.stack.length]
    ++ (match s.imon.last with
        | some l => field16 (some l.reading) ++ bytes32 l.time ++ [byte l.owner.code]
        | none => field16 none ++ [0xFF, 0xFF, 0xFF, 0xFF, 0xFF])
    ++ [byte s.cycleState.code, byte g.state.code, byte g.measurements, byte g.restarts,
        byte g.p.length, byte g.c.length, byte g.x.length, byte g.k.length, byte g.f.length,
        byte g.e.length, byte g.v.length,
        (s.arcd.latest.map Prod.fst).getD 0xFF, byte s.overCount, byte s.presentSet.length]
    ++ bytes16 (BitVec.ofNat 16 (setBits s.closedSet))
    ++ bytes16 (BitVec.ofNat 16 (setBits (stringsWhere fun i => s.switchState i == .faulted)))
    ++ [byte (s.ring p).records.length]
    ++ bytes16 (BitVec.ofNat 16 s.statusFlags)

end Sys2Proof.Machine
end

