-- ==== Sys2Proof/Machine/Requests.lean ====
section
/-! DEFINITION. How a request is taken (section 8.2), its rights (section 8.4), and the requests of the
ports, the Event Router and the settings: STATUS, READ STRING, FETCH EVENTS, READ SETTING, WRITE SETTING,
WRITE ROUTE, RESTART. -/

namespace Sys2Proof.Machine

/-! ### The gate (R162, R163, R165) -/

/-- The sender has the right to the request (R165, R167). -/
def State.permitted (s : State) (q : RequestCode) (p : Port) (payload : List Byte) : Bool :=
  match q, p with
  | .status, _ | .readString, _ | .fetchEvents, _ | .readSetting, _ => true
  | .writeRoute, .s => true
  | .writeRoute, _ => false
  | _, .m => s.ports.key.on
  | .hold, _ | .release, _ => true
  | _, .v => false
  | .acknowledge, .s => (byteAt payload 0 &&& 0x1F) != AckKind.store.flag
  | .fireRestore, .s | .searchStart, .s | .searchAbort, .s => true
  | .writeSetting, .s =>
    match settingOfIndex (byteAt payload 0) with
    | some r => !r.reserved
    | none => true
  | .retire, .s | .retestSwitch, .s | .calibrate, .s | .setPresence, .s | .restart, .s => false

/-- A port has a request outstanding, or the part is in the restart wait (R163, R170). -/
def State.busy (s : State) (p : Port) : Bool := (s.port p).outstanding.isSome || s.ports.restartWait

/-- A port hears a request: the part has supply, and the port is not transmitting (R160). -/
def State.hears (s : State) (p : Port) : Bool := s.powered && (s.port p).transmitting.isNone

/-- A received request is taken: the checks of R162 in their order, then the owner's work. -/
def State.serve (q : RequestCode) (p : Port) (payload : List Byte) (owner : State → State) (s : State) : State :=
  if s.hears p = false then s
  else
    let s := s.modPort p fun t => t.heard s.now .idle
    if s.busy p then s.reply p (requestCode q) .busy []
    else if sizeFits q p payload = false then s.reply p (requestCode q) .badForm []
    else if s.permitted q p payload = false then s.reply p (requestCode q) .notPermitted []
    else owner s

/-- Commits of several records are asked for, with a port's reply waiting on each. -/
def askAll (p : Port) : List StoreRecord → State → State
  | [], s => s
  | r :: rs, s => askAll p rs (s.askCommit r [p])

/-- A request that took effect ends: the step settles, and its reply is ready at once, or waits for the
commits of the records given (R55, R163). ARRAY SAFE is worked out here, after the HOLD_CHANGED that the request has
handed over (R156; assumption 44). -/
def State.conclude (p : Port) (q : RequestCode) (waits : List StoreRecord) (result : Result)
    (body : List Byte) (s : State) : State :=
  let s := s.takeReports.settle
  if waits.isEmpty then (s.reply p (requestCode q) result body).beginWrite
  else (askAll p waits (s.startWait p (requestCode q) (.commit result body))).beginWrite

/-! ### Requests that only read -/

/-- STATUS (R169). -/
def State.statusRequest (p : Port) (s : State) : State :=
  s.reply p (requestCode .status) .done (s.statusFields p)

/-- READ STRING (R72). -/
def State.readStringRequest (p : Port) (payload : List Byte) (s : State) : State :=
  match stringOfByte (byteAt payload 0) with
  | some i => s.reply p (requestCode .readString) .done (s.readString i)
  | none => s.reply p (requestCode .readString) .badString []

/-- The most records a FETCH EVENTS returns (R174). -/
def fetchLimit : Nat := 6

/-- FETCH EVENTS (R174). -/
def State.fetchRequest (p : Port) (payload : List Byte) (s : State) : State :=
  let n := (byteAt payload 0).toNat
  if n = 0 ∨ fetchLimit < n then s.reply p (requestCode .fetchEvents) .badForm []
  else
    let taken := ((s.ring p).fetch n).1
    let left := ((s.ring p).fetch n).2
    (s.modRing p fun _ => left).reply p (requestCode .fetchEvents) .done
      ([byte taken.length, byte left.records.length] ++ (taken.map EventRecord.encode).flatten)

/-- The value in force of a setting, for a per-string one that of a string (R166, section 11.2). -/
def State.settingInForce (s : State) (r : SettingRef) (i : StringId) : Int :=
  match r with
  | .whole k => s.cfg k
  | .offset => (s.strSet i).offset
  | .gain => (s.strSet i).gain
  | .range => rangeCode (s.strSet i).range
  | .group => groupCode (s.strSet i).group
  | .rank => (s.strSet i).rank

/-- What a READ SETTING or WRITE SETTING addresses: the setting, and its string for a per-string one. The
string byte is not looked at for the others (R183). -/
def settingTarget (payload : List Byte) : Except Result (SettingRef × StringId) :=
  match settingOfIndex (byteAt payload 0) with
  | none => .error .badForm
  | some r =>
    if r.perString then
      match stringOfByte (byteAt payload 1) with
      | some i => .ok (r, i)
      | none => .error .badString
    else .ok (r, 0)

/-- READ SETTING (R166). The reply carries the request's string byte, for a setting that is not per string too
(assumption 39). -/
def State.readSettingRequest (p : Port) (payload : List Byte) (s : State) : State :=
  match settingTarget payload with
  | .error r => s.reply p (requestCode .readSetting) r []
  | .ok (r, i) =>
    s.reply p (requestCode .readSetting) .done
      ([byteAt payload 0, byteAt payload 1] ++ bytes32 (BitVec.ofInt 32 (s.settingInForce r i)))

/-! ### WRITE SETTING (R167, R168) -/

/-- Put a whole setting's value in force. -/
def State.putValue (k : Setting) (x : Int) (s : State) : State :=
  s.modSettings fun c => { c with values := c.values.set k.slot x }

/-- The lower partner of a dependent setting is written: a dependent setting left below its least value is
raised (R168). -/
def State.raiseDependent (k : Setting) (x : Int) (s : State) : State :=
  match dependentOf k x with
  | some (d, least) => if s.cfg d < least then s.putValue d least else s
  | none => s

/-- A whole setting is written: its value, its dependent setting, and for I_zero the fast comparisons (R9). The
write is applied to all sixteen indications at once; the crossings it makes reach the sequencer in ascending string
order, each acted on before the next (assumption 32). -/
def State.writeWhole (k : Setting) (x : Int) (s : State) : State :=
  let s := (s.putValue k x).raiseDependent k x
  if k = .iZero then s.compareFast allStrings else s

/-- A write of a peer group that changes it resets the suspicion counter and clears the flag (R23). -/
def State.writeGroup (i : StringId) (g : PeerGroup) (s : State) : State :=
  if (s.strSet i).group = g then s
  else
    let was := (s.eval i).suspect
    let s := s.modStringSettings i fun c => { c with group := g }
    let s := s.modEval i fun e => { e with suspicion := 0, suspect := false }
    if was then s.emit .suspectCleared (some i) 0 1 else s

/-- The value in force that a write gives, and the state with it in force; `none` where the value names no
value of an enumerated setting (R167). -/
def State.writeValue (s : State) (r : SettingRef) (i : StringId) (x : Int) : Option (Int × State) :=
  match r with
  | .whole k => (s.settingValue k x).map fun y => (y, s.writeWhole k y)
  | .offset =>
    let y := clampInt (-65536) 65535 x
    some (y, s.modStringSettings i fun c => { c with offset := y })
  | .gain =>
    let y := clampInt 1 65535 x
    some (y, s.modStringSettings i fun c => { c with gain := y.toNat })
  | .range => (rangeOf x).map fun y => (x, s.modStringSettings i fun c => { c with range := y })
  | .group => (groupOf x).map fun y => (x, s.writeGroup i y)
  | .rank =>
    let y := clampInt 0 15 x
    some (y, s.modStringSettings i fun c => { c with rank := y.toNat })

/-- A write of a partner raises its dependent setting (R168). -/
def State.raises (s : State) (r : SettingRef) (y : Int) : Bool :=
  match r with
  | .whole k =>
    match dependentOf k y with
    | some (d, least) => decide (s.cfg d < least)
    | none => false
  | _ => false

/-- WRITE SETTING (R167). The reply carries the request's string byte, for a setting that is not per string too
(assumption 39). -/
def State.writeSettingRequest (p : Port) (payload : List Byte) (s : State) : State :=
  match settingTarget payload with
  | .error r => s.reply p (requestCode .writeSetting) r []
  | .ok (r, i) =>
    let x := signed32Of (payload.drop 2)
    match s.writeValue r i x with
    | none => s.reply p (requestCode .writeSetting) .badForm []
    | some (y, written) =>
      written.conclude p .writeSetting [.settings]
        (if y ≠ x ∨ s.raises r y = true then .doneClamped else .done)
        ([byteAt payload 0, byteAt payload 1] ++ bytes32 (BitVec.ofInt 32 y))

/-! ### WRITE ROUTE and RESTART -/

/-- WRITE ROUTE (R172). -/
def State.writeRouteRequest (p : Port) (payload : List Byte) (s : State) : State :=
  match kindOfCode (byteAt payload 0), ringsOf (byteAt payload 1) with
  | some k, some rings =>
    (s.modSettings fun c => { c with routes := c.routes.set k.slot rings }).conclude p .writeRoute
      [.settings] .done []
  | _, _ => s.reply p (requestCode .writeRoute) .badForm []

/-- RESTART (R170). -/
def State.restartRequest (p : Port) (s : State) : State :=
  (s.reply p (requestCode .restart) .done []).modPorts fun t => { t with restartWait := true }

/-! ### CALIBRATE and RETEST SWITCH (R13, R96) -/

/-- CALIBRATE (R13). -/
def State.calibrateRequest (p : Port) (payload : List Byte) (s : State) : State :=
  match stringOfByte (byteAt payload 0) with
  | none => s.reply p (requestCode .calibrate) .badString []
  | some i =>
    if s.present i = false then s.reply p (requestCode .calibrate) .badString []
    else if s.switchState i ≠ .opened ∨ s.has .svc i = false then
      s.reply p (requestCode .calibrate) .state []
    else
      (s.modMfe fun m => { m with capture := some { string := i, count := 0, sum := 0 } }).startWait p
        (requestCode .calibrate) .capture

/-- RETEST SWITCH (R96). -/
def State.retestRequest (p : Port) (payload : List Byte) (s : State) : State :=
  match stringOfByte (byteAt payload 0) with
  | none => s.reply p (requestCode .retestSwitch) .badString []
  | some i =>
    if s.present i = false then s.reply p (requestCode .retestSwitch) .badString []
    else if s.has .retired i then s.reply p (requestCode .retestSwitch) .retired []
    else if s.switchState i ≠ .faulted ∨ s.has .switch i = false ∨ s.has .svc i = false then
      s.reply p (requestCode .retestSwitch) .state []
    else
      let s := s.startWait p (requestCode .retestSwitch) .retest
      (((s.setRetestMark i true).retestStepQ i .firstOpen).arbiter).finish

end Sys2Proof.Machine
end

