-- ==== Sys2Proof/Machine/TableRequests.lean ====
section
/-! DEFINITION. The requests on the String Table and on the blocks that answer to it (sections 3.4 to 3.8,
7.2 and 6.5): HOLD, RELEASE, ACKNOWLEDGE, RETIRE, SET PRESENCE, FIRE RESTORE, SEARCH START, SEARCH ABORT. -/

namespace Sys2Proof.Machine

/-! ### Form and checks (R53, R54) -/

/-- The reply of a request that has reached the String Table's checks: it carries the failing value (R183). -/
def State.tableReply (p : Port) (q : RequestCode) (r : Result) (failing : Byte) (s : State) : State :=
  s.reply p (requestCode q) r [failing]

/-- A list of a request that must list strings has the right form (R53). -/
def listFits (list : List Byte) : Bool := decide (1 ≤ list.length) && decide (list.length ≤ 16)

/-- The checks of R54 on one value of a list, in their order. `retiredToo` lets a RETIRED string pass step
4 (R66), and `particular` is the request's own step 5. -/
def State.checkValue (s : State) (list : List Byte) (retiredToo : Bool)
    (particular : StringId → Option Result) (v : Byte) : Option Result :=
  match stringOfByte v with
  | none => some .badString
  | some i =>
    if 1 < list.count v then some .badForm
    else if s.present i = false then some .badString
    else if s.has .retired i ∧ retiredToo = false then some .retired
    else particular i

/-- The first failed check of R54: the values are examined in the order given. -/
def State.firstFailure (s : State) (list : List Byte) (retiredToo : Bool)
    (particular : StringId → Option Result) : List Byte → Option (Result × Byte)
  | [] => none
  | v :: vs =>
    match s.checkValue list retiredToo particular v with
    | some r => some (r, v)
    | none => s.firstFailure list retiredToo particular vs

/-- The checks of R54 on a whole list: its distinct values in ascending numeric order. -/
def State.checkList (s : State) (list : List Byte) (particular : StringId → Option Result) :
    Option (Result × Byte) :=
  s.firstFailure list false particular (distinctValues list)

/-! ### HOLD and RELEASE (section 3.5) -/

/-- The kind of hold a port's HOLD and RELEASE act on. -/
def partyKind : Port → HoldKind
  | .s => .sup
  | .v => .inv
  | .m => .svc

/-- The hold a port's HOLD places. -/
def partyHold (p : Port) (code : LockCode) : Hold :=
  match p with
  | .s => .sup
  | .v => .inv
  | .m => .svc code

/-- Step 5 of HOLD and RELEASE on port M: SVC with a different lock code fails (R58, R59). -/
def State.codeCheck (s : State) (p : Port) (code : LockCode) (r : Result) (i : StringId) : Option Result :=
  if p = .m ∧ s.has .svc i = true ∧ (s.str i).lockCode ≠ some code then some r else none

/-- A HOLD or RELEASE fails the checks of R53. -/
def holdFormFails (p : Port) (payload : List Byte) : Bool :=
  !listFits (listOf p payload) || (decide (p = .m) && decide (lockCodeOf payload = 0))

/-- The commits a HOLD or RELEASE waits for: the hold record's where SVC changed on some string (R55). -/
def partyWaits (p : Port) (changed : List StringId) : List StoreRecord :=
  if p = .m ∧ changed ≠ [] then [.holds] else []

/-- HOLD (R56, R58). HOLD_CHANGED goes before an ARRAY_SAFE of the same request (assumption 44). -/
def State.holdRequest (p : Port) (payload : List Byte) (s : State) : State :=
  let list := listOf p payload
  let code := lockCodeOf payload
  if holdFormFails p payload then s.tableReply p .hold .badForm 0
  else
    match s.checkList list (s.codeCheck p code .heldOtherCode) with
    | some (r, v) => s.tableReply p .hold r v
    | none =>
      let gained := (stringsOf list).filter fun i => !s.has (partyKind p) i
      ((s.addHolds (partyHold p code) (stringsOf list)).emitHoldChanged (partyKind p) true (.port p)
        gained).conclude p .hold (partyWaits p gained) .done [0]

/-- RELEASE (R57, R59). HOLD_CHANGED goes before an ARRAY_SAFE of the same request (assumption 44). -/
def State.releaseRequest (p : Port) (payload : List Byte) (s : State) : State :=
  let list := listOf p payload
  let code := lockCodeOf payload
  if holdFormFails p payload then s.tableReply p .release .badForm 0
  else
    match s.checkList list (s.codeCheck p code .wrongCode) with
    | some (r, v) => s.tableReply p .release r v
    | none =>
      let lost := (stringsOf list).filter fun i => s.has (partyKind p) i
      ((s.removeHolds (partyKind p) (stringsOf list)).emitHoldChanged (partyKind p) false (.port p)
        lost).conclude p .release (partyWaits p lost) .done [0]

/-! ### ACKNOWLEDGE (section 3.6) -/

/-- The hold kind an acknowledgement removes. -/
def AckKind.holdKind : AckKind → HoldKind
  | .reverse => .reverse
  | .ground => .ground
  | .arc => .arc
  | .overcurrent => .overcurrent
  | .store => .store

/-- ACKNOWLEDGE of a per-string kind acts on strings that have passed their checks (R62, R63). -/
def State.acknowledgeStrings (kind : AckKind) (strings : List StringId) (s : State) : State :=
  let s := s.removeHolds kind.holdKind strings
  match kind with
  | .overcurrent => forStrings (fun i s => s.modString i fun r => { r with overcurrentCount := 0 }) strings s
  | _ => s

/-- ACKNOWLEDGE of a per-string kind (R61 to R63). -/
def State.acknowledgeListed (kind : AckKind) (p : Port) (payload : List Byte) (s : State) : State :=
  let list := payload.drop 1
  if ackKindOf (byteAt payload 0) ≠ some kind ∨ listFits list = false then
    s.tableReply p .acknowledge .badForm 0
  else
    match s.checkList list fun i => if s.has kind.holdKind i then none else some .state with
    | some (r, v) => s.tableReply p .acknowledge r v
    | none =>
      (s.acknowledgeStrings kind (stringsOf list)).conclude p .acknowledge
        (if kind = .overcurrent then [] else [.holds]) .done [0]

/-- ACKNOWLEDGE of kind ARC (R64): the commit is asked for whenever the condition stood (assumption 11). -/
def State.acknowledgeArc (p : Port) (payload : List Byte) (s : State) : State :=
  if ackKindOf (byteAt payload 0) ≠ some .arc ∨ payload.drop 1 ≠ [] then
    s.tableReply p .acknowledge .badForm 0
  else if s.stab.conditions.arc = false then s.tableReply p .acknowledge .state 0
  else s.clearArc.conclude p .acknowledge [.holds] .done [0]

/-- ACKNOWLEDGE of kind STORE (R65). -/
def State.acknowledgeStore (p : Port) (payload : List Byte) (s : State) : State :=
  if ackKindOf (byteAt payload 0) ≠ some .store ∨ payload.drop 1 ≠ [] then
    s.tableReply p .acknowledge .badForm 0
  else if s.stab.conditions.store = false then s.tableReply p .acknowledge .state 0
  else s.clearStore.conclude p .acknowledge [] .done [0]

/-- A request on the row of one kind of ACKNOWLEDGE is not that row's where its kind byte names exactly one
other kind (assumption 2). -/
def ackOfOther (kind : AckKind) (payload : List Byte) : Bool :=
  match ackKindOf (byteAt payload 0) with
  | some k => k != kind
  | none => false

/-- ACKNOWLEDGE, of the row of one kind. -/
def State.serveAck (kind : AckKind) (p : Port) (payload : List Byte) (owner : State → State) (s : State) :
    State :=
  if ackOfOther kind payload then s else s.serve .acknowledge p payload owner

/-! ### RETIRE (section 3.7) -/

/-- Step 5 of RETIRE (R66). -/
def State.retireCheck (s : State) (code : LockCode) (i : StringId) : Option Result :=
  if s.has .svc i = false then some .state
  else if (s.str i).lockCode ≠ some code then some .wrongCode
  else none

/-- RETIRE (R66). -/
def State.retireRequest (p : Port) (payload : List Byte) (s : State) : State :=
  let v := byteAt payload 0
  let code := lockCodeOf (payload.drop 1)
  if code = 0 then s.tableReply p .retire .badForm 0
  else
    match s.checkValue [v] true (s.retireCheck code) v, stringOfByte v with
    | some r, _ => s.tableReply p .retire r v
    | none, some i =>
      if s.has .retired i then s.tableReply p .retire .done 0
      else (s.addHold .retired i).conclude p .retire [.holds] .done [0]
    | none, none => s

/-! ### SET PRESENCE (section 3.8) -/

/-- The evaluator's part of R69: counters cleared, with SUSPECT_CLEARED where the flag was set (R37). -/
def State.forgetEval (i : StringId) (s : State) : State :=
  let was := (s.eval i).suspect
  let s := s.modEval i fun _ => emptyEval
  if was then s.emit .suspectCleared (some i) 0 2 else s

/-- One HOLD_CHANGED for each party kind a string lost to a presence change (R69). -/
def State.emitLost (i : StringId) (held : HoldKind → Bool) : List HoldKind → State → State
  | [], s => s
  | k :: ks, s =>
    State.emitLost i held ks (if held k then s.emitHoldChanged k false .presence [i] else s)

/-- Every kind a string carries is removed, each removal reported (R69). -/
def State.takeAll (i : StringId) : List HoldKind → State → State
  | [], s => s
  | k :: ks, s => State.takeAll i ks (s.takeHold k i)

/-- A string is made ABSENT (R69). ARRAY SAFE is worked out anew when the sequencer has taken the change
(assumption 13). The HOLD_CHANGED events for the party kinds lost go out in the order SUP, INV, SVC, FIRE (assumption
34). -/
def State.makeAbsent (i : StringId) (s : State) : State :=
  let held := fun k => s.has k i
  let s := (s.modStringSettings i fun c => { c with present := false }).askCommit .settings []
  let s := (State.takeAll i allHoldKinds s).searchLoses i
  let s := s.modString i fun r => { r with overcurrentCount := 0 }
  let s := s.forgetEval i
  let s := s.modSwitch i fun w => { w with dwell := .stopped }
  let s := s.enter i .absent none
  let s := s.modTsc fun t => { t with restoreMark := if t.restoreMark = some i then none else t.restoreMark }
  (State.emitLost i held [.sup, .inv, .svc, .fire] s.takeReports).askCommit .holds []

/-- A string is given the holds of the conditions that stand (R70). -/
def State.addConditions (i : StringId) (s : State) : State :=
  let c := s.stab.conditions
  let s := if c.fire then s.putHold .fire i else s
  let s := if c.start then s.putHold .start i else s
  let s := if c.store then s.putHold .store i else s
  if c.arc then s.putHold .arc i else s

/-- The sequencer takes a string from ABSENT to OPEN, its recovery entry and deadline gone, as its feedback
shows (R99). -/
def State.openFromAbsent (i : StringId) (s : State) : State :=
  let s := (s.leaveQueue i).setTimer i none
  if s.feedback i then (s.enter i .opened none).becomeFaulted i .uncommandedClosed
  else (s.startDwell i).enter i .opened none

/-- A string is made PRESENT (R70). -/
def State.makePresent (i : StringId) (code : LockCode) (s : State) : State :=
  let fire := s.stab.conditions.fire
  let s := (s.modStringSettings i fun c => { c with present := true }).askCommit .settings []
  let s := (s.putHold (.svc code) i).addConditions i
  let s := (s.openFromAbsent i).takeReports
  let s := s.emitHoldChanged .svc true .presence [i]
  let s := if fire then s.emitHoldChanged .fire true .presence [i] else s
  s.askCommit .holds []

/-- What the checks of SET PRESENCE come to (R68). -/
inductive PresenceCheck where
  | fails (r : Result) (value : Byte)
  | same
  | changes (i : StringId)
  deriving DecidableEq, Repr

/-- The checks of R53 and R68 on SET PRESENCE, toward PRESENT or ABSENT. -/
def State.presenceCheck (s : State) (toPresent : Bool) (payload : List Byte) : PresenceCheck :=
  let v := byteAt payload 0
  let asked := byteAt payload 1
  let code := lockCodeOf (payload.drop 2)
  if code = 0 ∨ asked ≠ (if toPresent then 1 else 0) then .fails .badForm 0
  else
    match stringOfByte v with
    | none => .fails .badString v
    | some i =>
      if s.has .retired i then .fails .retired v
      else if s.present i = toPresent then .same
      else if s.switchState i ≠ (if toPresent then SwitchState.absent else SwitchState.opened) then
        .fails .state v
      else if toPresent = false ∧ s.has .svc i = true ∧ (s.str i).lockCode ≠ some code then
        .fails .wrongCode v
      else .changes i

/-- SET PRESENCE (R68 to R70). -/
def State.presenceRequest (toPresent : Bool) (p : Port) (payload : List Byte) (s : State) : State :=
  match s.presenceCheck toPresent payload with
  | .fails r v => s.tableReply p .setPresence r v
  | .same => s.tableReply p .setPresence .done 0
  | .changes i =>
    (if toPresent then s.makePresent i (lockCodeOf (payload.drop 2)) else s.makeAbsent i).conclude p
      .setPresence [.settings, .holds] .done [0]

/-- SET PRESENCE, of the row of one presence: a request that asks for the other is not that row's
(assumption 2). -/
def State.servePresence (toPresent : Bool) (p : Port) (payload : List Byte) (s : State) : State :=
  if 2 ≤ payload.length ∧ byteAt payload 1 = (if toPresent then 0 else 1) then s
  else s.serve .setPresence p payload (State.presenceRequest toPresent p payload)

/-! ### FIRE RESTORE, SEARCH START, SEARCH ABORT -/

/-- FIRE RESTORE (R153). -/
def State.fireRestoreRequest (p : Port) (s : State) : State :=
  if s.fli.accepted ≠ .normal then s.reply p (requestCode .fireRestore) .state []
  else if s.stab.conditions.fire = false then s.reply p (requestCode .fireRestore) .done []
  else (s.clearFire p).conclude p .fireRestore [.holds] .done []

/-- The cause a port gives a search it starts (R184). -/
def searchCause : Port → Nat
  | .s => 1
  | _ => 2

/-- SEARCH START (R139). -/
def State.searchStartRequest (p : Port) (s : State) : State :=
  if s.searchActive ∨ s.stab.conditions.start = true ∨ s.closedSet = [] then
    s.reply p (requestCode .searchStart) .state []
  else (s.startSearch (searchCause p)).conclude p .searchStart [] .done []

/-- SEARCH ABORT (R140): the reply waits where the abort added GROUND to some string. -/
def State.searchAbortRequest (p : Port) (s : State) : State :=
  if s.searchActive = false then s.reply p (requestCode .searchAbort) .state []
  else
    let gains := s.gsu.openSet.any fun i => s.present i && !s.has .ground i
    s.abortSearch.conclude p .searchAbort (if gains then [.holds] else []) .done []

end Sys2Proof.Machine
end

