-- ==== Sys2Proof/Machine/StartUp.lean ====
section
/-! DEFINITION. The start-up of the part (section 10.3) with start-up relay recovery (section 4.8), and the
loss of its supply. -/

namespace Sys2Proof.Machine

/-- Why the part starts up (R179). -/
inductive StartCause where
  | powerUp
  | supplyDip
  | request
  deriving DecidableEq, Repr

/-- The code of a cause (R184). -/
def StartCause.code : StartCause → Nat
  | .powerUp => 0
  | .supplyDip => 1
  | .request => 2

/-! ### Reading the two records (R177, R180) -/

/-- A record's latest good version, or what replaces a failed record. -/
def Copies.dataOr {α : Type} (c : Copies α) (replacement : α) : α :=
  match c.latest with
  | some v => v.data
  | none => replacement

/-- What replaces a failed hold record: no stored holds, presence as the settings give it (R180). -/
def emptyHoldRecord (c : Settings) : HoldRecord := tab fun i => emptyStored c.strings[i].present

/-- The two records as a start-up reads them. -/
structure ReadRecords where
  settings : Settings
  holds : HoldRecord
  settingsReplaced : Bool
  holdsReplaced : Bool
  deriving DecidableEq, Repr

/-- Step 2 of R179. -/
def Cfs.read (c : Cfs) : ReadRecords :=
  let settings := c.settingsCopies.dataOr defaultSettings
  { settings := settings
    holds := c.holdCopies.dataOr (emptyHoldRecord settings)
    settingsReplaced := c.settingsCopies.latest.isNone
    holdsReplaced := c.holdCopies.latest.isNone }

/-- The settings show a string PRESENT and the hold record shows it ABSENT (R179). -/
def ReadRecords.unknownHolds (r : ReadRecords) (i : StringId) : Bool :=
  (r.settings.strings[i]).present && !(r.holds[i]).present

/-- The two records differ about a string's presence (R179). -/
def ReadRecords.disagree (r : ReadRecords) : Bool :=
  allStrings.any fun i => (r.settings.strings[i]).present != (r.holds[i]).present

/-- The store condition stands after this start-up (R180). -/
def ReadRecords.storeStands (r : ReadRecords) : Bool :=
  r.settingsReplaced || r.holdsReplaced || allStrings.any r.unknownHolds

/-- The stored holds of a string that are restored: those of a string PRESENT in both records (R179). -/
def ReadRecords.restored (r : ReadRecords) (i : StringId) : StoredString :=
  if (r.settings.strings[i]).present && (r.holds[i]).present then r.holds[i] else emptyStored false

/-- A stored-hold change made by step 4 of R179: holds dropped from a string the settings show ABSENT, or
FIRE or ARC added to a present string that lacks it. -/
def ReadRecords.changesHolds (r : ReadRecords) (fire arc : Bool) : Bool :=
  allStrings.any fun i =>
    if (r.settings.strings[i]).present then
      (fire && !(r.restored i).holds[HoldKind.fire.slot]) || (arc && !(r.restored i).holds[HoldKind.arc.slot])
    else decide (storedHolds (r.holds[i]).holds ≠ noHolds)

/-! ### The volatile state (step 1 of R179) -/

/-- The part with every volatile state at its start-up value, the inputs read, and the settings in force. -/
def State.started (inp : StartInputs) (r : ReadRecords) (c : Cfs) (pending : List Instr) : State :=
  let s := State.off c.settingsCopies c.holdCopies pending
  let fast := inp.fast.map fun x => min x 3200
  let limit := (r.settings.values[Setting.iZero.slot]).toNat
  { s with
    powered := true
    settings := r.settings
    mfe := { s.mfe with fast := fast, below := fast.map fun x => decide (x < limit) }
    sseq := { s.sseq with feedback := inp.feedbackClosed }
    fli := { s.fli with raw := inp.loop, debounce := some fireDebounce }
    ports := { s.ports with
      port := { s := idlePort (r.settings.values[Setting.baudS.slot]).toNat
                v := idlePort (r.settings.values[Setting.baudV.slot]).toNat
                m := idlePort 115200 }
      key := { on := false, input := inp.keyOn, debounce := if inp.keyOn then some 50 else none } } }

/-! ### Holds (steps 4 and 5 of R179) -/

/-- A string's record after steps 4 and 5. -/
def ReadRecords.record (r : ReadRecords) (fire arc : Bool) (i : StringId) : StringRecord :=
  if (r.settings.strings[i]).present then
    let k := r.restored i
    let rec1 := { emptyRecord with holds := storedHolds k.holds, lockCode := k.lockCode,
                                   faultKind := k.faultKind, groundDetail := k.groundDetail }
    let rec2 := if fire then rec1.put .fire else rec1
    let rec3 := if arc then rec2.put .arc else rec2
    let rec4 := rec3.put .start
    if r.storeStands then rec4.put .store else rec4
  else emptyRecord

/-- Steps 4 and 5 of R179. -/
def State.restoreHolds (r : ReadRecords) (s : State) : State :=
  let fire := allStrings.any fun i => (r.restored i).holds[HoldKind.fire.slot]
  let arc := allStrings.any fun i => (r.restored i).holds[HoldKind.arc.slot]
  let s := if r.changesHolds fire arc || r.disagree then s.askCommit .holds [] else s
  s.modStab fun _ =>
    { strings := tab (r.record fire arc)
      conditions := { fire := fire, start := true, store := r.storeStands, arc := arc } }

/-! ### Start-up relay recovery (R99) -/

/-- A string's switch state as its presence, its stored SWITCH hold and its feedback give it. -/
def State.recoverSwitch (i : StringId) (s : State) : State :=
  let put (st : SwitchState) (s : State) : State := s.modSwitch i fun w => { w with state := st }
  if s.present i = false then put .absent s
  else if s.has .switch i then
    let s := put .faulted s
    if s.feedback i = true ∧ (s.str i).faultKind = some .failToClose
    then s.replaceFault i .uncommandedClosed else s
  else if s.feedback i then put .pendingOpen s
  else put .opened (s.startDwell i)

/-- The OPEN entry of a string read closed, and CURTAIL_WAIT where its indication is clear (R99, R89). -/
def State.recoverEntry (i : StringId) (s : State) : State :=
  if s.feedback i = true ∧ s.switchState i = .absent then s.joinQueue i .toOpen
  else if s.switchState i = .pendingOpen then
    let s := s.joinQueue i .toOpen
    if s.below i then s else s.enterCurtailWait i
  else s

/-- Step 6 of R179: the states, the positions-known mark, and the OPEN entries with their grants. Fault kinds are
replaced, each with its SWITCH_FAULT, in ascending string order, and the strings read closed under current enter
CURTAIL_WAIT, each with its INTERRUPT_FAILED, after all of these (assumption 42). -/
def State.recoverRelays (s : State) : State :=
  let s := forStrings State.recoverSwitch allStrings s
  let s := (s.modFli fun f => { f with positionsKnown := true }).noteStates.takeReports
  (forStrings State.recoverEntry allStrings s).arbiter.takeReports

/-! ### The start-up as a whole -/

/-- The replacement commits, ahead of any other (R180); of two the settings record's joins first (assumption 41). -/
def State.askReplacements (r : ReadRecords) (s : State) : State :=
  let s := if r.settingsReplaced then s.askCommit .settings [] else s
  if r.holdsReplaced then s.askCommit .holds [] else s

/-- The RESTARTED record (R181). -/
def State.emitRestarted (cause : StartCause) (r : ReadRecords) (s : State) : State :=
  s.emit .restarted none cause.code
    (bitAt 0 r.settingsReplaced + bitAt 1 r.holdsReplaced + bitAt 2 r.disagree : Nat)

/-- The stored records that a start-up finds: a supply loss in the middle of a write has spoilt its copy,
and the copies found not to pass their check are failed (R177). -/
def State.storeAtStart (inp : StartInputs) (s : State) : Cfs :=
  let c := s.cfs.loseSupply
  { c with settingsCopies := c.settingsCopies.fail inp.settingsAFails inp.settingsBFails
           holdCopies := c.holdCopies.fail inp.holdsAFails inp.holdsBFails }

/-- The start-up of R179. That it hands over no DAYLIGHT event, though it leaves the state NIGHT where it may have
been DAY (R12), is the model's choice (assumption 31). -/
def State.startUp (cause : StartCause) (inp : StartInputs) (s : State) : State :=
  let c := s.storeAtStart inp
  let r := c.read
  let t := (State.started inp r c s.pending).askReplacements r
  let t := t.emitRestarted cause r
  let t := (t.restoreHolds r).recoverRelays
  (t.startMeasurement .periodic .routine).beginWrite

/-- The auxiliary supply is lost and stays off (R177, R155). -/
def State.losePower (s : State) : State :=
  let c := s.cfs.loseSupply
  State.off c.settingsCopies c.holdCopies s.pending

/-- The restart wait ends (R170): the RESTART reply has been sent in full and the commit queue is empty. -/
def State.restartWaitOver (s : State) : Bool :=
  s.ports.restartWait && !s.restartReplyWaits && s.cfs.queue.isEmpty && s.cfs.writing.isNone

end Sys2Proof.Machine
end

