-- ==== Sys2Proof/Machine/FamilySupply.lean ====
section
/-! DEFINITION. The meanings of the supply commands: POWER_UP, SUPPLY_DIP, RESTART_WAIT_END, POWER_LOSS. -/

namespace Sys2Proof.Machine

/-- An occurrence takes effect on a part with supply where its condition holds; a command that stands for no
occurrence of its row changes nothing (assumption 2). -/
def State.happens (s : State) (condition : Bool) (effect : State → State) : Host.Outcome State Fault Refusal :=
  .next (if s.powered && condition then effect s else s)

/-- POWER_UP (R179): a part that still had supply loses it first (assumption 23). -/
def execPowerUp (inputs : StartInputs) (s : State) : Host.Outcome State Fault Refusal :=
  .next (s.startUp .powerUp inputs)

/-- SUPPLY_DIP (R179): the part starts up with what its stored records hold. -/
def execSupplyDip (inputs : StartInputs) (s : State) : Host.Outcome State Fault Refusal :=
  s.happens true fun s => s.startUp .supplyDip inputs

/-- RESTART_WAIT_END (R170). -/
def execRestartWaitEnd (inputs : StartInputs) (s : State) : Host.Outcome State Fault Refusal :=
  s.happens s.restartWaitOver fun s => s.startUp .request inputs

/-- POWER_LOSS (R177, R155). -/
def execPowerLoss (s : State) : Host.Outcome State Fault Refusal :=
  s.happens true State.losePower

end Sys2Proof.Machine
end

