-- ==== Sys2Proof/Machine/FamilyPorts.lean ====
section
/-! DEFINITION. The meanings of what the ports do of themselves (section 8.1), of the service key and of the
baud rate: FRAME_DROPPED, PARTIAL_FRAME_GIVEN_UP, UNKNOWN_REQUEST_CODE, REPLY_TRANSMIT_START,
TRANSMISSION_END, BAUD_RATE_APPLIED, SERVICE_KEY_INPUT_CHANGE, KEY_DEBOUNCE_EXPIRY. -/

namespace Sys2Proof.Machine

/-- A completed frame is dropped by a port: its CRC is wrong, or on S and V its address, held against the unit
address in force when the frame ends (R160, R168; assumption 20). -/
def State.drops (s : State) (p : Port) (frame : List Byte) : Bool :=
  frameWhole frame && (!crcRight frame || !s.addressed p frame)

/-- FRAME_DROPPED (R160). -/
def execFrameDropped (p : Port) (frame : List Byte) (s : State) : Host.Outcome State Fault Refusal :=
  s.happens (s.hears p && s.drops p frame) fun s => s.modPort p fun t => t.heard s.now .idle

/-- A port's receiver takes bytes that end no frame (R159). -/
def State.takeBytes (p : Port) (bytes : List Byte) (s : State) : State :=
  match (s.port p).hear bytes s.now with
  | some r => s.modPort p fun t => t.heard s.now r
  | none => s

/-- PARTIAL_FRAME_GIVEN_UP (R159). The bytes bring the receiver on where they give nothing up (assumption 7). -/
def execPartialFrameGivenUp (p : Port) (bytes : List Byte) (s : State) : Host.Outcome State Fault Refusal :=
  s.happens (s.hears p && !bytes.isEmpty) (State.takeBytes p bytes)

/-- A request with a code that is none of the seventeen is taken (R162, steps 1 and 2). -/
def State.takeUnknown (p : Port) (code : Byte) (s : State) : State :=
  let s := s.modPort p fun t => t.heard s.now .idle
  s.reply p code (if s.busy p then .busy else .badForm) []

/-- UNKNOWN_REQUEST_CODE (R162). -/
def execUnknownRequestCode (p : Port) (code : Byte) (_payload : List Byte) (s : State) :
    Host.Outcome State Fault Refusal :=
  s.happens (s.hears p && !knownCode code) (State.takeUnknown p code)

/-- REPLY_TRANSMIT_START (R161). -/
def execReplyTransmitStart (p : Port) (s : State) : Host.Outcome State Fault Refusal :=
  s.happens ((s.port p).maySend s.now) fun s => s.modPort p PortState.send

/-- TRANSMISSION_END (R161). -/
def execTransmissionEnd (p : Port) (s : State) : Host.Outcome State Fault Refusal :=
  s.happens (s.port p).transmitting.isSome fun s => s.modPort p fun t => t.sent s.now

/-- The baud rate setting of a port; port M has none (R158). -/
def baudOf : Port → Option Setting
  | .s => some .baudS
  | .v => some .baudV
  | .m => none

/-- A port applies the baud rate in force (R168). -/
def State.applyBaud (p : Port) (s : State) : State :=
  match baudOf p with
  | some k => s.modPort p fun t => { t with baud := s.cfgNat k }
  | none => s

/-- BAUD_RATE_APPLIED (R168): only while the port is neither collecting nor transmitting. -/
def execBaudRateApplied (p : Port) (s : State) : Host.Outcome State Fault Refusal :=
  s.happens (decide ((s.port p).receiver = .idle) && (s.port p).transmitting.isNone) (State.applyBaud p)

/-- How long the key input holds a position before the key state follows, in ms (R164). -/
def keyDebounce : Nat := 50

/-- The key input changes to a position (R164). -/
def Key.inputChanges (k : Key) (on : Bool) (now : Nat) : Key :=
  if k.input = on then k
  else { k with input := on, debounce := if on = k.on then none else some (now + keyDebounce) }

/-- SERVICE_KEY_INPUT_CHANGE (R164). -/
def execServiceKeyInputChange (on : Bool) (s : State) : Host.Outcome State Fault Refusal :=
  s.happens true fun s => s.modPorts fun t => { t with key := t.key.inputChanges on s.now }

/-- KEY_DEBOUNCE_EXPIRY (R164). -/
def execKeyDebounceExpiry (s : State) : Host.Outcome State Fault Refusal :=
  s.happens (s.due s.ports.key.debounce) fun s =>
    s.modPorts fun t => { t with key := { t.key with on := t.key.input, debounce := none } }

end Sys2Proof.Machine
end

