-- ==== Sys2Proof/Machine/FamilyRequests.lean ====
section
/-! DEFINITION. The meanings of the seventeen requests (R183), one for each row of the opcode table. A
request is heard by a part with supply whose port is not transmitting (R160), and taken by R162. -/

namespace Sys2Proof.Machine

/-- STATUS (R169). -/
def execStatus (p : Port) (payload : List Byte) (s : State) : Host.Outcome State Fault Refusal :=
  .next (s.serve .status p payload (State.statusRequest p))

/-- READ STRING (R72). -/
def execReadString (p : Port) (payload : List Byte) (s : State) : Host.Outcome State Fault Refusal :=
  .next (s.serve .readString p payload (State.readStringRequest p payload))

/-- HOLD (R56, R58). -/
def execHold (p : Port) (payload : List Byte) (s : State) : Host.Outcome State Fault Refusal :=
  .next (s.serve .hold p payload (State.holdRequest p payload))

/-- RELEASE (R57, R59). -/
def execRelease (p : Port) (payload : List Byte) (s : State) : Host.Outcome State Fault Refusal :=
  .next (s.serve .release p payload (State.releaseRequest p payload))

/-- ACKNOWLEDGE of kind REVERSE (R62). -/
def execAcknowledgeReverse (p : Port) (payload : List Byte) (s : State) : Host.Outcome State Fault Refusal :=
  .next (s.serveAck .reverse p payload (State.acknowledgeListed .reverse p payload))

/-- ACKNOWLEDGE of kind GROUND (R62). -/
def execAcknowledgeGround (p : Port) (payload : List Byte) (s : State) : Host.Outcome State Fault Refusal :=
  .next (s.serveAck .ground p payload (State.acknowledgeListed .ground p payload))

/-- ACKNOWLEDGE of kind OVERCURRENT (R63). -/
def execAcknowledgeOvercurrent (p : Port) (payload : List Byte) (s : State) :
    Host.Outcome State Fault Refusal :=
  .next (s.serveAck .overcurrent p payload (State.acknowledgeListed .overcurrent p payload))

/-- ACKNOWLEDGE of kind ARC (R64, R150). -/
def execAcknowledgeArc (p : Port) (payload : List Byte) (s : State) : Host.Outcome State Fault Refusal :=
  .next (s.serveAck .arc p payload (State.acknowledgeArc p payload))

/-- ACKNOWLEDGE of kind STORE (R65). -/
def execAcknowledgeStore (p : Port) (payload : List Byte) (s : State) : Host.Outcome State Fault Refusal :=
  .next (s.serveAck .store p payload (State.acknowledgeStore p payload))

/-- FIRE RESTORE (R153). -/
def execFireRestore (p : Port) (payload : List Byte) (s : State) : Host.Outcome State Fault Refusal :=
  .next (s.serve .fireRestore p payload (State.fireRestoreRequest p))

/-- RETIRE (R66). -/
def execRetire (p : Port) (payload : List Byte) (s : State) : Host.Outcome State Fault Refusal :=
  .next (s.serve .retire p payload (State.retireRequest p payload))

/-- RETEST SWITCH (R96). -/
def execRetestSwitch (p : Port) (payload : List Byte) (s : State) : Host.Outcome State Fault Refusal :=
  .next (s.serve .retestSwitch p payload (State.retestRequest p payload))

/-- CALIBRATE (R13). -/
def execCalibrate (p : Port) (payload : List Byte) (s : State) : Host.Outcome State Fault Refusal :=
  .next (s.serve .calibrate p payload (State.calibrateRequest p payload))

/-- SET PRESENCE toward ABSENT (R69). -/
def execSetPresenceAbsent (p : Port) (payload : List Byte) (s : State) : Host.Outcome State Fault Refusal :=
  .next (s.servePresence false p payload)

/-- SET PRESENCE toward PRESENT (R70). -/
def execSetPresencePresent (p : Port) (payload : List Byte) (s : State) : Host.Outcome State Fault Refusal :=
  .next (s.servePresence true p payload)

/-- SEARCH START (R139). -/
def execSearchStart (p : Port) (payload : List Byte) (s : State) : Host.Outcome State Fault Refusal :=
  .next (s.serve .searchStart p payload (State.searchStartRequest p))

/-- SEARCH ABORT (R140). -/
def execSearchAbort (p : Port) (payload : List Byte) (s : State) : Host.Outcome State Fault Refusal :=
  .next (s.serve .searchAbort p payload (State.searchAbortRequest p))

/-- FETCH EVENTS (R174). -/
def execFetchEvents (p : Port) (payload : List Byte) (s : State) : Host.Outcome State Fault Refusal :=
  .next (s.serve .fetchEvents p payload (State.fetchRequest p payload))

/-- READ SETTING (R166). -/
def execReadSetting (p : Port) (payload : List Byte) (s : State) : Host.Outcome State Fault Refusal :=
  .next (s.serve .readSetting p payload (State.readSettingRequest p payload))

/-- WRITE SETTING (R167). -/
def execWriteSetting (p : Port) (payload : List Byte) (s : State) : Host.Outcome State Fault Refusal :=
  .next (s.serve .writeSetting p payload (State.writeSettingRequest p payload))

/-- WRITE ROUTE (R172). -/
def execWriteRoute (p : Port) (payload : List Byte) (s : State) : Host.Outcome State Fault Refusal :=
  .next (s.serve .writeRoute p payload (State.writeRouteRequest p payload))

/-- RESTART (R170). -/
def execRestart (p : Port) (payload : List Byte) (s : State) : Host.Outcome State Fault Refusal :=
  .next (s.serve .restart p payload (State.restartRequest p))

end Sys2Proof.Machine
end

