-- ==== Sys2Proof/Machine/FamilyScan.lean ====
section
/-! DEFINITION. The meanings of the scan commands: SCAN_COMPLETION, the three take-ups of a completion, and
AFTER_RAMP_BLANK_EXPIRY. -/

namespace Sys2Proof.Machine

/-- The scan in progress has run for its whole interval (R1). -/
def State.scanOver (s : State) : Bool := decide (s.mfe.scanStart + s.mfe.scanLength ≤ s.now)

/-- SCAN_COMPLETION (R2). -/
def execScanCompletion (raw : RawScan) (s : State) : Host.Outcome State Fault Refusal :=
  s.happens s.scanOver fun s => (s.completeScan raw).finish

/-- The String Evaluator takes up the oldest completion handed to it (R21). -/
def State.sevalTakesUp (s : State) : State :=
  match s.handed.seval with
  | [] => s
  | r :: rest => ((s.modHanded fun h => { h with seval := rest }).evaluate r).finish

/-- SEVAL_SCAN_TAKE_UP (R21). -/
def execSevalScanTakeUp (s : State) : Host.Outcome State Fault Refusal := s.happens true State.sevalTakesUp

/-- The Thermal Shed Controller takes up the oldest completion handed to it (R110). -/
def State.tscTakesUp (s : State) : State :=
  match s.handed.tsc with
  | [] => s
  | r :: rest => ((s.modHanded fun h => { h with tsc := rest }).shedWork r).finish

/-- TSC_SCAN_TAKE_UP (R110). -/
def execTscScanTakeUp (s : State) : Host.Outcome State Fault Refusal := s.happens true State.tscTakesUp

/-- The Arc Detector takes up the oldest completion handed to it (R147). -/
def State.arcdTakesUp (s : State) : State :=
  match s.handed.arcd with
  | [] => s
  | r :: rest => ((s.modHanded fun h => { h with arcd := rest }).judgeArc r).finish

/-- ARCD_SCAN_TAKE_UP (R147). -/
def execArcdScanTakeUp (s : State) : Host.Outcome State Fault Refusal := s.happens true State.arcdTakesUp

/-- AFTER_RAMP_BLANK_EXPIRY (R146). -/
def execAfterRampBlankExpiry (s : State) : Host.Outcome State Fault Refusal :=
  s.happens (s.due s.arcd.blank) fun s => s.modArcd fun a => { a with blank := none }

end Sys2Proof.Machine
end

