-- ==== Sys2Proof/Machine/FamilySwitch.lean ====
section
/-! DEFINITION. The meanings of the switch sequencer's events (chapter 4): crossings of I_zero, feedback,
confirmation deadlines, the retest, pulses, ramps, dwells and the interrupt checks. -/

namespace Sys2Proof.Machine

/-- A reading of a fast detector lies below I_zero (R9). -/
def State.readsBelow (s : State) (reading : Nat) : Bool := decide (min reading 3200 < s.cfgNat .iZero)

/-- CURRENT_FELL_BELOW_I_ZERO (R9, R86, R87, R93). -/
def execCurrentFellBelowIZero (i : StringId) (reading : Nat) (s : State) : Host.Outcome State Fault Refusal :=
  s.happens (s.readsBelow reading) fun s => (s.readFast i reading).finish

/-- CURRENT_REACHED_I_ZERO (R9, R89). -/
def execCurrentReachedIZero (i : StringId) (reading : Nat) (s : State) : Host.Outcome State Fault Refusal :=
  s.happens (!s.readsBelow reading) fun s => (s.readFast i reading).finish

/-- FEEDBACK_SHOWS_CLOSED (R81, R90, R91, R97, R98, R99). -/
def execFeedbackShowsClosed (i : StringId) (s : State) : Host.Outcome State Fault Refusal :=
  s.happens (!s.feedback i) fun s => (s.feedbackClosed i).finish

/-- FEEDBACK_SHOWS_OPEN (R89, R90, R97, R98, R99). -/
def execFeedbackShowsOpen (i : StringId) (s : State) : Host.Outcome State Fault Refusal :=
  s.happens (s.feedback i) fun s => (s.feedbackOpen i).finish

/-- The timer a string's state carries has expired, in the state named. -/
def State.expired (s : State) (i : StringId) (st : SwitchState) : Bool :=
  s.switchState i == st && s.due (s.sw i).timer

/-- CLOSE_CONFIRM_EXPIRY (R81). -/
def execCloseConfirmExpiry (i : StringId) (s : State) : Host.Outcome State Fault Refusal :=
  s.happens (s.expired i .relayClosing) fun s => (s.becomeFaulted i .failToClose).finish

/-- OPEN_CONFIRM_EXPIRY (R89). -/
def execOpenConfirmExpiry (i : StringId) (s : State) : Host.Outcome State Fault Refusal :=
  s.happens (s.expired i .relayOpening) fun s => (s.becomeFaulted i .failToOpen).finish

/-- The confirmation deadline of a retest's step has expired (R98). -/
def State.retestStepLate (s : State) : State :=
  match s.sseq.retest with
  | some r =>
    if r.pulsed && s.due r.timer then (s.retestFails r.string r.step.unconfirmed).finish else s
  | none => s

/-- RETEST_STEP_EXPIRY (R98). -/
def execRetestStepExpiry (s : State) : Host.Outcome State Fault Refusal := s.happens true State.retestStepLate

/-- An open step's entry of a retest has waited t_interrupt (R96): the retest ends where the indication is
clear at that moment, and otherwise the entry waits on. It ends with the fault kind it had at the second open step
too, though the relay has then been confirmed closed (assumption 28). -/
def State.retestWaitOver (s : State) : State :=
  match s.sseq.retest with
  | some r =>
    if !r.pulsed && s.due r.timer then
      if s.below r.string then s.modSseq fun q => { q with retest := some { r with timer := none } }
      else ((s.endRetest r.string).takeReports.endUnitWait .retest).finish
    else s
  | none => s

/-- RETEST_OPEN_STEP_TIMEOUT (R96). -/
def execRetestOpenStepTimeout (s : State) : Host.Outcome State Fault Refusal :=
  s.happens true State.retestWaitOver

/-- RECOVERY_PULSE_EXPIRY (R99). -/
def execRecoveryPulseExpiry (i : StringId) (s : State) : Host.Outcome State Fault Refusal :=
  s.happens (s.expired i .absent) fun s =>
    ((s.setTimer i none).emit .switchFault (some i) (faultCode .failToOpen) (switchCode .absent)).finish

/-- PULSE_END (R93). -/
def execPulseEnd (i : StringId) (s : State) : Host.Outcome State Fault Refusal :=
  s.happens true fun s => (s.pulseEnds i).finish

/-- A string's ramp ends: its switch is fully on and it enters CLOSED (R83). STRING_CONNECTED goes
before the CONNECTED_SET of the entry (assumption 17). -/
def State.rampEnds (i : StringId) (s : State) : State :=
  ((s.drive i .on).emit .stringConnected (some i) 0 0).enter i .closed none

/-- RAMP_END (R83). -/
def execRampEnd (i : StringId) (s : State) : Host.Outcome State Fault Refusal :=
  s.happens (s.expired i .ramping) fun s => (s.rampEnds i).finish

/-- RAMP_SLOT_FREE (R82). -/
def execRampSlotFree (s : State) : Host.Outcome State Fault Refusal :=
  s.happens (s.due (s.sseq.slot.map RampSlot.freeAt)) fun s => s.rampTest.finish

/-- A string's dwell timer has run out (R78). -/
def Dwell.ends (d : Dwell) (now : Nat) : Bool :=
  match d with
  | .running t => decide (t ≤ now)
  | _ => false

/-- A string's dwell passes, and it is tested (R79, R80). -/
def State.dwellPasses (i : StringId) (s : State) : State :=
  ((s.modSwitch i fun w => { w with dwell := .passed }).testAndJoinQ i).arbiter

/-- DWELL_PASSED (R80). -/
def execDwellPassed (i : StringId) (s : State) : Host.Outcome State Fault Refusal :=
  s.happens ((s.sw i).dwell.ends s.now) fun s => (s.dwellPasses i).finish

/-- The voltages CLOSE_BLOCKED carries: those of the latest test, each absent where none could be made (R80, R182). -/
def QualTest.voltages : QualTest → Int × Int
  | .made _ side bus => (side, bus)
  | .unable => (-2147483648, -32768)

/-- t_qual has expired for a string in PENDING_CLOSE that has not joined the queue (R80). -/
def State.qualTimesOut (i : StringId) (s : State) : State :=
  let t := (s.sw i).lastTest
  let s := s.setTimer i none
  if t.isPassed then s else s.emit .closeBlocked (some i) t.voltages.1 t.voltages.2

/-- QUALIFICATION_TIMEOUT (R80). -/
def execQualificationTimeout (i : StringId) (s : State) : Host.Outcome State Fault Refusal :=
  s.happens (s.expired i .pendingClose && !s.queued i) (State.qualTimesOut i)

/-- INTERRUPT_TIMEOUT (R86, R87). -/
def execInterruptTimeout (i : StringId) (s : State) : Host.Outcome State Fault Refusal :=
  s.happens (s.expired i .interrupting) fun s => (s.enterCurtailWait i).finish

/-- A t_curtail period ends in CURTAIL_WAIT, and the next one starts (R87). -/
def State.curtailPeriodEnds (i : StringId) (s : State) : State :=
  let n := (s.sw i).periods + 1
  let s := s.modSwitch i fun w => { w with periods := n, timer := some (s.after (1000 * s.cfgNat .tCurtail)) }
  s.emit .isolationFailed (some i) (s.fast i) (min n 32767 : Nat)

/-- CURTAIL_PERIOD_EXPIRY (R87). -/
def execCurtailPeriodExpiry (i : StringId) (s : State) : Host.Outcome State Fault Refusal :=
  s.happens (s.expired i .curtailWait) (State.curtailPeriodEnds i)

end Sys2Proof.Machine
end

