-- ==== Sys2Proof/Machine/FamilyTimers.lean ====
section
/-! DEFINITION. The meanings of the other events: the Reclose Controller's timers, insulation measurements and
the ground search, the fire loop, the Event Router's timers and the commit of a stored record. -/

namespace Sys2Proof.Machine

/-- RECLOSE_EXPIRY (R103). -/
def execRecloseExpiry (i : StringId) (s : State) : Host.Outcome State Fault Refusal :=
  s.happens (s.due (s.rcl[i]).reclose) fun s => (s.recloseExpires i).finish

/-- STABLE_EXPIRY (R105). -/
def execStableExpiry (i : StringId) (s : State) : Host.Outcome State Fault Refusal :=
  s.happens (s.due (s.rcl[i]).stable) (State.stableExpires i)

/-- The greatest resistance a measurement reads, in kilohms (R119). -/
def readingLimit : Nat := 10000

/-- A PERIODIC measurement that has run for t_iso completes with a reading (R122 to R126). -/
def State.periodicCompletes (reading : Nat) (s : State) : State :=
  match s.imon.inFlight with
  | some f =>
    if f.owner = .periodic ∧ f.endsAt ≤ s.now
    then (s.periodicMeasured (min reading readingLimit) f.purpose).finish else s
  | none => s

/-- PERIODIC_MEASUREMENT_COMPLETE (R123). -/
def execPeriodicMeasurementComplete (reading : Nat) (s : State) : Host.Outcome State Fault Refusal :=
  s.happens true (State.periodicCompletes reading)

/-- GAP_EXPIRY (R122). -/
def execGapExpiry (s : State) : Host.Outcome State Fault Refusal :=
  s.happens (s.due s.imon.gap) fun s => s.startMeasurement .periodic .routine

/-- A SEARCH measurement that has run for t_iso completes with a reading (R131, R133, R135). -/
def State.searchCompletes (reading : Nat) (s : State) : State :=
  match s.imon.inFlight with
  | some f =>
    if f.owner = .search ∧ f.endsAt ≤ s.now
    then (s.searchMeasured (min reading readingLimit)).finish else s
  | none => s

/-- SEARCH_MEASUREMENT_COMPLETE (R133). -/
def execSearchMeasurementComplete (reading : Nat) (s : State) : Host.Outcome State Fault Refusal :=
  s.happens true (State.searchCompletes reading)

/-- STEP_TIMER_EXPIRY (R132, R135). -/
def execStepTimerExpiry (s : State) : Host.Outcome State Fault Refusal :=
  s.happens ((s.gsu.state == .probeSwitch || s.gsu.state == .verifySwitch) && s.due s.gsu.timer)
    fun s => s.stepTimerExpires.finish

/-- FIRE_LOOP_CLASS_CHANGE (R151). -/
def execFireLoopClassChange (c : LoopClass) (s : State) : Host.Outcome State Fault Refusal :=
  s.happens true fun s => s.modFli fun f => f.classChanges c s.now

/-- FIRE_DEBOUNCE_EXPIRY (R151, R152). -/
def execFireDebounceExpiry (s : State) : Host.Outcome State Fault Refusal :=
  s.happens (s.due s.fli.debounce) fun s => s.acceptLoop.finish

/-- CONNECTED_SET_HOLDOFF_EXPIRY (R176). -/
def execConnectedSetHoldoffExpiry (s : State) : Host.Outcome State Fault Refusal :=
  s.happens (s.due s.evr.holdOff) State.holdOffExpires

/-- COALESCE_EXPIRY (R175). -/
def execCoalesceExpiry (p : Port) (s : State) : Host.Outcome State Fault Refusal :=
  s.happens true (State.coalesceExpires p)

/-- COMMIT_COMPLETE (R178). -/
def execCommitComplete (s : State) : Host.Outcome State Fault Refusal :=
  s.happens true State.commitCompletes

end Sys2Proof.Machine
end

