-- ==== Sys2Proof/Machine/Dispatch.lean ====
section
/-! DEFINITION. What each command does: one arm for each constructor of Instr. -/

namespace Sys2Proof.Machine

def exec (i : Instr) (s : State) : Host.Outcome State Fault Refusal :=
  match i with
  | .powerUp inputs => Sys2Proof.Machine.execPowerUp inputs s
  | .supplyDip inputs => Sys2Proof.Machine.execSupplyDip inputs s
  | .restartWaitEnd inputs => Sys2Proof.Machine.execRestartWaitEnd inputs s
  | .frameDropped p frame => Sys2Proof.Machine.execFrameDropped p frame s
  | .unknownRequestCode p code payload => Sys2Proof.Machine.execUnknownRequestCode p code payload s
  | .status p payload => Sys2Proof.Machine.execStatus p payload s
  | .readString p payload => Sys2Proof.Machine.execReadString p payload s
  | .hold p payload => Sys2Proof.Machine.execHold p payload s
  | .release p payload => Sys2Proof.Machine.execRelease p payload s
  | .acknowledgeReverse p payload => Sys2Proof.Machine.execAcknowledgeReverse p payload s
  | .acknowledgeGround p payload => Sys2Proof.Machine.execAcknowledgeGround p payload s
  | .acknowledgeOvercurrent p payload => Sys2Proof.Machine.execAcknowledgeOvercurrent p payload s
  | .acknowledgeArc p payload => Sys2Proof.Machine.execAcknowledgeArc p payload s
  | .acknowledgeStore p payload => Sys2Proof.Machine.execAcknowledgeStore p payload s
  | .fireRestore p payload => Sys2Proof.Machine.execFireRestore p payload s
  | .retire p payload => Sys2Proof.Machine.execRetire p payload s
  | .retestSwitch p payload => Sys2Proof.Machine.execRetestSwitch p payload s
  | .calibrate p payload => Sys2Proof.Machine.execCalibrate p payload s
  | .setPresenceAbsent p payload => Sys2Proof.Machine.execSetPresenceAbsent p payload s
  | .setPresencePresent p payload => Sys2Proof.Machine.execSetPresencePresent p payload s
  | .searchStart p payload => Sys2Proof.Machine.execSearchStart p payload s
  | .searchAbort p payload => Sys2Proof.Machine.execSearchAbort p payload s
  | .fetchEvents p payload => Sys2Proof.Machine.execFetchEvents p payload s
  | .readSetting p payload => Sys2Proof.Machine.execReadSetting p payload s
  | .writeSetting p payload => Sys2Proof.Machine.execWriteSetting p payload s
  | .writeRoute p payload => Sys2Proof.Machine.execWriteRoute p payload s
  | .restart p payload => Sys2Proof.Machine.execRestart p payload s
  | .replyTransmitStart p => Sys2Proof.Machine.execReplyTransmitStart p s
  | .transmissionEnd p => Sys2Proof.Machine.execTransmissionEnd p s
  | .baudRateApplied p => Sys2Proof.Machine.execBaudRateApplied p s
  | .serviceKeyInputChange on => Sys2Proof.Machine.execServiceKeyInputChange on s
  | .keyDebounceExpiry => Sys2Proof.Machine.execKeyDebounceExpiry s
  | .scanCompletion raw => Sys2Proof.Machine.execScanCompletion raw s
  | .sevalScanTakeUp => Sys2Proof.Machine.execSevalScanTakeUp s
  | .tscScanTakeUp => Sys2Proof.Machine.execTscScanTakeUp s
  | .arcdScanTakeUp => Sys2Proof.Machine.execArcdScanTakeUp s
  | .afterRampBlankExpiry => Sys2Proof.Machine.execAfterRampBlankExpiry s
  | .currentFellBelowIZero string reading => Sys2Proof.Machine.execCurrentFellBelowIZero string reading s
  | .currentReachedIZero string reading => Sys2Proof.Machine.execCurrentReachedIZero string reading s
  | .feedbackShowsClosed string => Sys2Proof.Machine.execFeedbackShowsClosed string s
  | .feedbackShowsOpen string => Sys2Proof.Machine.execFeedbackShowsOpen string s
  | .closeConfirmExpiry string => Sys2Proof.Machine.execCloseConfirmExpiry string s
  | .openConfirmExpiry string => Sys2Proof.Machine.execOpenConfirmExpiry string s
  | .retestStepExpiry => Sys2Proof.Machine.execRetestStepExpiry s
  | .retestOpenStepTimeout => Sys2Proof.Machine.execRetestOpenStepTimeout s
  | .recoveryPulseExpiry string => Sys2Proof.Machine.execRecoveryPulseExpiry string s
  | .pulseEnd string => Sys2Proof.Machine.execPulseEnd string s
  | .rampEnd string => Sys2Proof.Machine.execRampEnd string s
  | .rampSlotFree => Sys2Proof.Machine.execRampSlotFree s
  | .dwellPassed string => Sys2Proof.Machine.execDwellPassed string s
  | .qualificationTimeout string => Sys2Proof.Machine.execQualificationTimeout string s
  | .interruptTimeout string => Sys2Proof.Machine.execInterruptTimeout string s
  | .curtailPeriodExpiry string => Sys2Proof.Machine.execCurtailPeriodExpiry string s
  | .recloseExpiry string => Sys2Proof.Machine.execRecloseExpiry string s
  | .stableExpiry string => Sys2Proof.Machine.execStableExpiry string s
  | .periodicMeasurementComplete reading => Sys2Proof.Machine.execPeriodicMeasurementComplete reading s
  | .gapExpiry => Sys2Proof.Machine.execGapExpiry s
  | .searchMeasurementComplete reading => Sys2Proof.Machine.execSearchMeasurementComplete reading s
  | .stepTimerExpiry => Sys2Proof.Machine.execStepTimerExpiry s
  | .fireLoopClassChange c => Sys2Proof.Machine.execFireLoopClassChange c s
  | .fireDebounceExpiry => Sys2Proof.Machine.execFireDebounceExpiry s
  | .connectedSetHoldoffExpiry => Sys2Proof.Machine.execConnectedSetHoldoffExpiry s
  | .coalesceExpiry p => Sys2Proof.Machine.execCoalesceExpiry p s
  | .commitComplete => Sys2Proof.Machine.execCommitComplete s
  | .partialFrameGivenUp p bytes => Sys2Proof.Machine.execPartialFrameGivenUp p bytes s
  | .powerLoss => Sys2Proof.Machine.execPowerLoss s

end Sys2Proof.Machine
end

