-- ==== Sys2Proof/WellFormed.lean ====
section
/-! DEFINITION. Which commands are well formed: those that can stand for an occurrence of their row.
`exec` is total on the others too; it takes an ill-formed command as an occurrence that never came, or
refuses the request in it as the spec's own checks do. -/

namespace Sys2Proof

/-- A payload fits a frame (R182: at most 120 bytes). -/
def payloadFits (payload : List Byte) : Bool := payload.length ≤ 120

/-- The five kind flags of ACKNOWLEDGE, each alone in a kind byte (R183). -/
def ackFlags : List Byte := [1, 2, 4, 8, 16]

/-- An ACKNOWLEDGE payload belongs to the row of `flag` unless its kind byte names exactly one other kind. -/
def ackBelongs (flag : Byte) (payload : List Byte) : Bool :=
  match payload with
  | [] => true
  | k :: _ => k == flag || !(ackFlags.contains k)

/-- A SET PRESENCE payload belongs to the row of `asked` unless its presence byte asks for the other. -/
def presenceBelongs (asked other : Byte) (payload : List Byte) : Bool :=
  match payload with
  | _ :: b :: _ => b == asked || b != other
  | _ => true

/-- A completed frame, from its address to its second CRC byte, has the size its length byte gives, and
its address is not 0xA5 (R159). -/
def frameComplete (frame : List Byte) : Bool :=
  match frame with
  | a :: n :: rest => a != 0xA5 && n != 0 && decide (n.toNat ≤ 121) && rest.length == n.toNat + 2
  | _ => false

/-- The well-formed commands. -/
def Instr.wf : Instr → Bool
  | .frameDropped _ frame => frameComplete frame
  | .unknownRequestCode _ code payload =>
      (decide (code.toNat = 0) || decide (17 < code.toNat)) && payloadFits payload
  | .status _ b | .readString _ b | .hold _ b | .release _ b | .fireRestore _ b | .retire _ b
  | .retestSwitch _ b | .calibrate _ b | .searchStart _ b | .searchAbort _ b | .fetchEvents _ b
  | .readSetting _ b | .writeSetting _ b | .writeRoute _ b | .restart _ b => payloadFits b
  | .acknowledgeReverse _ b => payloadFits b && ackBelongs 1 b
  | .acknowledgeGround _ b => payloadFits b && ackBelongs 2 b
  | .acknowledgeArc _ b => payloadFits b && ackBelongs 4 b
  | .acknowledgeOvercurrent _ b => payloadFits b && ackBelongs 8 b
  | .acknowledgeStore _ b => payloadFits b && ackBelongs 16 b
  | .setPresenceAbsent _ b => payloadFits b && presenceBelongs 0 1 b
  | .setPresencePresent _ b => payloadFits b && presenceBelongs 1 0 b
  | .baudRateApplied p => p != .m
  | .partialFrameGivenUp _ bytes => !bytes.isEmpty
  | _ => true

end Sys2Proof
end

