-- ==== Sys2Proof/Safety.lean ====
section
/-! DEFINITION. What a safe state of the part is, and the words the statements use: which commands are
requests, when a port takes one, what a reply is, and what a step leaves alone. -/

namespace Sys2Proof.Machine

/-- A command is answered by a next state of which something holds. -/
@[reducible] def Completes (o : Host.Outcome State Fault Refusal) (f : State → Prop) : Prop :=
  ∃ t, o = .next t ∧ f t

/-! ### Invariants: properties of one state that every step keeps -/

/-- A string's record carries a lock code exactly with SVC (R43), and each detail exactly with its hold (R44). -/
@[reducible] def StringRecord.exact (r : StringRecord) : Prop :=
  r.lockCode.isSome = r.holds[HoldKind.svc.slot] ∧ r.faultKind.isSome = r.holds[HoldKind.switch.slot] ∧
  r.groundDetail.isSome = r.holds[HoldKind.ground.slot] ∧
  r.overcurrent.isSome = r.holds[HoldKind.overcurrent.slot]

/-- The same of what the hold record holds of a string. -/
@[reducible] def StoredString.exact (r : StoredString) : Prop :=
  r.lockCode.isSome = r.holds[HoldKind.svc.slot] ∧ r.faultKind.isSome = r.holds[HoldKind.switch.slot] ∧
  r.groundDetail.isSome = r.holds[HoldKind.ground.slot]

/-- The hold record that a write copied, if it is one of the hold record. -/
def WriteImage.holds? : WriteImage → Option HoldRecord
  | .holds r => some r
  | .settings _ => none

/-- The settings that a write copied, if it is one of the settings record. -/
def WriteImage.settings? : WriteImage → Option Settings
  | .settings c => some c
  | .holds _ => none

/-- Every record in the String Table, in the copies of the hold record and in a write in progress is exact. -/
@[reducible] def State.detailsExact (s : State) : Prop :=
  (∀ i, (s.str i).exact) ∧
  (∀ i : StringId, (s.cfs.holdCopies.a.data[i]).exact ∧ (s.cfs.holdCopies.b.data[i]).exact) ∧
  ∀ w ∈ s.cfs.writing, ∀ r ∈ w.image.holds?, ∀ i : StringId, (r[i]).exact

/-- The kind each array condition places (R47), with whether it stands. -/
@[reducible] def Conditions.standing (c : Conditions) : List (HoldKind × Bool) :=
  [(.fire, c.fire), (.start, c.start), (.store, c.store), (.arc, c.arc)]

/-- An ABSENT string holds nothing (R42), every present string carries the hold of each condition that stands
(R47), and the fire condition stands in ALARM and LOOP_FAULT (R152). -/
@[reducible] def State.conditionsCover (s : State) : Prop :=
  (∀ i, s.present i = false → (s.str i).holds = noHolds) ∧
  (∀ kc ∈ s.stab.conditions.standing, kc.2 = true → ∀ i, s.present i = true → s.has kc.1 i = true) ∧
  (s.fli.accepted = .alarm ∨ s.fli.accepted = .loopFault → s.stab.conditions.fire = true)

/-- An ABSENT string's switch state is ABSENT (R99); a string waits to close, ramps or is CLOSED only with its
target CLOSED; a solid-state switch is ramping or on only in RAMPING and CLOSED (R77, R94); the ramp waiting
list names strings in RAMP_WAIT, none twice (R82); a retest is one of a FAULTED string (R96). -/
@[reducible] def State.closesOnlyFree (s : State) : Prop :=
  (∀ i, s.present i = false → s.switchState i = .absent) ∧
  (∀ i, (s.switchState i = .pendingClose ∨ s.switchState i = .rampWait ∨ s.switchState i = .ramping ∨
      s.switchState i = .closed) → s.target i = true) ∧
  (∀ i, (s.sw i).drive ≠ .off → s.switchState i = .ramping ∨ s.switchState i = .closed) ∧
  (∀ i ∈ s.sseq.rampList, s.switchState i = .rampWait) ∧ s.sseq.rampList.Nodup ∧
  (∀ r ∈ s.sseq.retest, s.switchState r.string = .faulted)

/-- The feedback shows closed in every state in which R74 holds the relay confirmed closed. -/
@[reducible] def State.relaysClosed (s : State) : Prop :=
  ∀ i, (s.switchState i = .rampWait ∨ s.switchState i = .ramping ∨ s.switchState i = .closed ∨
    s.switchState i = .interrupting ∨ s.switchState i = .curtailWait ∨ s.switchState i = .pendingOpen) →
    s.feedback i = true

/-- The feedback shows open in OPEN, PENDING_CLOSE and RELAY_CLOSING, and in FAULTED with FAIL_TO_CLOSE and no
retest mark; a string under retest has its mark, the retest's granted step has not been shown, and between steps the
feedback shows the position last confirmed (R90, R91, R97, R98). -/
@[reducible] def State.relaysOpen (s : State) : Prop :=
  (∀ i, (s.switchState i = .opened ∨ s.switchState i = .pendingClose ∨ s.switchState i = .relayClosing ∨
    (s.switchState i = .faulted ∧ (s.str i).faultKind = some .failToClose ∧ s.fli.retestMarks[i] = false)) →
    s.feedback i = false) ∧
  ∀ r ∈ s.sseq.retest, s.fli.retestMarks[r.string] = true ∧
    (r.pulsed = true → r.step.mark.shown (s.feedback r.string) = false) ∧
    (r.step = .close → s.feedback r.string = false) ∧ (r.step = .secondOpen → s.feedback r.string = true)

/-- A retest or an offset capture runs only with its request outstanding on port M, so that at most one of
them runs (R13, R96). -/
@[reducible] def State.waitsRight (s : State) : Prop :=
  (s.sseq.retest.isSome = true → ∃ o ∈ (s.port .m).outstanding, o.wait = .retest) ∧
  (s.mfe.capture.isSome = true → ∃ o ∈ (s.port .m).outstanding, o.wait = .capture)

/-- A CLOSE entry is that of a string in PENDING_CLOSE, or of the close step of a retest (R92, R94). -/
@[reducible] def State.entriesRight (s : State) : Prop :=
  ∀ e ∈ s.sseq.queue, e.mark = .toClose →
    s.switchState e.string = .pendingClose ∨
    ∃ r ∈ s.sseq.retest, r.string = e.string ∧ r.step = .close ∧ r.pulsed = false

/-- While a search is active, a present string that it has not released has its target OPEN (R51, R128). -/
@[reducible] def State.frozenRight (s : State) : Prop :=
  s.searchActive = true → ∀ i, s.present i = true → s.released i = false → s.target i = false

/-- No report waits to be taken up. -/
@[reducible] def State.noReports (s : State) : Prop := s.reports = false

/-- ARRAY SAFE is closed exactly while the positions are known and every present string is in OPEN, or in
FAULTED with FAIL_TO_CLOSE and not under retest (R155). -/
@[reducible] def State.arraySafeRight (s : State) : Prop :=
  s.noReports ∧
  (s.fli.arraySafe = true ↔ s.fli.positionsKnown = true ∧ ∀ i, s.present i = true →
    s.switchState i = .opened ∨
    (s.switchState i = .faulted ∧ (s.str i).faultKind = some .failToClose ∧ s.fli.retestMarks[i] = false))

/-- The CURTAIL line is asserted while any string is in CURTAIL_WAIT and released while none is (R88). -/
@[reducible] def State.curtailRight (s : State) : Prop :=
  s.sseq.curtail = true ↔ ∃ i, s.switchState i = .curtailWait

/-- At most two coil pulses are in progress (R93), and no string has two entries in the coil queue (R92). -/
@[reducible] def State.coilsRight (s : State) : Prop :=
  s.sseq.pulses.length ≤ 2 ∧ (s.sseq.queue.map CoilEntry.string).Nodup

/-- Each event ring holds between 0 and 32 records (R173). -/
@[reducible] def State.ringsBounded (s : State) : Prop := ∀ p, (s.ring p).records.length ≤ 32

/-- The counters stay in the ranges of R10, R14, R19, R41, R107, R127 and R143; the dwell counts, whose ranges rest on
those of N_rev and N_over, have their own invariant below. -/
@[reducible] def State.countersBounded (s : State) : Prop :=
  (∀ i, (s.eval i).suspicion ≤ 255) ∧ (∀ i, (s.str i).overcurrentCount ≤ 15) ∧ s.tsc.overDwell ≤ 50 ∧
  s.mfe.wakeCount ≤ 10 ∧ s.gsu.restarts ≤ 3 ∧ s.arcd.window.length ≤ 8 ∧
  ∀ c ∈ s.mfe.capture, c.count < 16

/-- The reverse and overcurrent dwell counts stay in the ranges of R19. -/
@[reducible] def State.dwellsBounded (s : State) : Prop :=
  ∀ i, (s.eval i).reverseDwell ≤ 8 ∧ (s.eval i).overDwell ≤ 50

/-- Besides the entry being written, the commit queue has at most one entry for each record; it holds at
most three entries, and a write in progress is its head's (R178). -/
@[reducible] def State.commitsRight (s : State) : Prop :=
  (s.cfs.waiting.map CommitEntry.record).Nodup ∧ (s.cfs.writing.isSome = true → s.cfs.queue ≠ []) ∧
  s.cfs.queue.length ≤ 3

/-- The shed stack holds at most 16 entries, no string twice, and exactly the strings that carry THERMAL (R115). -/
@[reducible] def State.stackRight (s : State) : Prop :=
  s.tsc.stack.length ≤ 16 ∧
  (s.tsc.stack.map ShedEntry.string).Nodup ∧
  ∀ i, s.has .thermal i = true ↔ i ∈ s.tsc.stack.map ShedEntry.string

/-- Whole settings within the ranges of the setting index, dependent settings above their partners, unit
addresses that can be received, periods and baud rates among those permitted (R1, R167, R168). -/
@[reducible] def Settings.inRange (c : Settings) : Prop :=
  (∀ k : Setting, k.limits.1 ≤ c.values[k.slot] ∧ c.values[k.slot] ≤ k.limits.2) ∧
  c.values[Setting.tCoil.slot] ≤ c.values[Setting.tConfirm.slot] ∧
  c.values[Setting.rTrip.slot] + 10 ≤ c.values[Setting.rClear.slot] ∧
  c.values[Setting.tKnee.slot] + 50 ≤ c.values[Setting.tCut.slot] ∧
  c.values[Setting.addrS.slot] ≠ 165 ∧ c.values[Setting.addrV.slot] ≠ 165 ∧
  c.values[Setting.tScan.slot] ∈ [50, 100, 200, 400] ∧
  c.values[Setting.baudS.slot] ∈ [19200, 38400, 115200] ∧
  c.values[Setting.baudV.slot] ∈ [19200, 38400, 115200] ∧
  ∀ i : StringId, -65536 ≤ (c.strings[i]).offset ∧ (c.strings[i]).offset ≤ 65535 ∧
    1 ≤ (c.strings[i]).gain ∧ (c.strings[i]).gain ≤ 65535 ∧ (c.strings[i]).rank ≤ 15

/-- The settings in force, in the copies of the settings record and in a write in progress are in range. -/
@[reducible] def State.settingsRight (s : State) : Prop :=
  s.settings.inRange ∧ s.cfs.settingsCopies.a.data.inRange ∧ s.cfs.settingsCopies.b.data.inRange ∧
  ∀ w ∈ s.cfs.writing, ∀ c ∈ w.image.settings?, c.inRange

/-! ### What a step leaves alone -/

/-- The state less everything that the switching of strings moves: the sequencer but its feedback readings, the string
records, the reports and what the blocks keep from them (evaluator dwells and marks, stable timers, the awaited
victim, the restore mark, ramp blanking, a capture, retest marks and ARRAY SAFE), the commit queue, the rings, and
what the ports hold. Two states equal under it agree in all the rest. -/
def State.beyondSwitching (s : State) : State :=
  { s with
    cfs := { s.cfs with queue := [], writing := none }
    mfe := { s.mfe with capture := none }
    seval := { s.seval with
      strings := s.seval.strings.map fun e => { e with reverseDwell := 0, overDwell := 0, mark := false } }
    stab := { s.stab with strings := Vector.replicate 16 emptyRecord }
    sseq := { State.neverStarted.sseq with feedback := s.sseq.feedback }
    rcl := s.rcl.map fun r => { r with stable := none }
    tsc := { s.tsc with victim := none, restoreMark := none }
    gsu := { s.gsu with left := [] }
    arcd := { s.arcd with ramping := [], blank := none, intervalBlank := false }
    fli := { s.fli with retestMarks := Vector.replicate 16 false, arraySafe := false }
    ports := { s.ports with port := State.neverStarted.ports.port }
    evr := State.neverStarted.evr
    reports := false }

/-- The string records are those given, but that a retest granted on the way may have passed its last step
and taken SWITCH from its string (R97). -/
@[reducible] def Records (s t : State) (w : StringId → StringRecord) : Prop :=
  ∀ i, t.str i = w i ∨ (s.underRetest i = true ∧ t.str i = (w i).take .switch)

/-! ### Requests -/

/-- The request a command is: its code, its port and its payload. -/
def requestOf : Instr → Option (RequestCode × Port × List Byte)
  | .status p b => some (.status, p, b)
  | .readString p b => some (.readString, p, b)
  | .hold p b => some (.hold, p, b)
  | .release p b => some (.release, p, b)
  | .acknowledgeReverse p b | .acknowledgeGround p b | .acknowledgeArc p b
  | .acknowledgeOvercurrent p b | .acknowledgeStore p b => some (.acknowledge, p, b)
  | .fireRestore p b => some (.fireRestore, p, b)
  | .retire p b => some (.retire, p, b)
  | .retestSwitch p b => some (.retestSwitch, p, b)
  | .calibrate p b => some (.calibrate, p, b)
  | .setPresenceAbsent p b | .setPresencePresent p b => some (.setPresence, p, b)
  | .searchStart p b => some (.searchStart, p, b)
  | .searchAbort p b => some (.searchAbort, p, b)
  | .fetchEvents p b => some (.fetchEvents, p, b)
  | .readSetting p b => some (.readSetting, p, b)
  | .writeSetting p b => some (.writeSetting, p, b)
  | .writeRoute p b => some (.writeRoute, p, b)
  | .restart p b => some (.restart, p, b)
  | _ => none

/-- A port hears a request and has none outstanding, and no restart wait stands (R160, R162, R170). -/
@[reducible] def State.accepts (s : State) (p : Port) : Prop :=
  s.powered = true ∧ (s.port p).transmitting = none ∧ (s.port p).outstanding = none ∧
  s.ports.restartWait = false

/-- A port that acts on strings and settings: S, or M with the key on (R165). -/
@[reducible] def State.commands (s : State) (p : Port) : Prop :=
  p = .s ∨ (p = .m ∧ s.ports.key.on = true)

/-- Nothing of a ground search is under way and no report waits: what a request does next is its own. -/
@[reducible] def State.calm (s : State) : Prop :=
  s.gsu.state = .idle ∧ s.gsu.left = [] ∧ s.noReports

/-- A reply as it stands when it becomes ready (R161). -/
def State.replyNow (s : State) (p : Port) (code : Byte) (r : Result) (body : List Byte) : Reply :=
  { address := s.unitAddress p
    code := code ||| 0x80, result := r, status := s.statusByte p, body := body }

/-- The state with a request heard and a reply ready at the end of its port's list, and nothing else changed. -/
def State.answered (s : State) (p : Port) (code : Byte) (r : Result) (body : List Byte) : State :=
  let heard : PortState :=
    { (s.port p) with
      receiver := .idle, quietFrom := some s.now
      ready := (s.port p).ready ++ [s.replyNow p code r body] }
  { s with ports := { s.ports with port := s.ports.port.put p heard } }

/-- A request was heard, and its reply is ready, formed as the part now stands; its port is otherwise as before. -/
@[reducible] def Replied (s t : State) (p : Port) (q : RequestCode) (r : Result) (body : List Byte) : Prop :=
  t.port p = { (s.port p) with
    receiver := .idle, quietFrom := some s.now
    ready := (s.port p).ready ++ [t.replyNow p (requestCode q) r body] }

/-- A request was heard and is outstanding; its reply waits for commits of the records given (R55, R163). -/
@[reducible] def Deferred (s t : State) (p : Port) (q : RequestCode) (r : Result) (body : List Byte)
    (records : List StoreRecord) : Prop :=
  t.port p = { (s.port p) with
    receiver := .idle, quietFrom := some s.now
    outstanding := some { code := requestCode q, wait := .commit r body } } ∧
  ∀ x ∈ records, ∃ e ∈ t.cfs.queue, e.record = x ∧ p ∈ e.waiters

/-- The state with one port replaced. -/
def State.withPort (s : State) (p : Port) (q : PortState) : State :=
  { s with ports := { s.ports with port := s.ports.port.put p q } }

/-- The state with the service key's part replaced. -/
def State.withKey (s : State) (k : Key) : State := { s with ports := { s.ports with key := k } }

/-- A per-string setting was written: one string's settings are those given, the reply carries the value in force
and waits for the settings record's commit, and nothing but the evaluator's state can differ beside (R23, R167). -/
@[reducible] def WroteString (s t : State) (p : Port) (b : List Byte) (i : StringId) (c : StringSettings) (y : Int) :
    Prop :=
  t.settings = { s.settings with strings := s.settings.strings.set i c } ∧ t.seval.groups = s.seval.groups ∧
  Deferred s t p .writeSetting (if y = signed32Of (b.drop 2) then .done else .doneClamped)
    ([byteAt b 0, byteAt b 1] ++ bytes32 (BitVec.ofInt 32 y)) [.settings] ∧
  { t with settings := s.settings, seval := s.seval }.beyondSwitching = s.beyondSwitching

/-! ### Layouts of replies (section 11.1) -/

/-- The number in a field of a reply: its place, its size in bytes, most significant byte first (R182). -/
def fieldAt (bytes : List Byte) (place size : Nat) : Nat := numberOf ((bytes.drop place).take size)

/-- A reply's bytes carry the numbers given, each with its place and its size; a number too great for its field
shows its low bytes. -/
@[reducible] def LaidOut (bytes : List Byte) (rows : List (Nat × Nat × Nat)) : Prop :=
  ∀ row ∈ rows, fieldAt bytes row.1 row.2.1 = row.2.2 % 256 ^ row.2.1

/-- The flag bits of a field. -/
@[reducible] def Flagged (field : Nat) (bits : List (Nat × Bool)) : Prop := ∀ b ∈ bits, field.testBit b.1 = b.2

/-- The READ STRING layout after the hold set and but for it: place, size and number, absent fields all ones or
the most negative value (R72, R182). -/
def State.stringLayout (s : State) (i : StringId) : List (Nat × Nat × Nat) :=
  let c := s.strSet i
  let r := s.str i
  let sample := s.mfe.samples.map fun v => v.channels[i]
  [(0, 1, i.val + 1), (1, 1, if c.present then 1 else 0), (2, 1, groupCode c.group), (3, 1, c.rank),
   (4, 1, rangeCode c.range), (7, 1, r.overcurrentCount),
   (8, 1, match r.overcurrent with
     | some d => d.attempt
     | none => 0xFF),
   (9, 2, match r.overcurrent, (s.rcl[i]).reclose with
     | none, _ => 0xFFFF
     | some d, some t => if d.auto then (t - s.now + 999) / 1000 else 0
     | some _, none => 0),
   (11, 1, match r.faultKind with
     | some k => faultCode k
     | none => 0xFF),
   (12, 1, match r.groundDetail with
     | some d => detailCode d
     | none => 0xFF),
   (13, 1, switchCode (s.switchState i)), (14, 1, (s.eval i).suspicion), (15, 2, (s.eval i).lastDeficit.getD 0xFFFF),
   (17, 2, match sample with
     | some x => (BitVec.ofInt 16 x.current).toNat
     | none => 0x8000),
   (19, 2, match sample with
     | some x => x.sideVoltage
     | none => 0xFFFF),
   (21, 1, match (s.tsc.stack.map ShedEntry.string).findIdx? fun j => decide (j = i) with
     | some k => k + 1
     | none => 0)]

/-- The STATUS layout but for its sets and flags: place, size and number. Without a last reading or an arc index
their fields carry no value. -/
def State.statusLayout (s : State) (p : Port) : List (Nat × Nat × Nat) :=
  let g := s.gsu
  [(0, 4, s.uptime.toNat), (4, 2, (s.mfe.samples.map Samples.bus).getD 0xFFFF),
   (6, 2, match s.mfe.samples with
     | some v => (BitVec.ofInt 16 v.temperature).toNat
     | none => 0x8000)]
  ++ (allGroups.map fun k => [(8 + 3 * k.val, 2, (s.seval.groups[k]).reference.getD 0xFFFF),
        (10 + 3 * k.val, 1, (s.seval.groups[k]).count)]).flatten
  ++ [(20, 2, s.tsc.limit.getD 0xFFFF), (22, 2, s.tsc.total.getD 0xFFFF), (24, 1, s.tsc.stack.length)]
  ++ (match s.imon.last with
      | some l => [(25, 2, l.reading), (27, 4, l.time.toNat), (31, 1, l.owner.code)]
      | none => [(31, 1, 0xFF)])
  ++ [(32, 1, s.cycleState.code), (33, 1, g.state.code), (34, 1, g.measurements), (35, 1, g.restarts),
      (36, 1, g.p.length), (37, 1, g.c.length), (38, 1, g.x.length), (39, 1, g.k.length), (40, 1, g.f.length),
      (41, 1, g.e.length), (42, 1, g.v.length)]
  ++ (match s.arcd.latest with
      | some l => [(43, 1, l.1.toNat)]
      | none => [])
  ++ [(44, 1, s.arcd.window.count true), (45, 1, (stringsWhere s.present).length), (50, 1, (s.ring p).records.length)]
where
  allGroups : List (Fin 4) := [0, 1, 2, 3]

/-- The flags of a STATUS reply; the arc blank flag is one of a latest arc index (assumption 43). -/
def State.statusBits (s : State) : List (Nat × Bool) :=
  let c := s.stab.conditions
  [(0, decide (s.mfe.daylight = .day)), (1, s.imon.lowMark), (2, s.imon.suppression), (3, c.fire), (4, c.start),
   (5, c.store), (6, c.arc), (8, s.sseq.curtail), (9, s.arcd.latest.isSome)]
  ++ match s.arcd.latest with
     | some l => [(7, l.2)]
     | none => []

/-- The flags of a READ STRING reply; the clipped flag is one of a sample (assumption 33), and the auto flag is clear
without an overcurrent detail (assumption 46). -/
def State.stringBits (s : State) (i : StringId) : List (Nat × Bool) :=
  [(0, (s.eval i).suspect), (2, decide (s.mfe.daylight = .day)), (3, s.target i),
   (4, match (s.str i).overcurrent with
     | some d => d.auto
     | none => false)]
  ++ match s.mfe.samples with
     | some v => [(1, (v.channels[i]).clipped)]
     | none => []

/-- The bits of the status byte of a reply on a port but for its loop state (R182). The attention flag is set while
the port's ring holds n_notify records or more, or while its delay is EXPIRED and it holds one at least (R175). -/
def State.statusByteBits (s : State) (p : Port) : List (Nat × Bool) :=
  let r := s.ring p
  let notify : Setting := match p with
    | .s => .nNotifyS
    | .v => .nNotifyV
    | .m => .nNotifyM
  [(0, decide (s.cfgNat notify ≤ r.records.length ∨ (r.delay = .expired ∧ 0 < r.records.length))),
   (1, s.ports.key.on), (4, decide (s.gsu.state ≠ .idle)), (5, s.fli.arraySafe), (6, false), (7, false)]

/-- The number of an accepted loop state (R182). -/
def loopNumber : LoopState → Nat
  | .unknown => 0
  | .normal => 1
  | .alarm => 2
  | .loopFault => 3

/-- The per-string settings of section 11.2: index and value in force of one string. -/
def State.stringSettingRows (s : State) (i : StringId) : List (Byte × Int) :=
  let c := s.settings.strings[i]
  [(0x03, c.offset), (0x04, c.gain),
   (0x05, match c.range with
     | .wide => 0
     | .narrow => 1),
   (0x18, match c.group with
     | .none => 0
     | .a => 1
     | .b => 2
     | .c => 3
     | .d => 4),
   (0x19, c.rank)]

/-- The kinds table of section 9.1, in its order. -/
def kindsTable : List EventKind :=
  [.stringIsolated, .stringConnected, .connectedSet, .suspectSet, .suspectCleared, .reverseTrip, .overcurrentTrip,
   .insulationLow, .searchStarted, .searchResult, .arcTrip, .fireLine, .arraySafe, .thermalShed, .thermalRestore,
   .switchFault, .interruptFailed, .isolationFailed, .holdChanged, .closeBlocked, .restarted, .daylight]

/-- The layout of an event record's twelve bytes: place, size and number (R184). -/
def EventRecord.layout (e : EventRecord) : List (Nat × Nat × Nat) :=
  [(0, 1, kindsTable.idxOf e.kind + 1 + if e.gap then 128 else 0),
   (1, 1, match e.string with
     | some i => i.val + 1
     | none => 0),
   (2, 4, e.time.toNat), (6, 4, e.valueA.toNat), (10, 2, e.valueB.toNat)]

/-- A list of string bytes that R53 and steps 1 to 4 of R54 pass: 1 to 16 numbers of present strings that
are not RETIRED, each listed once. -/
@[reducible] def State.listPasses (s : State) (list : List Byte) : Prop :=
  1 ≤ list.length ∧ list.length ≤ 16 ∧
  ∀ v ∈ list, list.count v = 1 ∧
    ∃ i : StringId, v = byte (stringNumber i) ∧ s.present i = true ∧ s.has .retired i = false

/-- A value of a list fails the checks of R54 with a result, the check of step 5 being the one given. -/
@[reducible] def State.failsAt (s : State) (list : List Byte) (particular : StringId → Option Result) (v : Byte)
    (r : Result) : Prop :=
  (¬(1 ≤ v.toNat ∧ v.toNat ≤ 16) ∧ r = .badString) ∨
  ∃ i : StringId, v = byte (stringNumber i) ∧
    ((1 < list.count v ∧ r = .badForm) ∨
     (list.count v = 1 ∧ s.present i = false ∧ r = .badString) ∨
     (list.count v = 1 ∧ s.present i = true ∧ s.has .retired i = true ∧ r = .retired) ∨
     (list.count v = 1 ∧ s.present i = true ∧ s.has .retired i = false ∧ particular i = some r))

/-- A string is named by a list of string bytes. -/
@[reducible] def listed (list : List Byte) (i : StringId) : Prop := byte (stringNumber i) ∈ list

/-- A request on a list of strings, as a command gives it: its code, port and payload, whether its form passes
R53 (the kind of an acknowledgement, the length of the list, the lock code on port M), its list, and its check of
step 5 of R54 (R58, R59, R61). -/
def State.listRequest (s : State) :
    Instr → Option (RequestCode × Port × List Byte × Bool × List Byte × (StringId → Option Result))
  | .hold p b => some (.hold, p, b, !holdFormFails p b, listOf p b, s.codeCheck p (lockCodeOf b) .heldOtherCode)
  | .release p b => some (.release, p, b, !holdFormFails p b, listOf p b, s.codeCheck p (lockCodeOf b) .wrongCode)
  | .acknowledgeReverse p b => some (.acknowledge, p, b, ackForm 1 b, b.drop 1, carries .reverse)
  | .acknowledgeGround p b => some (.acknowledge, p, b, ackForm 2 b, b.drop 1, carries .ground)
  | .acknowledgeOvercurrent p b => some (.acknowledge, p, b, ackForm 8 b, b.drop 1, carries .overcurrent)
  | _ => none
where
  ackForm (flag : Byte) (b : List Byte) : Bool := b.head? == some flag && listFits (b.drop 1)
  carries (k : HoldKind) (i : StringId) : Option Result := if s.has k i then none else some .state

/-- The request of one string on port M with a lock code, as RETIRE and SET PRESENCE carry it. -/
def lockedRequest (i : StringId) (middle code : List Byte) : List Byte := byte (stringNumber i) :: middle ++ code

/-! ### Events -/

/-- An event record as a block hands it over now (R171). -/
def State.eventNow (s : State) (k : EventKind) (i : Option StringId) (a b : Int) : EventRecord :=
  { kind := k, string := i, time := s.uptime, valueA := BitVec.ofInt 32 a, valueB := BitVec.ofInt 16 b,
    gap := false }

/-- Every ring that the routing table names for a record's kind holds a copy of it. -/
@[reducible] def Noted (t : State) (e : EventRecord) : Prop :=
  ∀ p, t.routed e.kind p = true → ∃ x ∈ (t.ring p).records, { x with gap := false } = e

/-- The Event Router has taken up a record, and no other: a ring that the routing table names for its kind gains a
copy as its newest record, a full one losing its oldest, which the copy's gap flag says (R173); a delay that was STOPPED
starts with t_coalesce, in 10 ms units, and is EXPIRED at once where that is 0 (R175); the other rings stand. -/
@[reducible] def TakenUp (s t : State) (e : EventRecord) : Prop :=
  ∀ p, if s.routed e.kind p = true then
      let old := s.ring p
      let length := s.cfgNat (match p with
        | .s => .tCoalesceS
        | .v => .tCoalesceV
        | .m => .tCoalesceM)
      (t.ring p).records = (if old.records.length < 32 then old.records ++ [{ e with gap := false }]
        else old.records.drop 1 ++ [{ e with gap := true }]) ∧
      (t.ring p).delay = (if old.delay = .stopped then
        (if length = 0 then .expired else .running (s.now + 10 * length)) else old.delay)
    else t.ring p = s.ring p

/-- The order of R93 in the coil queue as it stands: the oldest OPEN entry whose string has its switch off and its
current below I_zero and is in PENDING_OPEN, ABSENT or in a retest's open step, else the oldest CLOSE entry. -/
def State.oldestGrantable (s : State) : Option CoilEntry :=
  let mayOpen (e : CoilEntry) : Bool :=
    decide (e.mark = .toOpen ∧ (s.sw e.string).drive = .off ∧ s.below e.string = true) &&
    (decide (s.switchState e.string = .pendingOpen ∨ s.switchState e.string = .absent) ||
      s.sseq.retest.any fun r => decide (r.string = e.string ∧ r.step ≠ .close ∧ r.pulsed = false))
  match s.sseq.queue.find? mayOpen with
  | some e => some e
  | none => s.sseq.queue.find? fun e => decide (e.mark = .toClose)

/-- A port's outstanding request has ended with a reply, in the ready list after those that waited there. -/
@[reducible] def Ended (s t : State) (p : Port) (code : Byte) (r : Result) (body : List Byte) : Prop :=
  (t.port p).outstanding = none ∧
  ∃ x ∈ (t.port p).ready.getLast?, (t.port p).ready = (s.port p).ready ++ [x] ∧
    x.code = code ||| 0x80 ∧ x.result = r ∧ x.body = body

/-- An event record as a block hands it over for a scan, stamped with the scan's completion time (R171). -/
def eventAt (time : Uptime) (k : EventKind) (i : Option StringId) (a b : Int) : EventRecord :=
  { kind := k, string := i, time := time, valueA := BitVec.ofInt 32 a, valueB := BitVec.ofInt 16 b, gap := false }

/-- A string has become FAULTED with a kind (R91): its switch is off, its dwell and timer are stopped, it has
no entry in the coil queue and no place in the ramp list, it carries SWITCH, and SWITCH_FAULT gives the kind and the
state it was in. No other string's switch or record has changed. -/
@[reducible] def BecameFaulted (s t : State) (i : StringId) (kind : FaultKind) : Prop :=
  t.switchState i = .faulted ∧ (t.sw i).drive = .off ∧ (t.sw i).timer = none ∧ (t.sw i).dwell = .stopped ∧
  t.queued i = false ∧ i ∉ t.sseq.rampList ∧ (∀ j, j ≠ i → t.sw j = s.sw j) ∧
  (∀ j, t.str j = if j = i then (s.str i).put (.switch kind) else s.str j) ∧
  Noted t (s.eventNow .switchFault (some i) (faultCode kind) (switchCode (s.switchState i))) ∧
  t.beyondSwitching = s.beyondSwitching

/-- A step of a retest has begun (R96): its entry waits in the coil queue, an open step's for t_interrupt at
first, or its pulse has been granted. -/
@[reducible] def StepBegun (s t : State) (i : StringId) (step : RetestStep) : Prop :=
  ∃ r ∈ t.sseq.retest, r.string = i ∧ r.step = step ∧
    ((r.pulsed = false ∧ { string := i, mark := step.mark } ∈ t.sseq.queue ∧
        r.timer = if step = .close then none else some (s.now + s.cfgNat .tInterrupt)) ∨
     (r.pulsed = true ∧ { string := i, mark := step.mark, endsAt := s.now + s.cfgNat .tCoil } ∈ t.sseq.pulses ∧
        r.timer = some (s.now + s.cfgNat .tConfirm)))

/-- A retest has failed with a kind (R98): the string stays FAULTED with the new kind and SWITCH_FAULT, the mark and
the entry go, and port M gets STATE. -/
@[reducible] def RetestFailed (s t : State) (i : StringId) (code : Byte) (kind : FaultKind) : Prop :=
  t.sseq.retest = none ∧ t.fli.retestMarks[i] = false ∧ t.queued i = false ∧ t.switchState i = .faulted ∧
  (∀ j, t.str j = if j = i then { s.str j with faultKind := some kind } else s.str j) ∧
  Noted t (s.eventNow .switchFault (some i) (faultCode kind) (switchCode .faulted)) ∧
  Ended s t .m code .state []

/-- CONNECTED_SET after a change of the CLOSED strings (R176): issued where the set differs from the last issued one
and a second has passed since; inside the second the hold-off timer runs to its end. -/
@[reducible] def ConnectedSetJudged (s t : State) : Prop :=
  if t.closedSet = s.evr.lastSet then
    t.evr.lastSet = s.evr.lastSet ∧ t.evr.lastIssue = s.evr.lastIssue ∧ t.evr.holdOff = s.evr.holdOff
  else if s.evr.lastIssue.all (fun l => decide (100 ≤ (s.uptime - l).toNat)) = true then
    Noted t (s.eventNow .connectedSet none (setBits t.closedSet) t.closedSet.length) ∧
    t.evr.lastSet = t.closedSet ∧ t.evr.lastIssue = some s.uptime ∧ t.evr.holdOff = none
  else
    t.evr.lastSet = s.evr.lastSet ∧ t.evr.lastIssue = s.evr.lastIssue ∧
    ∃ e ∈ t.evr.holdOff, (s.evr.holdOff = some e ∨
      (s.evr.holdOff = none ∧ ∀ l ∈ s.evr.lastIssue, BitVec.ofNat 32 (e / 10) = l + 100 ∧ e % 10 = 0))

/-- A search has ended with a result (R137): GROUND with a detail went on the present strings given, SEARCH is off
every string, SEARCH_RESULT carries the located strings and the measurement count, and a ROUTINE measurement runs. -/
@[reducible] def SearchEnded (s t : State) (r : SearchResult) (detail : GroundDetail) (held : List StringId) : Prop :=
  Records s t (fun i =>
    (if i ∈ held ∧ s.present i = true ∧ s.has .ground i = false then (s.str i).put (.ground detail) else s.str i).take
      .search) ∧
  t.gsu = { s.gsu with state := .idle, timer := none, left := [] } ∧ t.imon.gap = none ∧
  t.imon.inFlight = some { owner := .periodic, purpose := .routine, startedAt := s.now,
                           endsAt := s.now + 1000 * s.cfgNat .tIso } ∧
  Noted t (s.eventNow .searchResult none (searchValueA r s.gsu.f) s.gsu.measurements)

/-! ### What a scan calls for -/

/-- A string's sample counts against it in a scan: it has an entry, it is still PRESENT, CLOSED as read and
CLOSED when the interval began (R21, R22). -/
def State.counted (s : State) (r : ScanRecord) (i : StringId) : Bool :=
  (r.entries[i]).isSome && s.present i && decide (s.switchState i = .closed) && (s.eval i).mark

/-- The currents of the strings eligible for a group's reference, in string order (R24). -/
def State.eligibleOf (s : State) (r : ScanRecord) (g : Fin 4) : List Nat :=
  (stringsWhere fun i => decide ((s.strSet i).group.slot = some g) && s.counted r i && !(r.sample i).clipped
    && decide (0 ≤ (r.sample i).current) && !(s.eval i).suspect).map fun i => (r.sample i).current.toNat

/-- The reverse dwell count a scan brings a string to (R33); a string not evaluated keeps its own. -/
def State.reverseCount (s : State) (r : ScanRecord) (i : StringId) : Nat :=
  if (r.entries[i]).isSome && s.present i then
    if s.counted r i ∧ ((r.sample i).current ≤ -(s.cfgNat .iRev : Int) ∨
        ((r.sample i).clipped = true ∧ (r.sample i).current < 0))
    then (s.eval i).reverseDwell + 1 else 0
  else (s.eval i).reverseDwell

/-- The overcurrent dwell count a scan brings a string to (R35). -/
def State.overCountAt (s : State) (r : ScanRecord) (i : StringId) : Nat :=
  if (r.entries[i]).isSome && s.present i then
    if s.counted r i ∧ ((s.cfgNat .iOver : Int) ≤ (r.sample i).current ∨
        ((r.sample i).clipped = true ∧ 0 < (r.sample i).current))
    then (s.eval i).overDwell + 1 else 0
  else (s.eval i).overDwell

/-- A scan is a reverse trip for a string (R34). -/
def State.tripsReverse (s : State) (r : ScanRecord) (i : StringId) : Bool :=
  (r.entries[i]).isSome && s.present i && decide (0 < s.reverseCount r i)
    && decide (s.cfgNat .nRev ≤ s.reverseCount r i)

/-- A scan is an overcurrent trip for a string (R35). -/
def State.tripsOver (s : State) (r : ScanRecord) (i : StringId) : Bool :=
  (r.entries[i]).isSome && s.present i && decide (0 < s.overCountAt r i)
    && decide (s.cfgNat .nOver ≤ s.overCountAt r i)

/-- The restore test of R116, the restore mark being as the completion's state readings leave it (R117). -/
def State.restoresAt (s : State) (r : ScanRecord) (mark : Option StringId) (limit total : Nat) : Bool :=
  match s.tsc.stack with
  | [] => false
  | top :: _ =>
    mark.isNone && decide (total + top.current ≤ limit * 15 / 16) &&
      (match s.tsc.lastMove with
       | none => true
       | some m => decide (100 * s.cfgNat .tShedGap ≤ (r.completion - m).toNat))

/-- A start-up reads a stored record, given which of its copies fail their check (R177): from the good copy, of two
good ones from the one with the higher sequence number. With no good copy the record is replaced (R180). -/
@[reducible] def ReadsLatest {α : Type} (c : Copies α) (aFails bFails : Bool) (replacement x : α)
    (replaced : Bool) : Prop :=
  let a := c.a.good && !aFails
  let b := c.b.good && !bFails
  (a = true → b = false ∨ c.b.sequence < c.a.sequence → x = c.a.data) ∧
  (b = true → a = false ∨ c.a.sequence < c.b.sequence → x = c.b.data) ∧
  (a = false → b = false → x = replacement) ∧ replaced = (!a && !b)

/-- The inputs of a start-up that finds every relay open, no current, the key off, the loop closed and the
stored copies as they stand. -/
def restInputs : StartInputs :=
  { feedbackClosed := Vector.replicate 16 false, fast := Vector.replicate 16 0, keyOn := false,
    loop := .normal, settingsAFails := false, settingsBFails := false, holdsAFails := false,
    holdsBFails := false }

end Sys2Proof.Machine
end

