-- ==== Sys2Proof/Certificates/Slice0/Obligations.lean ====
section
/-! DEFINITION. The statements about the model, listed in OBLIGATIONS.json. They stand on Sys2Proof/Safety.lean's
words. Numbers of the assumption log stand where a clause is the model's choice. -/

open Sys2Proof Sys2Proof.Machine

/-! ### The machine as a whole -/

/-- One step takes the command at the front of the queue and is `exec` of it on the state with the queue's rest. -/
def Obligations.StepRunsTheFrontCommand : Prop :=
  ∀ (s : State) (c : Instr) (rest : List Instr), s.pending = c :: rest →
    step s = exec c { s with pending := rest }

/-- The model's choices (assumptions 1, 2 and 24): on an empty queue a step is one ms of uptime for a part with
supply, and a part without supply is changed by POWER_UP alone. -/
def Obligations.IdleTimeAndMissingSupply : Prop :=
  (∀ s : State, s.pending = [] → step s = .next { s with now := if s.powered then s.now + 1 else s.now }) ∧
  ∀ (c : Instr) (s : State), s.powered = false → (∀ inputs, c ≠ .powerUp inputs) → exec c s = .next s

/-- Every command, well formed or not, is answered by a next state in every state, and leaves the queue of
waiting commands alone. No command faults and none is refused. That a command which is ill formed, or stands for no
occurrence in the state it meets, or meets a part without supply, is answered so too is the model's choice
(assumptions 2 and 24). -/
def Obligations.EveryCommandCompletesAndLeavesTheQueue : Prop :=
  ∀ (c : Instr) (s : State), Completes (exec c s) fun t => t.pending = s.pending

/-- What the start-up tables leave (R17, R19, R41, R47, R99, R100, R107, R119, R127, R143, R151, R158, R164, R173,
R176), here in the reset state of assumption 3: every string PRESENT, OPEN and held by START and STORE. -/
def Obligations.ResetHoldsTheStartUpValues : Prop :=
  let s := State.reset
  s.now = 0 ∧ s.mfe.daylight = .night ∧ s.mfe.wakeCount = 0 ∧ s.mfe.darkRun = none ∧ s.mfe.samples = none ∧
  s.mfe.capture = none ∧ s.mfe.scanLength = 1000 ∧
  (∀ i, s.eval i = emptyEval) ∧ (∀ g : Fin 4, s.seval.groups[g] = { reference := none, count := 0 }) ∧
  (∀ i, s.present i = true ∧ s.has .start i = true ∧ s.has .store i = true ∧ s.target i = false ∧
    (s.str i).overcurrentCount = 0 ∧ (s.str i).lockCode = none) ∧
  s.stab.conditions = { fire := false, start := true, store := true, arc := false } ∧
  (∀ i, s.switchState i = .opened ∧ (s.sw i).drive = .off ∧ (s.sw i).dwell = .running (1000 * s.cfgNat .tDwell)) ∧
  s.sseq.queue = [] ∧ s.sseq.pulses = [] ∧ s.sseq.slot = none ∧ s.sseq.rampList = [] ∧ s.sseq.curtail = false ∧
  (∀ i : StringId, s.rcl[i] = { reclose := none, stable := none }) ∧
  s.tsc = { limit := none, total := none, overDwell := 0, victim := none, restoreMark := none, lastMove := none,
            stack := [] } ∧
  s.cycleState = .measuring ∧ s.imon.gap = none ∧ s.imon.last = none ∧ s.imon.lowMark = false ∧
  s.imon.suppression = false ∧ s.gsu = idleGsu ∧
  s.arcd.window = [] ∧ s.overCount = 0 ∧ s.arcd.ramping = [] ∧ s.arcd.blank = none ∧ s.arcd.latest = none ∧
  s.fli.accepted = .unknown ∧ s.fli.debounce = some 200 ∧
  s.ports.key.on = false ∧ s.port .s = idlePort 19200 ∧ s.port .v = idlePort 19200 ∧ s.port .m = idlePort 115200 ∧
  s.evr.lastSet = [] ∧ s.evr.lastIssue = none ∧ s.evr.holdOff = none ∧ s.pending = []

/-- The reset state is the one that the start-up of R179, with the cause POWER_UP, leaves of a part whose stored
records have never been written and whose inputs are at rest (assumption 3). -/
def Obligations.ResetIsTheStartUpOfABlankPart : Prop :=
  exec (.powerUp restInputs) State.neverStarted = .next State.reset

/-- The reset state meets every invariant stated below. -/
def Obligations.ResetMeetsTheInvariants : Prop :=
  let s := State.reset
  s.detailsExact ∧ s.conditionsCover ∧ s.closesOnlyFree ∧ s.relaysClosed ∧ s.relaysOpen ∧ s.waitsRight ∧
  s.entriesRight ∧ s.frozenRight ∧ s.arraySafeRight ∧ s.curtailRight ∧ s.coilsRight ∧ s.ringsBounded ∧
  s.countersBounded ∧ s.dwellsBounded ∧ s.commitsRight ∧ s.stackRight ∧ s.settingsRight

/-! ### Invariants that every step keeps, from every state that meets them -/

/-- A string carries a lock code exactly with SVC (R43), and a detail exactly with its kind (R44), in the String
Table, in the copies of the hold record and in a write in progress. -/
def Obligations.DetailsStandExactlyWithTheirHolds : Prop :=
  ∀ s t : State, s.detailsExact → step s = .next t → t.detailsExact

/-- An ABSENT string carries no hold; a standing condition's hold is on every present string; and while the fire
loop state is ALARM or LOOP_FAULT the fire condition stands (R42, R47, R152). -/
def Obligations.ConditionsCoverThePresentStrings : Prop :=
  ∀ s t : State, s.conditionsCover → step s = .next t → t.conditionsCover

/-- No string waits to close, ramps or is CLOSED unless its target is CLOSED, and no solid-state switch conducts
but in RAMPING and CLOSED (R50, R77, R94, R99). -/
def Obligations.StringsCloseOnlyWithoutHolds : Prop :=
  ∀ s t : State, s.closesOnlyFree → step s = .next t → t.closesOnlyFree

/-- A string's solid-state switch conducts only while its relay is confirmed closed (R77). -/
def Obligations.SwitchesConductOnlyThroughClosedRelays : Prop :=
  ∀ s t : State, s.closesOnlyFree → s.relaysClosed → step s = .next t →
    t.relaysClosed ∧ ∀ i, (t.sw i).drive ≠ .off → t.feedback i = true

/-- A CLOSE entry waits in the coil queue only for a string in PENDING_CLOSE, whose target is CLOSED, or for the
close step of a retest; a retest and a capture run only with their request outstanding (R13, R92, R94, R96). -/
def Obligations.CloseEntriesBelongToClosingStrings : Prop :=
  ∀ s t : State, s.closesOnlyFree → s.coilsRight → s.waitsRight → s.entriesRight → step s = .next t →
    t.waitsRight ∧ t.entriesRight ∧
    ∀ e ∈ t.sseq.queue, e.mark = .toClose → t.underRetest e.string = false → t.target e.string = true

/-- ARRAY SAFE stands, at the end of every step, as R155 works it out from the switch states (R156). -/
def Obligations.ArraySafeFollowsTheSwitchStates : Prop :=
  ∀ s t : State, s.arraySafeRight → step s = .next t → t.arraySafeRight

/-- ARRAY SAFE is closed only while every present string has its solid-state switch off and its relay not shown
closed (R155), after every command but RETEST_OPEN_STEP_TIMEOUT: R96 leaves the fault kind as it was there, whatever
the feedback has come to show during the wait (assumption 28). -/
def Obligations.ArraySafeStandsOnlyOnOpenRelays : Prop :=
  ∀ s t : State, s.closesOnlyFree → s.waitsRight → s.relaysOpen → s.arraySafeRight →
    s.pending.head? ≠ some .retestOpenStepTimeout → step s = .next t →
    t.relaysOpen ∧
    (t.fli.arraySafe = true → ∀ i, t.present i = true → (t.sw i).drive = .off ∧ t.feedback i = false)

/-- The CURTAIL line is asserted while any string is in CURTAIL_WAIT and released while none is (R88). At most two
coil pulses are in progress, and no string has two entries in the coil queue (R92, R93). -/
def Obligations.CurtailAndCoilsFollowTheSequencer : Prop :=
  ∀ s t : State, step s = .next t →
    (s.curtailRight → t.curtailRight) ∧ (s.coilsRight → t.coilsRight)

/-- Each ring holds at most 32 records, and a copy that joins a full one takes its oldest record's place, its gap flag
set (R173); a copy that joins starts a STOPPED coalescing delay, and no other (R175). The counters keep their ranges
(R10, R14, R29, R41, R107, R127, R143), the dwell counts, 0 to 8 and 0 to 50, with N_rev and N_over in theirs (R19); the
commit queue holds at most three entries, at most one waiting for each record (R178). -/
def Obligations.RingsCountersAndCommitsKeepTheirBounds : Prop :=
  (∀ s t : State, step s = .next t →
    (s.ringsBounded → t.ringsBounded) ∧ (s.countersBounded → t.countersBounded) ∧ (s.commitsRight → t.commitsRight) ∧
    (s.settingsRight → s.dwellsBounded → t.dwellsBounded)) ∧
  ∀ (s : State) (e : EventRecord), TakenUp s (s.route e) e

/-- The shed stack holds at most 16 entries, no string twice, and exactly the strings that carry THERMAL (R115). -/
def Obligations.ShedStackIsTheThermalStrings : Prop :=
  ∀ s t : State, s.closesOnlyFree → s.stackRight → step s = .next t → t.stackRight

/-- Every setting stays in its range, dependent settings above their partners, in force and in store (R1, R4,
R167, R168). -/
def Obligations.SettingsStayInRange : Prop :=
  ∀ s t : State, s.settingsRight → step s = .next t → t.settingsRight

/-- While a ground search is active, a present string outside the released set has its target OPEN (R51, R128). -/
def Obligations.FrozenStringsStayOpen : Prop :=
  ∀ s t : State, s.frozenRight → step s = .next t → t.frozenRight

/-- No command but a start-up or the loss of supply takes RETIRED from a string, and a start-up restores it from
a good hold record (R49). -/
def Obligations.RetiredIsForGood : Prop :=
  ∀ (c : Instr) (s t : State) (i : StringId), exec c s = .next t →
    ((∀ inputs, c ≠ .powerUp inputs ∧ c ≠ .supplyDip inputs ∧ c ≠ .restartWaitEnd inputs) → c ≠ .powerLoss →
      s.has .retired i = true → t.has .retired i = true) ∧
    (∀ inputs, c = .powerUp inputs ∨ (s.powered = true ∧ c = .supplyDip inputs) ∨
        (s.powered = true ∧ s.restartWaitOver = true ∧ c = .restartWaitEnd inputs) →
      let r := (s.storeAtStart inputs).read
      (r.settings.strings[i]).present = true → (r.holds[i]).present = true →
        (r.holds[i]).holds[HoldKind.retired.slot] = true → t.has .retired i = true)

/-- A lockout, SVC with its lock code, is taken from a string by no command but a RELEASE on port M that carries
its code, a SET PRESENCE toward ABSENT that names it and carries its code, a start-up, or the loss of supply (R59,
R66, R68, R69). -/
def Obligations.LockoutsEndOnlyByTheirCode : Prop :=
  ∀ (c : Instr) (s t : State) (i : StringId) (code : LockCode), exec c s = .next t →
    s.has .svc i = true → (s.str i).lockCode = some code →
    (∀ inputs, c ≠ .powerUp inputs ∧ c ≠ .supplyDip inputs ∧ c ≠ .restartWaitEnd inputs) → c ≠ .powerLoss →
    (∀ b, c = .release .m b → lockCodeOf b = code → ¬listed (b.drop 8) i) →
    (∀ p b, c = .setPresenceAbsent p b → lockCodeOf (b.drop 2) = code → byteAt b 0 ≠ byte (stringNumber i)) →
    t.has .svc i = true ∧ (t.str i).lockCode = some code

/-! ### Requests -/

/-- Each request may be taken from the ports of the table of rights (R165), and a well-formed request that a port
hears is refused at the first of steps 1, 3 and 4 of R162 that it fails, with BUSY, BAD_FORM or NOT_PERMITTED, by a
reply that is ready at once and nothing else. `sizeFits` is the sizes of the layouts of R183. That the kind byte of
ACKNOWLEDGE is judged by its low five bits is the model's choice (assumption 16). -/
def Obligations.TheGateRefusesByTheTableOfRights : Prop :=
  (∀ (s : State) (q : RequestCode) (p : Port) (b : List Byte), sizeFits q p b = true →
    (s.permitted q p b = true ↔
      match q with
      | .status | .readString | .fetchEvents | .readSetting => True
      | .hold | .release => p ≠ .m ∨ s.ports.key.on = true
      | .acknowledge => (p = .s ∧ (byteAt b 0).toNat % 32 ≠ 16) ∨ (p = .m ∧ s.ports.key.on = true)
      | .retire | .retestSwitch | .calibrate | .setPresence | .restart => p = .m ∧ s.ports.key.on = true
      | .fireRestore | .searchStart | .searchAbort => s.commands p
      | .writeSetting =>
        (p = .m ∧ s.ports.key.on = true) ∨
        (p = .s ∧ (byteAt b 0).toNat ∉ [0x03, 0x04, 0x06, 0x07, 0x50, 0x51, 0x52, 0x53])
      | .writeRoute => p = .s)) ∧
  ∀ (s : State) (c : Instr) (q : RequestCode) (p : Port) (b : List Byte),
    requestOf c = some (q, p, b) → c.wf = true → s.powered = true → (s.port p).transmitting = none →
    ((s.port p).outstanding.isSome = true ∨ s.ports.restartWait = true →
      exec c s = .next (s.answered p (requestCode q) .busy [])) ∧
    ((s.port p).outstanding = none → s.ports.restartWait = false →
      (sizeFits q p b = false → exec c s = .next (s.answered p (requestCode q) .badForm [])) ∧
      (sizeFits q p b = true → s.permitted q p b = false →
        exec c s = .next (s.answered p (requestCode q) .notPermitted [])))

/-- A HOLD, RELEASE or ACKNOWLEDGE of a per-string kind that fails R53 is answered BAD_FORM with no failing
string; one that passes R53 is answered by the first check of R54 that its lowest failing value fails, with that
value; and nothing else changes. -/
def Obligations.ListRequestsFailAtTheirLowestString : Prop :=
  ∀ (s : State) (c : Instr) (q : RequestCode) (p : Port) (b : List Byte) (form : Bool) (list : List Byte)
    (particular : StringId → Option Result),
    s.listRequest c = some (q, p, b, form, list, particular) → c.wf = true → s.accepts p →
    sizeFits q p b = true → s.permitted q p b = true →
    (form = false → exec c s = .next (s.answered p (requestCode q) .badForm [0])) ∧
    (form = true → ∀ v ∈ list, ∀ r, s.failsAt list particular v r →
      (∀ u ∈ list, u.toNat < v.toNat → ∀ r', ¬s.failsAt list particular u r') →
      exec c s = .next (s.answered p (requestCode q) r [v]))

/-- STATUS, READ STRING and READ SETTING are answered at once, whatever the key and the port, and change nothing
but the port's list of ready replies (R72, R166, R169): STATUS with its 53 bytes of fields, READ STRING with the 23
of a string 1 to 16 and BAD_STRING for another number, each laid out as section 11.1 gives it, READ SETTING with the
index, the string byte and the value in force, per string by the indices of section 11.2. The status byte that these
and all replies carry gives the attention flag of the port's ring, the key, the loop state, the search and ARRAY SAFE
(R161, R175, R182). The string byte sent for a setting that is not per string, and an auto flag sent clear where there
is no overcurrent detail, are the model's choices (assumptions 39 and 46). -/
def Obligations.ReadsOnlyReply : Prop :=
  ∀ (s : State) (p : Port), s.accepts p →
    (exec (.status p []) s = .next (s.answered p 0x01 .done (s.statusFields p)) ∧
      (s.statusFields p).length = 53 ∧ LaidOut (s.statusFields p) (s.statusLayout p) ∧
      (∀ i : StringId, (fieldAt (s.statusFields p) 46 2).testBit i.val = decide (s.switchState i = .closed) ∧
        (fieldAt (s.statusFields p) 48 2).testBit i.val = decide (s.switchState i = .faulted)) ∧
      Flagged (fieldAt (s.statusFields p) 51 2) s.statusBits) ∧
    (∀ n : Byte, ¬(1 ≤ n.toNat ∧ n.toNat ≤ 16) → exec (.readString p [n]) s = .next (s.answered p 0x02 .badString [])) ∧
    (∀ i : StringId,
      exec (.readString p [byte (stringNumber i)]) s = .next (s.answered p 0x02 .done (s.readString i)) ∧
      (s.readString i).length = 23 ∧ LaidOut (s.readString i) (s.stringLayout i) ∧
      (∀ k : HoldKind, (fieldAt (s.readString i) 5 2).testBit k.slot.val = s.has k i) ∧
      Flagged (fieldAt (s.readString i) 22 1) (s.stringBits i)) ∧
    (∀ k n : Byte, settingOfIndex k = none → exec (.readSetting p [k, n]) s = .next (s.answered p 0x0E .badForm [])) ∧
    (∀ (k n : Byte) (x : Setting), settingOfIndex k = some (.whole x) →
      exec (.readSetting p [k, n]) s =
        .next (s.answered p 0x0E .done ([k, n] ++ bytes32 (BitVec.ofInt 32 (s.cfg x))))) ∧
    (∀ (k n : Byte) (r : SettingRef), settingOfIndex k = some r → r.perString = true →
      (¬(1 ≤ n.toNat ∧ n.toNat ≤ 16) → exec (.readSetting p [k, n]) s = .next (s.answered p 0x0E .badString [])) ∧
      ∀ i : StringId, n = byte (stringNumber i) →
        exec (.readSetting p [k, n]) s =
          .next (s.answered p 0x0E .done ([k, n] ++ bytes32 (BitVec.ofInt 32 (s.settingInForce r i))))) ∧
    (∀ (i : StringId), ∀ row ∈ s.stringSettingRows i,
      exec (.readSetting p [row.1, byte (stringNumber i)]) s =
        .next (s.answered p 0x0E .done ([row.1, byte (stringNumber i)] ++ bytes32 (BitVec.ofInt 32 row.2)))) ∧
    ∀ (code : Byte) (r : Result) (body : List Byte),
      let status := (s.replyNow p code r body).status.toNat
      Flagged status (s.statusByteBits p) ∧ status / 4 % 4 = loopNumber s.fli.accepted

/-- FETCH EVENTS with a maximum of 1 to 6 takes that many of the oldest records from its own port's ring, oldest
first, stops the delay of a ring it leaves empty, and changes no other ring; 0 and more than 6 are BAD_FORM and leave
the ring as it stands (R174, R175). Each record is sent as its twelve bytes (R184). -/
def Obligations.FetchTakesTheOldestRecords : Prop :=
  (∀ e : EventRecord, e.encode.length = 12 ∧ LaidOut e.encode e.layout) ∧
  ∀ (s : State) (p : Port) (n : Byte), s.accepts p →
    (n.toNat = 0 ∨ 6 < n.toNat → exec (.fetchEvents p [n]) s = .next (s.answered p 0x0D .badForm [])) ∧
    (1 ≤ n.toNat → n.toNat ≤ 6 → Completes (exec (.fetchEvents p [n]) s) fun t =>
      let taken := (s.ring p).records.take n.toNat
      (t.ring p).records = (s.ring p).records.drop n.toNat ∧
      (t.ring p).delay = (if (t.ring p).records = [] then .stopped else (s.ring p).delay) ∧
      (∀ o, o ≠ p → t.ring o = s.ring o ∧ t.port o = s.port o) ∧
      Replied s t p .fetchEvents .done
        ([byte taken.length, byte (t.ring p).records.length] ++ (taken.map EventRecord.encode).flatten) ∧
      { t with ports := s.ports, evr := s.evr } = s ∧
      { t.ports with port := s.ports.port } = s.ports ∧ { t.evr with ring := s.evr.ring } = s.evr)

/-- HOLD adds the sender's kind, on port M with its lock code, to each listed string that lacks it, and turns
each CLOSED one off, which takes its whole-scan mark, its dwells and its stable timer and blanks the scan interval
(R22, R36, R105, R146), each in RAMP_WAIT out of the list and each in RAMPING off its ramp (R85); one in PENDING_CLOSE
returns to OPEN, but where its pulse is granted first, and one in RELAY_CLOSING goes on with its pulse (R84).
HOLD_CHANGED carries the strings that gained it; the reply is DONE at once, or after the hold record's commit where SVC
was added (R55, R56, R58, R86). While a search is active the listed strings gain the kind as well. -/
def Obligations.HoldAddsTheSendersKind : Prop :=
  ∀ (s : State) (p : Port) (b : List Byte), s.accepts p → s.listPasses (listOf p b) →
    (p = .m → s.ports.key.on = true ∧ 8 ≤ b.length ∧ lockCodeOf b ≠ 0 ∧
      ∀ i, listed (listOf p b) i → s.has .svc i = true → (s.str i).lockCode = some (lockCodeOf b)) →
    (Completes (exec (.hold p b) s) fun t => ∀ i, listed (listOf p b) i → t.has (partyKind p) i = true) ∧
    (s.calm → Completes (exec (.hold p b) s) fun t =>
      let gained := stringsWhere fun i => decide (listed (listOf p b) i) && !s.has (partyKind p) i
      Records s t (fun i => if i ∈ gained then (s.str i).put (partyHold p (lockCodeOf b)) else s.str i) ∧
      (s.relaysOpen → ∀ i ∈ gained, s.switchState i = .closed → s.target i = true →
        (t.sw i).drive = .off ∧ t.switchState i ∈ [.interrupting, .pendingOpen, .relayOpening, .opened] ∧
        (t.eval i).mark = false ∧ (t.eval i).reverseDwell = 0 ∧ (t.eval i).overDwell = 0 ∧
        (t.rcl[i]).stable = none ∧ t.arcd.intervalBlank = true) ∧
      (s.relaysOpen → ∀ i ∈ gained, s.switchState i = .pendingClose → s.target i = true → s.feedback i = false →
        t.switchState i ∈ [.opened, .relayClosing]) ∧
      (s.relaysOpen → ∀ i ∈ gained, s.switchState i = .relayClosing → t.sw i = s.sw i) ∧
      (s.relaysOpen → ∀ i ∈ gained, s.switchState i = .rampWait → s.target i = true → i ∉ t.sseq.rampList ∧
        (t.sw i).drive = (s.sw i).drive ∧
        t.switchState i ∈ (if s.below i = true then [.pendingOpen, .relayOpening, .opened] else [.curtailWait])) ∧
      (s.relaysOpen → ∀ i ∈ gained, s.switchState i = .ramping → s.target i = true → (t.sw i).drive = .off ∧
        i ∉ t.arcd.ramping ∧ t.arcd.intervalBlank = true ∧
        t.switchState i ∈ (if s.below i = true then [.pendingOpen, .relayOpening, .opened] else [.interrupting])) ∧
      (s.relaysOpen → t.sseq.slot = s.sseq.slot) ∧
      (gained ≠ [] → Noted t (s.eventNow .holdChanged none (setBits gained)
        (partyCode (partyKind p) + 0x100 * (ChangeCause.port p).code))) ∧
      (if p = .m ∧ gained ≠ [] then Deferred s t p .hold .done [0] [.holds]
       else Replied s t p .hold .done [0]) ∧
      t.beyondSwitching = s.beyondSwitching)

/-- RELEASE takes the sender's kind from each listed string that carries it, on port M with its code; a string in OPEN
whose hold set this empties goes to PENDING_CLOSE and on; HOLD_CHANGED carries the strings that lost it; the reply is
DONE at once, or after the hold record's commit where SVC was taken (R55, R57, R59, R78). While a search is active the
listed strings lose the kind as well. -/
def Obligations.ReleaseTakesTheSendersKind : Prop :=
  ∀ (s : State) (p : Port) (b : List Byte), s.accepts p → s.listPasses (listOf p b) →
    (p = .m → s.ports.key.on = true ∧ 8 ≤ b.length ∧ lockCodeOf b ≠ 0 ∧
      ∀ i, listed (listOf p b) i → s.has .svc i = true → (s.str i).lockCode = some (lockCodeOf b)) →
    (Completes (exec (.release p b) s) fun t => ∀ i, listed (listOf p b) i → t.has (partyKind p) i = false) ∧
    (s.calm → Completes (exec (.release p b) s) fun t =>
      let lost := stringsWhere fun i => decide (listed (listOf p b) i) && s.has (partyKind p) i
      Records s t (fun i => if i ∈ lost then (s.str i).take (partyKind p) else s.str i) ∧
      (∀ i ∈ lost, s.switchState i = .opened → ((s.str i).take (partyKind p)).holds = noHolds →
        t.switchState i ∈ [.pendingClose, .relayClosing, .rampWait, .ramping]) ∧
      (lost ≠ [] → Noted t (s.eventNow .holdChanged none (setBits lost)
        (partyCode (partyKind p) + 0x10 + 0x100 * (ChangeCause.port p).code))) ∧
      (if p = .m ∧ lost ≠ [] then Deferred s t p .release .done [0] [.holds]
       else Replied s t p .release .done [0]) ∧
      t.beyondSwitching = s.beyondSwitching)

/-- ACKNOWLEDGE of REVERSE, GROUND or OVERCURRENT takes that kind from every listed string; OVERCURRENT also sets
their counts to 0, stops their reclose timers and is answered at once, the others after the commit (R61 to R63). While
a search is active REVERSE and OVERCURRENT are taken as well, and GROUND is taken without disturbing a measurement in
flight, a frozen string that this would leave without a hold gaining SEARCH (R51, R62). -/
def Obligations.AcknowledgementTakesTheKindNamed : Prop :=
  ∀ (s : State) (p : Port) (list : List Byte), s.accepts p → s.commands p → s.listPasses list →
    ((∀ i, listed list i → s.has .reverse i = true) →
      Completes (exec (.acknowledgeReverse p (1 :: list)) s) fun t => ∀ i, listed list i → t.has .reverse i = false) ∧
    ((∀ i, listed list i → s.has .overcurrent i = true) →
      Completes (exec (.acknowledgeOvercurrent p (8 :: list)) s) fun t =>
        ∀ i, listed list i → t.has .overcurrent i = false ∧ (t.str i).overcurrentCount = 0) ∧
    (s.gsu.state ∈ [.busCheck, .probeMeasure, .verifyMeasure] → s.gsu.left = [] → s.noReports → s.closesOnlyFree →
      (∀ i, listed list i → s.has .ground i = true) →
      Completes (exec (.acknowledgeGround p (2 :: list)) s) fun t =>
        (∀ i, listed list i → t.has .ground i = false ∧
          (s.released i = false → ((s.str i).take .ground).holds = noHolds → t.has .search i = true)) ∧
        t.gsu = s.gsu ∧ t.imon = s.imon ∧ Deferred s t p .acknowledge .done [0] [.holds]) ∧
    (s.calm → (∀ i, listed list i → s.has .reverse i = true) →
      Completes (exec (.acknowledgeReverse p (1 :: list)) s) fun t =>
        Records s t (fun i => if listed list i then (s.str i).take .reverse else s.str i) ∧
        Deferred s t p .acknowledge .done [0] [.holds] ∧ t.beyondSwitching = s.beyondSwitching) ∧
    (s.calm → (∀ i, listed list i → s.has .ground i = true) →
      Completes (exec (.acknowledgeGround p (2 :: list)) s) fun t =>
        Records s t (fun i => if listed list i then (s.str i).take .ground else s.str i) ∧
        Deferred s t p .acknowledge .done [0] [.holds] ∧ t.beyondSwitching = s.beyondSwitching) ∧
    (s.calm → (∀ i, listed list i → s.has .overcurrent i = true) →
      Completes (exec (.acknowledgeOvercurrent p (8 :: list)) s) fun t =>
        Records s t (fun i => if listed list i then { (s.str i).take .overcurrent with overcurrentCount := 0 }
          else s.str i) ∧
        (∀ i : StringId, (t.rcl[i]).reclose = if listed list i then none else (s.rcl[i]).reclose) ∧
        Replied s t p .acknowledge .done [0] ∧
        { t with rcl := s.rcl }.beyondSwitching = s.beyondSwitching)

/-- ACKNOWLEDGE of ARC or STORE and FIRE RESTORE clear their condition where it stands and take its hold from every
string; ARC also empties the arc window; FIRE RESTORE needs the loop NORMAL and gives HOLD_CHANGED; a cleared
condition is answered STATE, or DONE by FIRE RESTORE (R64, R65, R150, R153; assumption 11). -/
def Obligations.ArrayConditionsAreClearedWhole : Prop :=
  ∀ (s : State) (p : Port), s.accepts p → s.commands p →
    (s.stab.conditions.arc = true → Completes (exec (.acknowledgeArc p [4]) s) fun t => ∀ i, t.has .arc i = false) ∧
    (p = .m → s.stab.conditions.store = true →
      Completes (exec (.acknowledgeStore p [16]) s) fun t => ∀ i, t.has .store i = false) ∧
    (s.fli.accepted = .normal → s.stab.conditions.fire = true →
      Completes (exec (.fireRestore p []) s) fun t => ∀ i, t.has .fire i = false) ∧
    ((s.stab.conditions.arc = false →
        exec (.acknowledgeArc p [4]) s = .next (s.answered p 0x05 .state [0])) ∧
     (s.calm → s.stab.conditions.arc = true → Completes (exec (.acknowledgeArc p [4]) s) fun t =>
        Records s t (fun i => (s.str i).take .arc) ∧ Deferred s t p .acknowledge .done [0] [.holds] ∧
        t.beyondSwitching = { s with
          stab := { s.stab with conditions := { s.stab.conditions with arc := false } }
          arcd := { s.arcd with window := [] } }.beyondSwitching)) ∧
    (p = .m →
     (s.stab.conditions.store = false →
        exec (.acknowledgeStore p [16]) s = .next (s.answered p 0x05 .state [0])) ∧
     (s.calm → s.stab.conditions.store = true → Completes (exec (.acknowledgeStore p [16]) s) fun t =>
        Records s t (fun i => (s.str i).take .store) ∧ Replied s t p .acknowledge .done [0] ∧
        t.beyondSwitching = { s with
          stab := { s.stab with conditions := { s.stab.conditions with store := false } } }.beyondSwitching)) ∧
    ((s.fli.accepted ≠ .normal → exec (.fireRestore p []) s = .next (s.answered p 0x06 .state [])) ∧
     (s.fli.accepted = .normal → s.stab.conditions.fire = false →
        exec (.fireRestore p []) s = .next (s.answered p 0x06 .done [])) ∧
     (s.calm → s.fli.accepted = .normal → s.stab.conditions.fire = true → Completes (exec (.fireRestore p []) s) fun t =>
        Records s t (fun i => (s.str i).take .fire) ∧ Deferred s t p .fireRestore .done [] [.holds] ∧
        (s.carriers .fire ≠ [] → Noted t (s.eventNow .holdChanged none (setBits (s.carriers .fire))
          (0x13 + 0x100 * (ChangeCause.port p).code))) ∧
        t.beyondSwitching = { s with
          stab := { s.stab with conditions := { s.stab.conditions with fire := false } } }.beyondSwitching))

/-- RETIRE adds RETIRED beside SVC of the same code, its reply waiting for the commit; it moves no switch. It is DONE
at once on a string already RETIRED, and fails with BAD_FORM, BAD_STRING, STATE or WRONG_CODE (R53, R54, R66). -/
def Obligations.RetireStandsBesideTheLockout : Prop :=
  ∀ (s : State) (i : StringId) (codes : List Byte), s.accepts .m → s.ports.key.on = true →
    codes.length = 8 →
    let v := byte (stringNumber i)
    let o := exec (.retire .m (lockedRequest i [] codes)) s
    (∀ n : Byte, ¬(1 ≤ n.toNat ∧ n.toNat ≤ 16) → lockCodeOf codes ≠ 0 →
      exec (.retire .m (n :: codes)) s = .next (s.answered .m 0x07 .badString [n])) ∧
    (lockCodeOf codes = 0 → o = .next (s.answered .m 0x07 .badForm [0])) ∧
    (lockCodeOf codes ≠ 0 →
      (s.present i = false → o = .next (s.answered .m 0x07 .badString [v])) ∧
      (s.present i = true → s.has .svc i = false → o = .next (s.answered .m 0x07 .state [v])) ∧
      (s.present i = true → s.has .svc i = true → (s.str i).lockCode ≠ some (lockCodeOf codes) →
        o = .next (s.answered .m 0x07 .wrongCode [v])) ∧
      (s.present i = true → s.has .svc i = true → (s.str i).lockCode = some (lockCodeOf codes) →
        (s.has .retired i = true → o = .next (s.answered .m 0x07 .done [0])) ∧
        (Completes o fun t => t.has .retired i = true) ∧
        (s.calm → s.has .retired i = false → Completes o fun t =>
          t.str i = (s.str i).put .retired ∧ (∀ j, j ≠ i → t.str j = s.str j) ∧
          Deferred s t .m .retire .done [0] [.holds] ∧ t.sseq = s.sseq ∧ t.evr = s.evr ∧
          t.beyondSwitching = s.beyondSwitching)))

/-- SET PRESENCE takes a string in OPEN to ABSENT, with the code of its SVC hold where it carries one: every hold,
detail and count goes, the evaluator forgets it, its switch state is ABSENT, its reclose timer and stack entry go,
each party kind lost is reported, and the reply waits for both commits (R37, R52, R68, R69). A lock code of zero or a
presence that is neither is BAD_FORM, a number that is no string BAD_STRING, a RETIRED string RETIRED (R53, R68). An
active search loses the string from C, X and V (R141). -/
def Obligations.MadeAbsentHoldsNothing : Prop :=
  (∀ (s : State) (n : Byte) (codes : List Byte), s.accepts .m → s.ports.key.on = true → codes.length = 8 →
    let o (b : Byte) := exec (.setPresenceAbsent .m ([n, b] ++ codes)) s
    (lockCodeOf codes = 0 → o 0 = .next (s.answered .m 0x0A .badForm [0])) ∧
    (∀ b : Byte, 2 ≤ b.toNat → o b = .next (s.answered .m 0x0A .badForm [0])) ∧
    (lockCodeOf codes ≠ 0 →
      (¬(1 ≤ n.toNat ∧ n.toNat ≤ 16) → o 0 = .next (s.answered .m 0x0A .badString [n])) ∧
      ∀ i, n = byte (stringNumber i) → s.has .retired i = true → o 0 = .next (s.answered .m 0x0A .retired [n]))) ∧
  ∀ (s : State) (i : StringId) (codes : List Byte), s.accepts .m → s.ports.key.on = true →
    codes.length = 8 → lockCodeOf codes ≠ 0 → s.present i = true → s.has .retired i = false →
    let v := byte (stringNumber i)
    let o := exec (.setPresenceAbsent .m (lockedRequest i [0] codes)) s
    (s.switchState i ≠ .opened → o = .next (s.answered .m 0x0A .state [v])) ∧
    (s.switchState i = .opened → s.has .svc i = true → (s.str i).lockCode ≠ some (lockCodeOf codes) →
      o = .next (s.answered .m 0x0A .wrongCode [v])) ∧
    (s.closesOnlyFree → s.switchState i = .opened →
      (s.has .svc i = true → (s.str i).lockCode = some (lockCodeOf codes)) →
      Completes o fun t => t.present i = false ∧ t.switchState i = .absent ∧ (∀ k, t.has k i = false) ∧
        (s.searchActive = true → s.gsu.left = [] → i ∉ t.gsu.c ∧ i ∉ t.gsu.x ∧ i ∉ t.gsu.v ∧
          (i ∈ s.gsu.p → i ∉ s.gsu.k → i ∉ s.gsu.f → i ∈ t.gsu.e))) ∧
    (s.calm → s.switchState i = .opened → (s.str i).exact →
      (s.has .svc i = true → (s.str i).lockCode = some (lockCodeOf codes)) → Completes o fun t =>
        t.settings = { s.settings with
          strings := s.settings.strings.set i { s.settings.strings[i] with present := false } } ∧
        t.str i = emptyRecord ∧ (∀ j, j ≠ i → t.str j = s.str j) ∧ t.eval i = emptyEval ∧
        t.switchState i = .absent ∧ (s.has .overcurrent i = true → (t.rcl[i]).reclose = none) ∧
        t.tsc.stack = (if s.has .thermal i = true then s.tsc.stack.filter fun e => decide (e.string ≠ i)
          else s.tsc.stack) ∧
        (∀ k ∈ [HoldKind.sup, .inv, .svc, .fire], s.has k i = true →
          Noted t (s.eventNow .holdChanged none (2 ^ i.val : Nat) (partyCode k + 0x410))) ∧
        Deferred s t .m .setPresence .done [0] [.settings, .holds] ∧
        { t with settings := s.settings, seval := s.seval, rcl := s.rcl, tsc := s.tsc }.beyondSwitching
          = s.beyondSwitching)

/-- SET PRESENCE takes an ABSENT string to PRESENT under SVC with the request's code and the holds of the conditions
that stand; it is in OPEN with its dwell started, or FAULTED with UNCOMMANDED_CLOSED where its relay shows closed;
HOLD_CHANGED reports SVC, and FIRE where it was added; the reply waits for both commits (R68, R70, R99). A request for
the presence that stands is DONE at once. A string that is not in ABSENT fails with STATE, and the failures of form,
number and RETIRED are those of the other direction (R53, R68). -/
def Obligations.MadePresentStandsUnderALockout : Prop :=
  (∀ (s : State) (n : Byte) (codes : List Byte), s.accepts .m → s.ports.key.on = true → codes.length = 8 →
    let o (b : Byte) := exec (.setPresencePresent .m ([n, b] ++ codes)) s
    (lockCodeOf codes = 0 → o 1 = .next (s.answered .m 0x0A .badForm [0])) ∧
    (∀ b : Byte, 2 ≤ b.toNat → o b = .next (s.answered .m 0x0A .badForm [0])) ∧
    (lockCodeOf codes ≠ 0 →
      (¬(1 ≤ n.toNat ∧ n.toNat ≤ 16) → o 1 = .next (s.answered .m 0x0A .badString [n])) ∧
      ∀ i, n = byte (stringNumber i) →
        (s.has .retired i = true → o 1 = .next (s.answered .m 0x0A .retired [n])) ∧
        (s.has .retired i = false → s.present i = false → s.switchState i ≠ .absent →
          o 1 = .next (s.answered .m 0x0A .state [n])))) ∧
  ∀ (s : State) (i : StringId) (codes : List Byte), s.accepts .m → s.ports.key.on = true →
    codes.length = 8 → lockCodeOf codes ≠ 0 → s.has .retired i = false →
    (s.present i = true →
      exec (.setPresencePresent .m (lockedRequest i [1] codes)) s = .next (s.answered .m 0x0A .done [0])) ∧
    (s.present i = false →
      exec (.setPresenceAbsent .m (lockedRequest i [0] codes)) s = .next (s.answered .m 0x0A .done [0])) ∧
    (s.present i = false → s.switchState i = .absent →
      Completes (exec (.setPresencePresent .m (lockedRequest i [1] codes)) s) fun t =>
        t.present i = true ∧ t.has .svc i = true) ∧
    (s.calm → s.present i = false → s.switchState i = .absent → s.str i = emptyRecord →
      Completes (exec (.setPresencePresent .m (lockedRequest i [1] codes)) s) fun t =>
        t.settings = { s.settings with
          strings := s.settings.strings.set i { s.settings.strings[i] with present := true } } ∧
        (∀ k, t.has k i = (decide (k = .svc) || decide ((k, true) ∈ s.stab.conditions.standing)
          || (decide (k = .switch) && s.feedback i))) ∧
        (t.str i).lockCode = some (lockCodeOf codes) ∧
        (t.str i).faultKind = (if s.feedback i then some .uncommandedClosed else none) ∧
        (∀ j, j ≠ i → t.str j = s.str j) ∧
        (if s.feedback i then t.switchState i = .faulted
         else t.switchState i = .opened ∧ (t.sw i).dwell = .running (s.now + 1000 * s.cfgNat .tDwell)) ∧
        Noted t (s.eventNow .holdChanged none (2 ^ i.val : Nat) 0x402) ∧
        (s.stab.conditions.fire = true → Noted t (s.eventNow .holdChanged none (2 ^ i.val : Nat) 0x403)) ∧
        Deferred s t .m .setPresence .done [0] [.settings, .holds] ∧
        { t with settings := s.settings }.beyondSwitching = s.beyondSwitching)

/-- SEARCH START, with no search active, the start condition cleared and a string CLOSED, makes the CLOSED strings
the suspect set, freezes every present string, abandons a PERIODIC measurement or a gap, and is DONE at once, whatever
the search_enable setting and the suppression mark; otherwise it is answered STATE, and NOT_PERMITTED elsewhere than
from S and from M with the key on (R129, R139). -/
def Obligations.SearchStartFreezesTheArray : Prop :=
  ∀ (s : State) (p : Port), s.accepts p →
    (¬s.commands p → exec (.searchStart p []) s = .next (s.answered p 0x0B .notPermitted [])) ∧
    (s.commands p → s.searchActive = true ∨ s.stab.conditions.start = true ∨ s.closedSet = [] →
      exec (.searchStart p []) s = .next (s.answered p 0x0B .state [])) ∧
    (s.commands p → s.calm → s.stab.conditions.start = false → s.closedSet ≠ [] →
      Completes (exec (.searchStart p []) s) fun t =>
        t.gsu.p = s.closedSet ∧ t.gsu.state ∈ [.isolate, .busCheck] ∧ t.gsu.c = [] ∧ t.gsu.k = [] ∧
        t.gsu.f = [] ∧ t.gsu.e = [] ∧ t.gsu.restarts = 0 ∧ t.gsu.busChecked = false ∧
        Records s t (fun i => if s.present i then (s.str i).put .search else s.str i) ∧
        t.imon.gap = none ∧ (∀ m ∈ t.imon.inFlight, m.owner = .search ∧ t.gsu.state = .busCheck) ∧
        Noted t (s.eventNow .searchStarted none (searchCause p) s.closedSet.length) ∧
        Replied s t p .searchStart .done [] ∧
        { t with gsu := s.gsu, imon := { t.imon with inFlight := s.imon.inFlight, gap := s.imon.gap } }.beyondSwitching
          = s.beyondSwitching)

/-- SEARCH ABORT ends an active search with ABORTED: GROUND with UNRESOLVED on the open set, SEARCH off every
string, a ROUTINE measurement at once; its reply waits for the commit where a string gained GROUND. With no search
active it is answered STATE, and NOT_PERMITTED elsewhere than from S and from M with the key on (R137, R138, R140).
That the lists stand unchanged after the end is the model's choice (assumption 18). -/
def Obligations.SearchAbortGroundsTheOpenSet : Prop :=
  ∀ (s : State) (p : Port), s.accepts p →
    (¬s.commands p → exec (.searchAbort p []) s = .next (s.answered p 0x0C .notPermitted [])) ∧
    (s.commands p → s.searchActive = false → exec (.searchAbort p []) s = .next (s.answered p 0x0C .state [])) ∧
    (s.commands p → s.searchActive = true → s.noReports → Completes (exec (.searchAbort p []) s) fun t =>
      let gains := stringsWhere fun i => s.gsu.openSet.contains i && s.present i && !s.has .ground i
      Records s t (fun i => (if i ∈ gains then (s.str i).put (.ground .unresolved) else s.str i).take .search) ∧
      t.gsu = { s.gsu with state := .idle, timer := none, left := [] } ∧
      t.imon = { s.imon with
        gap := none
        inFlight := some { owner := .periodic, purpose := .routine, startedAt := s.now,
                           endsAt := s.now + 1000 * s.cfgNat .tIso } } ∧
      Noted t (s.eventNow .searchResult none (searchValueA .aborted s.gsu.f) s.gsu.measurements) ∧
      (if gains ≠ [] then Deferred s t p .searchAbort .done [] [.holds] else Replied s t p .searchAbort .done []) ∧
      { t with gsu := s.gsu, imon := s.imon }.beyondSwitching = s.beyondSwitching)

/-- WRITE SETTING puts a setting that is not per string in force at once, a value outside its range taking the nearest
end, or for a period or a baud rate the greatest permitted value below it, raises a dependent setting that the new
value leaves too low, and defers its reply for the settings record's commit: DONE, or DONE_CLAMPED where the value was
changed or a dependent one raised (R9, R167, R168). That the reply carries the request's string byte is the model's
choice (assumption 39), and that its value is the one put in force at the request is deduced (assumption 14). -/
def Obligations.WriteSettingPutsTheValueInForce : Prop :=
  ∀ (s : State) (p : Port) (b : List Byte) (k : Setting) (y : Int), s.accepts p → s.calm → b.length = 6 →
    s.permitted .writeSetting p b = true → settingOfIndex (byteAt b 0) = some (.whole k) →
    s.settingValue k (signed32Of (b.drop 2)) = some y →
    Completes (exec (.writeSetting p b) s) fun t =>
      let x := signed32Of (b.drop 2)
      t.cfg k = y ∧
      (k ∉ [.tScan, .baudS, .baudV, .addrS, .addrV, .tConfirm, .rClear, .tCut] →
        y = max k.limits.1 (min k.limits.2 x)) ∧
      (k = .tConfirm → y = max (s.cfg .tCoil) (min 200 x)) ∧
      (k = .rClear → y = max (s.cfg .rTrip + 10) (min 9000 x)) ∧
      (k = .tCut → y = max (s.cfg .tKnee + 50) (min 1500 x)) ∧
      (k = .tScan → y ∈ [50, 100, 200, 400] ∧ (y ≤ x ∨ y = 50) ∧ ∀ z ∈ [50, 100, 200, 400], z ≤ x → z ≤ y) ∧
      (k = .baudS ∨ k = .baudV → y ∈ [19200, 38400, 115200] ∧ (y ≤ x ∨ y = 19200) ∧
        ∀ z ∈ [19200, 38400, 115200], z ≤ x → z ≤ y) ∧
      (k = .addrS ∨ k = .addrV → y = if x = 165 then 164 else max 1 (min 247 x)) ∧
      (∀ d least, dependentOf k y = some (d, least) → t.cfg d = max (s.cfg d) least) ∧
      (∀ d, d ≠ k → (∀ least, dependentOf k y ≠ some (d, least)) → t.cfg d = s.cfg d) ∧
      t.settings.strings = s.settings.strings ∧ t.settings.routes = s.settings.routes ∧
      (∀ i, t.below i = if k = .iZero then decide (s.fast i < y.toNat) else s.below i) ∧
      Deferred s t p .writeSetting (if y ≠ x ∨ s.raises (.whole k) y = true then .doneClamped else .done)
        ([byteAt b 0, byteAt b 1] ++ bytes32 (BitVec.ofInt 32 y)) [.settings] ∧
      { t with settings := s.settings, mfe := { t.mfe with below := s.mfe.below } }.beyondSwitching
        = s.beyondSwitching

/-- WRITE SETTING of a per-string setting puts the clamped or coded value in force for its string alone; a changed
peer group resets the string's suspicion counter and flag, with SUSPECT_CLEARED where the flag was set (R4, R23,
R167). A code that names no value, an index that names no setting and a wrong string number fail. That the deferred
reply carries the value put in force at the request is deduced (assumption 14). -/
def Obligations.PerStringSettingsAreWrittenOneByOne : Prop :=
  ∀ (s : State) (p : Port) (b : List Byte), s.accepts p → s.calm → b.length = 6 →
    s.permitted .writeSetting p b = true →
    let x := signed32Of (b.drop 2)
    let o := exec (.writeSetting p b) s
    (settingOfIndex (byteAt b 0) = none → o = .next (s.answered p 0x0F .badForm [])) ∧
    (settingOfIndex (byteAt b 0) = some (.whole .searchEnable) → x ≠ 0 → x ≠ 1 → o = .next (s.answered p 0x0F .badForm [])) ∧
    (∀ r, settingOfIndex (byteAt b 0) = some r → r.perString = true →
      ¬(1 ≤ (byteAt b 1).toNat ∧ (byteAt b 1).toNat ≤ 16) → o = .next (s.answered p 0x0F .badString [])) ∧
    ∀ i : StringId, byteAt b 1 = byte (stringNumber i) →
      let c := s.settings.strings[i]
      (settingOfIndex (byteAt b 0) = some .offset → Completes o fun t =>
        let y := max (-65536) (min 65535 x)
        WroteString s t p b i { c with offset := y } y ∧ t.seval = s.seval) ∧
      (settingOfIndex (byteAt b 0) = some .gain → Completes o fun t =>
        let y := max 1 (min 65535 x)
        WroteString s t p b i { c with gain := y.toNat } y ∧ t.seval = s.seval) ∧
      (settingOfIndex (byteAt b 0) = some .rank → Completes o fun t =>
        let y := max 0 (min 15 x)
        WroteString s t p b i { c with rank := y.toNat } y ∧ t.seval = s.seval) ∧
      (settingOfIndex (byteAt b 0) = some .range →
        (rangeOf x = none → o = .next (s.answered p 0x0F .badForm [])) ∧
        ∀ y ∈ rangeOf x, Completes o fun t => WroteString s t p b i { c with range := y } x ∧ t.seval = s.seval) ∧
      (settingOfIndex (byteAt b 0) = some .group →
        (groupOf x = none → o = .next (s.answered p 0x0F .badForm [])) ∧
        ∀ y ∈ groupOf x, Completes o fun t =>
          WroteString s t p b i { c with group := y } x ∧
          t.eval i = (if y = c.group then s.eval i else { s.eval i with suspicion := 0, suspect := false }) ∧
          (∀ j, j ≠ i → t.eval j = s.eval j) ∧
          (y ≠ c.group → (s.eval i).suspect = true → Noted t (s.eventNow .suspectCleared (some i) 0 1)))

/-- WRITE ROUTE from port S replaces one kind's subset of rings at once and waits for the settings record's commit;
a code or a subset that names anything else is BAD_FORM. RESTART enters the restart wait, its reply DONE ready.
CALIBRATE of a string in OPEN under SVC starts a capture, its reply held back; BAD_STRING and STATE change nothing
(R13, R170, R172). -/
def Obligations.RouteRestartAndCalibrateStart : Prop :=
  ∀ s : State,
    (s.accepts .s → s.calm → ∀ k r : Byte,
      ((kindOfCode k = none ∨ 8 ≤ r.toNat) →
        exec (.writeRoute .s [k, r]) s = .next (s.answered .s 0x10 .badForm [])) ∧
      ∀ kind, kindOfCode k = some kind → r.toNat < 8 → Completes (exec (.writeRoute .s [k, r]) s) fun t =>
        t.routed kind .s = r.getLsbD 0 ∧ t.routed kind .v = r.getLsbD 1 ∧ t.routed kind .m = r.getLsbD 2 ∧
        (∀ other p, other ≠ kind → t.routed other p = s.routed other p) ∧
        Deferred s t .s .writeRoute .done [] [.settings] ∧
        { t with settings := { t.settings with routes := s.settings.routes } }.beyondSwitching = s.beyondSwitching) ∧
    (s.accepts .m → s.ports.key.on = true →
      let replied := s.answered .m 0x11 .done []
      exec (.restart .m []) s = .next { replied with ports := { replied.ports with restartWait := true } }) ∧
    (s.accepts .m → s.ports.key.on = true → ∀ n : Byte,
      (¬(1 ≤ n.toNat ∧ n.toNat ≤ 16) → exec (.calibrate .m [n]) s = .next (s.answered .m 0x09 .badString [])) ∧
      ∀ i, n = byte (stringNumber i) →
        (s.present i = false → exec (.calibrate .m [n]) s = .next (s.answered .m 0x09 .badString [])) ∧
        (s.present i = true → (s.switchState i ≠ .opened ∨ s.has .svc i = false) →
          exec (.calibrate .m [n]) s = .next (s.answered .m 0x09 .state [])) ∧
        (s.present i = true → s.switchState i = .opened → s.has .svc i = true →
          Completes (exec (.calibrate .m [n]) s) fun t =>
            t.mfe = { s.mfe with capture := some { string := i, count := 0, sum := 0 } } ∧
            t.port .m = { (s.port .m) with
              receiver := .idle, quietFrom := some s.now
              outstanding := some { code := 0x09, wait := .capture } } ∧
            t.port .s = s.port .s ∧ t.port .v = s.port .v ∧
            { t with mfe := s.mfe, ports := { t.ports with port := s.ports.port } } = s))

/-- RETEST SWITCH of a FAULTED string under SWITCH and SVC starts a retest, its reply held back: the string stays
FAULTED and counts as not isolated, and the first open step's entry joins the coil queue or is granted at once, when a
relay that shows open passes it at once (R97). BAD_STRING, RETIRED and STATE change nothing (R96, R156). -/
def Obligations.RetestStartsUnderALockout : Prop :=
  ∀ (s : State) (n : Byte), s.accepts .m → s.ports.key.on = true →
    (¬(1 ≤ n.toNat ∧ n.toNat ≤ 16) → exec (.retestSwitch .m [n]) s = .next (s.answered .m 0x08 .badString [])) ∧
    ∀ i, n = byte (stringNumber i) →
      (s.present i = false → exec (.retestSwitch .m [n]) s = .next (s.answered .m 0x08 .badString [])) ∧
      (s.present i = true → s.has .retired i = true →
        exec (.retestSwitch .m [n]) s = .next (s.answered .m 0x08 .retired [])) ∧
      (s.present i = true → s.has .retired i = false →
        (s.switchState i ≠ .faulted ∨ s.has .switch i = false ∨ s.has .svc i = false) →
        exec (.retestSwitch .m [n]) s = .next (s.answered .m 0x08 .state [])) ∧
      (s.calm → s.closesOnlyFree → s.present i = true → s.has .retired i = false → s.switchState i = .faulted →
        s.has .switch i = true → s.has .svc i = true → Completes (exec (.retestSwitch .m [n]) s) fun t =>
          (∃ r ∈ t.sseq.retest, r.string = i ∧ r.step ≠ .secondOpen) ∧ t.switchState i = .faulted ∧
          (s.queued i = false → StepBegun s t i .firstOpen ∨
            (s.feedback i = false ∧ StepBegun s t i .close ∧
              { string := i, mark := .toOpen, endsAt := s.now + s.cfgNat .tCoil } ∈ t.sseq.pulses)) ∧
          t.stab = s.stab ∧ t.fli.retestMarks[i] = true ∧ t.fli.arraySafe = false ∧
          t.port .m = { (s.port .m) with
            receiver := .idle, quietFrom := some s.now
            outstanding := some { code := 0x08, wait := .retest } } ∧
          t.beyondSwitching = s.beyondSwitching)

/-! ### The ports, the key and the baud rate -/

/-- A completed frame with a wrong CRC, or on S and V with another unit's address, is dropped; the bytes of a
partial frame take the receiver from position to position, which gives the frame up in the three cases of R159, a byte
of 0xA5 starting a new one; a code that is none of the seventeen is BUSY or BAD_FORM. Nothing else changes (R159, R160,
R162). That PARTIAL_FRAME_GIVEN_UP carries all bytes that end no frame, and that a frame is held against the unit
address in force at its end, is the model's choice (assumptions 7 and 20). -/
def Obligations.FramesThatAreNoRequests : Prop :=
  ∀ (s : State) (p : Port), s.powered = true → (s.port p).transmitting = none →
    let heard (r : Receiver) : State := s.withPort p { (s.port p) with receiver := r, quietFrom := some s.now }
    let from_ : Receiver := if ∃ q ∈ (s.port p).quietFrom, q + 20 < s.now then .idle else (s.port p).receiver
    (∀ frame : List Byte, frameWhole frame = true →
      crcRight frame = false ∨ (p ≠ .m ∧ frame.head? ≠ some (s.replyNow p 0 .done []).address) →
      exec (.frameDropped p frame) s = .next (heard .idle)) ∧
    (∀ b : Byte,
      (from_ = .idle → exec (.partialFrameGivenUp p [b]) s = .next (heard (if b = 0xA5 then .address else .idle))) ∧
      (from_ = .address →
        exec (.partialFrameGivenUp p [b]) s = .next (heard (if b = 0xA5 then .address else .length))) ∧
      (from_ = .length → exec (.partialFrameGivenUp p [b]) s = .next (heard
        (if b = 0xA5 then .address else if b = 0 ∨ 121 < b.toNat then .idle else .body (b.toNat + 2)))) ∧
      (∀ n, from_ = .body (n + 2) → exec (.partialFrameGivenUp p [b]) s = .next (heard (.body (n + 1))))) ∧
    (∀ bytes : List Byte, bytes ≠ [] → exec (.partialFrameGivenUp p bytes) s = .next
      (match Receiver.hear from_ bytes with
       | some r => heard r
       | none => s)) ∧
    (∀ (r : Receiver) (b : Byte) (bs : List Byte),
      Receiver.hear r (b :: bs) = (Receiver.hear r [b]).bind fun r' => Receiver.hear r' bs) ∧
    (∀ n b, n ≤ 1 → Receiver.hear (.body n) [b] = none) ∧
    (∀ code payload, code.toNat = 0 ∨ 17 < code.toNat →
      exec (.unknownRequestCode p code payload) s = .next (s.answered p code
        (if (s.port p).outstanding.isSome = true ∨ s.ports.restartWait = true then .busy else .badForm) []))

/-- A port sends its oldest ready reply no sooner than 2 ms after the last byte heard or sent, and hears nothing
until it ends: no request, frame or byte at a transmitting port changes anything (R160); it takes a new baud rate while
it neither collects nor sends; the key state follows an input held for 50 ms (R161, R164, R168). -/
def Obligations.PortsSendAndTheKeyTurns : Prop :=
  ∀ s : State, s.powered = true →
    (∀ p r rest, (s.port p).ready = r :: rest → (s.port p).receiver = .idle → (s.port p).transmitting = none →
      exec (.replyTransmitStart p) s = .next
        (if ∀ q ∈ (s.port p).quietFrom, q + 2 ≤ s.now
         then s.withPort p { (s.port p) with ready := rest, transmitting := some r } else s)) ∧
    (∀ p, (s.port p).transmitting.isSome = true →
      (∀ c q b, requestOf c = some (q, p, b) → exec c s = .next s) ∧
      (∀ code b, exec (.unknownRequestCode p code b) s = .next s) ∧
      ∀ b, exec (.frameDropped p b) s = .next s ∧ exec (.partialFrameGivenUp p b) s = .next s) ∧
    (∀ p, (s.port p).transmitting.isSome = true →
      exec (.transmissionEnd p) s = .next
        (s.withPort p { (s.port p) with transmitting := none, receiver := .idle, quietFrom := some s.now })) ∧
    (∀ p k, baudOf p = some k → (s.port p).receiver = .idle → (s.port p).transmitting = none →
      exec (.baudRateApplied p) s = .next (s.withPort p { (s.port p) with baud := (s.cfg k).toNat })) ∧
    (∀ on, on ≠ s.ports.key.input →
      exec (.serviceKeyInputChange on) s = .next (s.withKey { s.ports.key with
        input := on, debounce := if on = s.ports.key.on then none else some (s.now + 50) })) ∧
    (∀ e, s.ports.key.debounce = some e → e ≤ s.now →
      exec .keyDebounceExpiry s = .next (s.withKey { s.ports.key with on := s.ports.key.input, debounce := none }))

/-! ### Scans -/

/-- A scan completion converts every channel (R5 to R8), tests the daylight state (R10, R11), hands the record
to its three takers and starts the next scan with the period of the state reached (R1 to R3, R12; assumption 22). Each
string in PENDING_CLOSE without an entry is tested on the new samples, and joins the coil queue where its dwell has
passed and it is qualified (R79, R80); the next interval is blanked from its start where a ramp is in progress or the
after-ramp blank runs (R146). -/
def Obligations.ScanCompletionHandsTheRecordOn : Prop :=
  ∀ (s : State) (raw : RawScan), s.powered = true → s.calm → s.mfe.scanStart + s.mfe.scanLength ≤ s.now →
    Completes (exec (.scanCompletion raw) s) fun t =>
      let v := s.convert raw
      let wake := s.cfgNat .vWake
      (if s.mfe.daylight = .night then
        (if v.bus < wake then t.mfe.daylight = .night ∧ t.mfe.wakeCount = 0
         else if s.mfe.wakeCount < 9 then t.mfe.daylight = .night ∧ t.mfe.wakeCount = s.mfe.wakeCount + 1
         else t.mfe.daylight = .day ∧ t.mfe.wakeCount = 0 ∧ t.mfe.darkRun = none)
       else
        (if wake / 2 ≤ v.bus then t.mfe.daylight = .day ∧ t.mfe.darkRun = none
         else if s.mfe.darkRun = none then t.mfe.daylight = .day ∧ t.mfe.darkRun = some s.uptime
         else if ∀ d ∈ s.mfe.darkRun, 6000 ≤ (s.uptime - d).toNat then
          t.mfe.daylight = .night ∧ t.mfe.darkRun = none
         else t.mfe.daylight = .day ∧ t.mfe.darkRun = s.mfe.darkRun)) ∧
      (t.mfe.daylight ≠ s.mfe.daylight →
        Noted t (s.eventNow .daylight none v.bus (if t.mfe.daylight = .day then 1 else 0))) ∧
      t.mfe.samples = some v ∧ t.mfe.scanStart = s.now ∧
      t.mfe.scanLength = (if t.mfe.daylight = .day then s.cfgNat .tScan else 1000) ∧
      (∃ r ∈ t.handed.seval.getLast?,
        t.handed = { seval := s.handed.seval ++ [r], tsc := s.handed.tsc ++ [r], arcd := s.handed.arcd ++ [r] } ∧
        r.completion = s.uptime ∧ r.daylight = t.mfe.daylight ∧
        (∀ i : StringId, r.entries[i] = if s.present i then some v.channels[i] else none) ∧
        r.bus = v.bus ∧ r.temperature = v.temperature ∧ r.arcIndex = raw.arcIndex ∧
        r.arcBlank = s.arcd.intervalBlank) ∧
      t.arcd.latest = some (raw.arcIndex, s.arcd.intervalBlank) ∧ t.arcd.window = s.arcd.window ∧
      t.mfe.fast = s.mfe.fast ∧ t.mfe.below = s.mfe.below ∧
      Records s t s.str ∧ (s.mfe.capture = none → t.settings = s.settings) ∧
      { t with mfe := s.mfe, handed := s.handed, settings := s.settings,
               arcd := { t.arcd with latest := s.arcd.latest } }.beyondSwitching = s.beyondSwitching ∧
      (s.relaysOpen →
        t.arcd.ramping = s.arcd.ramping ∧ t.arcd.blank = s.arcd.blank ∧
        t.arcd.intervalBlank = (decide (s.arcd.ramping ≠ []) || s.arcd.blank.isSome) ∧
        ∀ i, s.switchState i = .pendingClose → s.queued i = false →
          let qualified := decide (v.bus < 500) ||
            decide (v.bus * s.cfgNat .kQual / 1000 ≤ (v.channels[i]).sideVoltage)
          if s.dwellOver i = true ∧ qualified = true then t.queued i = true ∨ t.switchState i = .relayClosing
          else t.queued i = false ∧ t.switchState i = .pendingClose ∧
            (t.sw i).lastTest = .made qualified (v.channels[i]).sideVoltage v.bus)

/-- The conversions of a scan: a current is the product over 1 048 576 to the nearest, halves away from zero, then
clamped to its channel's range (R5) and marked clipped by an over-range or by the clamp (R6); voltages are clamped to
0 to 16 000 (R7), and the temperature is rounded in the same way and clamped (R8). The results are the completion's
last samples and the values of its record. -/
def Obligations.ReadingsConvertToTheNearestUnit : Prop :=
  ∀ (s : State) (raw : RawScan),
    let v := s.convert raw
    (∀ i : StringId,
      let c := s.strSet i
      let product := ((raw.channels[i]).raw.toInt - c.offset) * c.gain
      let clamp := if c.range = .wide then 3200 else 800
      ∃ n : Int, 2 * (n * 1048576 - product).natAbs ≤ 1048576 ∧
        (2 * (n * 1048576 - product).natAbs = 1048576 → product.natAbs < n.natAbs * 1048576) ∧
        (v.channels[i]).current = max (-clamp) (min clamp n) ∧
        ((v.channels[i]).clipped = true ↔
          (raw.channels[i]).overRange = true ∨ (v.channels[i]).current ≠ n) ∧
        ((v.channels[i]).sideVoltage : Int) = max 0 (min 16000 (raw.channels[i]).sideVoltage)) ∧
    (v.bus : Int) = max 0 (min 16000 raw.bus) ∧
    (0 < s.cfg .kSlope → ∃ n : Int,
      let product := ((raw.temperatureCode.toNat : Int) - s.cfg .k25) * 10
      2 * (n * s.cfg .kSlope - product).natAbs ≤ (s.cfg .kSlope).natAbs ∧
      (2 * (n * s.cfg .kSlope - product).natAbs = (s.cfg .kSlope).natAbs →
        product.natAbs < n.natAbs * (s.cfg .kSlope).natAbs) ∧
      v.temperature = max (-400) (min 1500 (250 + n))) ∧
    (s.powered = true → s.mfe.scanStart + s.mfe.scanLength ≤ s.now →
      Completes (exec (.scanCompletion raw) s) fun t => t.mfe.samples = some v ∧
        ∃ r ∈ t.handed.seval.getLast?, r.bus = v.bus ∧ r.temperature = v.temperature ∧
          ∀ i, s.present i = true → r.entries[i] = some v.channels[i])

/-- An offset capture takes its string's raw code at each scan completion, is abandoned with STATE at a clipped
sample, and at the sixteenth sample puts the rounded mean in force as the offset and waits for the settings record's
commit, or replies STATE where the mean is out of range (R14 to R16). That the deferred reply carries the value put in
force at the sixteenth sample is deduced (assumption 14). -/
def Obligations.CaptureTakesSixteenSamples : Prop :=
  ∀ (s : State) (raw : RawScan) (c : Capture) (code : Byte), s.powered = true → s.calm → s.closesOnlyFree →
    s.mfe.scanStart + s.mfe.scanLength ≤ s.now → s.mfe.capture = some c → s.switchState c.string = .opened →
    (s.port .m).outstanding = some { code := code, wait := .capture } →
    Completes (exec (.scanCompletion raw) s) fun t =>
      let x := (s.convert raw).channels[c.string]
      let sum := c.sum + (raw.channels[c.string]).raw.toInt
      let mean := if 0 ≤ sum then (sum + 8) / 16 else -((-sum + 8) / 16)
      if x.clipped then t.mfe.capture = none ∧ t.settings = s.settings ∧ Ended s t .m code .state []
      else if c.count < 15 then
        t.mfe.capture = some { string := c.string, count := c.count + 1, sum := sum } ∧ t.settings = s.settings ∧
        t.port .m = s.port .m
      else if -65536 ≤ mean ∧ mean ≤ 65535 then
        t.mfe.capture = none ∧
        t.settings = { s.settings with
          strings := s.settings.strings.set c.string { s.settings.strings[c.string] with offset := mean } } ∧
        (t.port .m).outstanding =
          some { code := code, wait := .commit .done (bytes32 (BitVec.ofInt 32 mean)) } ∧
        ∃ e ∈ t.cfs.queue, e.record = .settings ∧ .m ∈ e.waiters
      else t.mfe.capture = none ∧ t.settings = s.settings ∧ Ended s t .m code .state []

/-- The String Evaluator's work on a completion: references in DAY from at least three eligible strings, between
their least and greatest currents, deficits, suspicion counters and flags, dwell counts, REVERSE and OVERCURRENT
trips with their events, SUSPECT_SET and SUSPECT_CLEARED, and the marks of the states read at the take-up, clear for a
string that a trip has taken out of CLOSED (R21 to R30, R33 to R36, R102; assumption 12). I_over is above 0, as its
range has it, for the events; with more than four trips a full ring may have lost the events of suspects. -/
def Obligations.EvaluatorJudgesEachScan : Prop :=
  ∀ (s : State) (r : ScanRecord) (rest : List ScanRecord), s.powered = true → s.calm → s.closesOnlyFree →
    s.handed.seval = r :: rest → Completes (exec .sevalScanTakeUp s) fun t =>
      t.handed = { s.handed with seval := rest } ∧
      (∀ g : Fin 4,
        let xs := s.eligibleOf r g
        if r.daylight = .night then t.seval.groups[g] = { reference := none, count := 0 }
        else (t.seval.groups[g]).count = xs.length ∧
          (t.seval.groups[g]).reference = referenceOf (s.cfgNat .iFloor) (sortAscending xs) ∧
          ∀ m ∈ (t.seval.groups[g]).reference, 3 ≤ xs.length ∧ s.cfgNat .iFloor ≤ m ∧
            (∃ x ∈ xs, x ≤ m) ∧ ∃ y ∈ xs, m ≤ y) ∧
      (∀ i,
        (t.eval i).lastDeficit =
          (if r.daylight = .day ∧ s.counted r i = true ∧ (r.sample i).clipped = false then
            match (s.strSet i).group.slot with
            | none => none
            | some g => (t.seval.groups[g]).reference.map fun ref =>
                (max 0 (min 1000 (Int.tdiv (((ref : Int) - (r.sample i).current) * 1000) ref))).toNat
           else none) ∧
        ((t.eval i).lastDeficit = none →
          (t.eval i).suspicion = (s.eval i).suspicion ∧ (t.eval i).suspect = (s.eval i).suspect) ∧
        (∀ d ∈ (t.eval i).lastDeficit,
          (t.eval i).suspicion =
            (if s.cfgNat .tD ≤ d then min 255 ((s.eval i).suspicion + s.cfgNat .stepUp)
             else (s.eval i).suspicion - 1) ∧
          (t.eval i).suspect =
            (if (s.eval i).suspect then decide (s.cfgNat .sSuspect / 2 < (t.eval i).suspicion)
             else decide (s.cfgNat .sSuspect ≤ (t.eval i).suspicion)) ∧
          (0 < s.cfg .iOver → (stringsWhere fun j => s.tripsReverse r j || s.tripsOver r j).length ≤ 4 →
            ((s.eval i).suspect = false → (t.eval i).suspect = true →
              Noted t (eventAt r.completion .suspectSet (some i) (t.eval i).suspicion d)) ∧
            ((s.eval i).suspect = true → (t.eval i).suspect = false →
              Noted t (eventAt r.completion .suspectCleared (some i) (t.eval i).suspicion 0)))) ∧
        (t.eval i).mark = decide (s.switchState i = .closed ∧ t.switchState i = .closed) ∧
        (s.target i = true → s.switchState i = .closed →
          ((t.eval i).mark = false ↔ s.tripsReverse r i = true ∨ s.tripsOver r i = true))) ∧
      (∀ i,
        (s.tripsReverse r i = true → t.has .reverse i = true ∧ (t.eval i).reverseDwell = 0 ∧
          (0 < s.cfg .iOver →
            Noted t (eventAt r.completion .reverseTrip (some i) (r.sample i).current (s.reverseCount r i)))) ∧
        (s.tripsOver r i = true → t.has .overcurrent i = true ∧ (t.eval i).overDwell = 0 ∧
          (s.has .overcurrent i = false →
            let attempt := min ((s.str i).overcurrentCount + 1) 15
            let auto := decide (attempt ≤ s.cfgNat .recloseLimit)
            (t.str i).overcurrentCount = attempt ∧
            (t.str i).overcurrent = some { attempt := attempt, auto := auto } ∧
            (0 < s.cfg .iOver → Noted t (eventAt r.completion .overcurrentTrip (some i) (r.sample i).current
              (attempt + (if auto then 256 else 0)))) ∧
            t.rcl[i] = { stable := none, reclose :=
              if auto then some (s.now + 1000 * min (s.cfgNat .tBase * 2 ^ (attempt - 1)) (s.cfgNat .tBase * 32))
              else (s.rcl[i]).reclose })) ∧
        (s.tripsReverse r i = false → s.tripsOver r i = false →
          (t.eval i).reverseDwell = s.reverseCount r i ∧ (t.eval i).overDwell = s.overCountAt r i ∧
          (t.str i = s.str i ∨ (s.underRetest i = true ∧ t.str i = (s.str i).take .switch))) ∧
        (s.tripsOver r i = false → (t.rcl[i]).reclose = (s.rcl[i]).reclose)) ∧
      { t with handed := s.handed, seval := s.seval, rcl := s.rcl }.beyondSwitching = s.beyondSwitching

/-- The Thermal Shed Controller's work on a completion: the derated limit falls in a straight line across the band
(R109), the total adds the positive currents of CLOSED strings (R110), a limit of 0 sheds every CLOSED string in
victim order, with THERMAL_SHED for each (R114), a full dwell sheds the first of that order (R111), and otherwise the
top of the stack is restored where R116 allows it. This holds during a ground search too: a single shed waits while a
SEARCH measurement is in flight, which goes on undisturbed, and a full shed that takes a member of X, V or K out of
CLOSED discards it (R113, R141). That the restore mark is tested before step 2, that a CLOSED string without an entry
may be a victim with a current of 0, and that the over dwell count becomes 0 also where a full shed finds no CLOSED
string, are the model's choices (assumptions 35, 36 and 26). -/
def Obligations.ThermalShedsAndRestores : Prop :=
  ∀ (s : State) (r : ScanRecord) (rest : List ScanRecord), s.powered = true → s.gsu.left = [] → s.noReports →
    s.closesOnlyFree → s.stackRight → s.handed.tsc = r :: rest → Completes (exec .tscScanTakeUp s) fun t =>
      let knee := s.cfg .tKnee
      let cut := s.cfg .tCut
      let limit := if r.temperature ≤ knee then s.cfgNat .lRated
        else if cut ≤ r.temperature then 0
        else ((s.cfgNat .lRated : Int) * (cut - r.temperature) / (cut - knee)).toNat
      let total := (s.closedSet.filter fun i => (r.entries[i]).isSome).foldl
        (fun n i => n + (r.sample i).current.toNat) 0
      let order := s.victimOrder r s.closedSet
      let entry (i : StringId) : ShedEntry :=
        { string := i, current := (r.sample i).current.toNat, time := r.completion }
      let victim := s.tsc.victim.filter fun i => stillAwaited (s.switchState i)
      let mark := s.tsc.restoreMark.filter fun i => stillReturning (s.switchState i)
      let dwell := if victim = none then (if limit < total then min (s.tsc.overDwell + 1) 50 else 0)
        else s.tsc.overDwell
      let due := victim = none ∧ 0 < dwell ∧ s.cfgNat .nShed ≤ dwell ∧ s.searchMeasuring = false ∧ order ≠ []
      t.handed = { s.handed with tsc := rest } ∧ t.tsc.limit = some limit ∧ t.tsc.total = some total ∧
      order.Perm s.closedSet ∧ order.Pairwise (fun i j => s.shedBefore r i j = true) ∧
      (if limit = 0 then
        t.tsc.stack = (order.map entry).reverse ++ s.tsc.stack ∧ t.tsc.overDwell = 0 ∧
        (order ≠ [] → t.tsc.lastMove = some r.completion) ∧
        ∀ i ∈ order, t.has .thermal i = true ∧
          Noted t (eventAt r.completion .thermalShed (some i) total r.temperature)
       else if due then
        t.tsc.stack = (order.take 1).map entry ++ s.tsc.stack ∧ t.tsc.overDwell = 0 ∧
        t.tsc.lastMove = some r.completion ∧
        Noted t (eventAt r.completion .thermalShed order.head? total r.temperature) ∧
        ∀ i ∈ order.head?, t.has .thermal i = true
       else if s.restoresAt r mark limit total then
        t.tsc.stack = s.tsc.stack.drop 1 ∧ t.tsc.overDwell = dwell ∧ t.tsc.lastMove = some r.completion ∧
        ∀ top ∈ s.tsc.stack.head?, t.has .thermal top.string = false ∧
          Noted t (eventAt r.completion .thermalRestore (some top.string) (r.completion - top.time).toNat r.temperature)
       else
        t.tsc.stack = s.tsc.stack ∧ t.tsc.overDwell = dwell ∧ t.tsc.lastMove = s.tsc.lastMove) ∧
      (s.calm →
        (if limit = 0 then
          (order ≠ [] → t.tsc.victim = order.getLast?) ∧
          Records s t (fun i => if i ∈ order then (s.str i).put .thermal else s.str i)
         else if due then
          t.tsc.victim = order.head? ∧
          Records s t (fun i => if order.head? = some i then (s.str i).put .thermal else s.str i)
         else if s.restoresAt r mark limit total then
          ∀ top ∈ s.tsc.stack.head?,
            Records s t (fun i => if i = top.string then (s.str i).take .thermal else s.str i) ∧
            (s.present top.string = true → ((s.str top.string).take .thermal).holds = noHolds →
              t.tsc.restoreMark = some top.string)
         else t.tsc.victim = victim ∧ t.tsc.restoreMark = mark ∧ t.stab = s.stab ∧ t.sseq = s.sseq) ∧
        { t with handed := s.handed, tsc := s.tsc }.beyondSwitching = s.beyondSwitching) ∧
      (s.searchMeasuring = true → s.gsu.state ∈ [.busCheck, .probeMeasure, .verifyMeasure] →
        let taken := order.filter fun i => decide (i ∈ s.gsu.measuringSet ∨ i ∈ s.gsu.k)
        if limit = 0 ∧ taken ≠ [] then
          t.imon.last = s.imon.last ∧
          (s.gsu.restarts < 3 → t.gsu.restarts = s.gsu.restarts + 1 ∧ (∀ i ∈ s.gsu.k, i ∈ t.gsu.k) ∧
            ∀ i ∈ taken, i ∉ s.gsu.k → i ∈ t.gsu.e ∧ i ∉ t.gsu.c ∧ i ∉ t.gsu.x ∧ i ∉ t.gsu.v) ∧
          (3 ≤ s.gsu.restarts → t.gsu.state = .idle ∧
            Noted t (s.eventNow .searchResult none (searchValueA .unresolved s.gsu.f) s.gsu.measurements))
        else t.gsu = s.gsu ∧ t.imon = s.imon)

/-- The Arc Detector's work on a completion: the scan's mark joins a window of eight; A_count OVER marks make a trip,
which sets the arc condition standing, puts ARC on every present string, and empties the window (R147 to R149). A trip
that sets the condition standing aborts an active search (R138). AFTER_RAMP_BLANK_EXPIRY ends the blank and nothing
else (R146). -/
def Obligations.ArcTripsOpenTheArray : Prop :=
  ∀ s : State, s.powered = true →
    (∀ (r : ScanRecord) (rest : List ScanRecord), s.calm → s.closesOnlyFree → s.arcd.window.length ≤ 8 →
      s.handed.arcd = r :: rest → Completes (exec .arcdScanTakeUp s) fun t =>
        let isOver := !r.arcBlank && decide (s.cfg .aTrip ≤ r.arcIndex.toNat)
        let marks := (s.arcd.window ++ [isOver]).drop (s.arcd.window.length - 7)
        let count := marks.count true
        let stood := s.stab.conditions.arc
        t.handed = { s.handed with arcd := rest } ∧
        (if 0 < count ∧ s.cfgNat .aCount ≤ count then
          t.arcd.window = [] ∧ t.stab.conditions = { s.stab.conditions with arc := true } ∧
          Records s t (fun i => if stood = false ∧ s.present i = true then (s.str i).put .arc else s.str i) ∧
          (stood = false → ∀ i, s.switchState i = .closed → s.target i = true → (t.sw i).drive = .off) ∧
          Noted t (eventAt r.completion .arcTrip none r.arcIndex.toNat (count + (if stood then 256 else 0)))
         else t.arcd.window = marks ∧ t.stab = s.stab ∧ t.sseq = s.sseq ∧ t.evr = s.evr) ∧
        { t with
          handed := s.handed, arcd := { t.arcd with window := s.arcd.window }
          stab := { t.stab with conditions := s.stab.conditions } }.beyondSwitching = s.beyondSwitching) ∧
    (∀ (r : ScanRecord) (rest : List ScanRecord), s.searchActive = true → s.handed.arcd = r :: rest →
      s.stab.conditions.arc = false → r.arcBlank = false → s.cfg .aTrip ≤ r.arcIndex.toNat →
      s.arcd.window.length ≤ 8 →
      s.cfgNat .aCount ≤ ((s.arcd.window ++ [true]).drop (s.arcd.window.length - 7)).count true →
      Completes (exec .arcdScanTakeUp s) fun t => t.gsu.state = .idle ∧ t.stab.conditions.arc = true ∧
        (∀ i, s.present i = true → t.has .arc i = true ∧ (i ∈ s.gsu.openSet → t.has .ground i = true)) ∧
        (∀ i, t.has .search i = false) ∧ ∀ m ∈ t.imon.inFlight, m.owner = .periodic) ∧
    (∀ e, s.arcd.blank = some e → e ≤ s.now →
      exec .afterRampBlankExpiry s = .next { s with arcd := { s.arcd with blank := none } })

/-! ### The switch sequencer -/

/-- A reading below I_zero sets a clear indication and sends a string that waits for its current to fall on to
PENDING_OPEN or beyond; one at or above it clears a set indication and sends a string in PENDING_OPEN to CURTAIL_WAIT
with INTERRUPT_FAILED and the CURTAIL line. A reading that leaves the indication as it was changes nothing but the
reading (R9, R86, R87, R89; assumption 8). -/
def Obligations.CrossingsOfZeroCurrentMoveWaitingStrings : Prop :=
  ∀ (s : State) (i : StringId) (n : Nat), s.powered = true → s.calm → s.closesOnlyFree →
    let reading := min n 3200
    (reading < s.cfgNat .iZero → Completes (exec (.currentFellBelowIZero i n) s) fun t =>
      t.fast i = reading ∧ t.below i = true ∧ (∀ j, j ≠ i → t.fast j = s.fast j ∧ t.below j = s.below j) ∧
      (s.below i = false → s.feedback i = true →
        (s.switchState i = .interrupting ∨ s.switchState i = .curtailWait) →
        t.switchState i ∈ [.pendingOpen, .relayOpening]) ∧
      (s.below i = true → t.sseq = s.sseq ∧ t.stab = s.stab ∧ t.evr = s.evr) ∧
      Records s t s.str ∧
      { t with mfe := { t.mfe with fast := s.mfe.fast, below := s.mfe.below } }.beyondSwitching
        = s.beyondSwitching) ∧
    (s.cfgNat .iZero ≤ reading → Completes (exec (.currentReachedIZero i n) s) fun t =>
      t.fast i = reading ∧ t.below i = false ∧ (∀ j, j ≠ i → t.fast j = s.fast j ∧ t.below j = s.below j) ∧
      (∀ j, j ≠ i → t.switchState j = s.switchState j) ∧
      (if s.below i = true ∧ s.switchState i = .pendingOpen then
        t.switchState i = .curtailWait ∧ t.sseq.curtail = true ∧ t.sseq.queue = s.sseq.queue ∧
        (t.sw i).timer = some (s.now + 1000 * s.cfgNat .tCurtail) ∧
        Noted t (s.eventNow .interruptFailed (some i) reading 0)
       else t.switchState i = s.switchState i) ∧
      t.stab = s.stab ∧
      { t with mfe := { t.mfe with fast := s.mfe.fast, below := s.mfe.below } }.beyondSwitching
        = s.beyondSwitching)

/-- A relay that comes to show closed confirms RELAY_CLOSING, which goes on to its ramp or, with a target that has
turned OPEN, to the opening; in OPEN and PENDING_CLOSE it is UNCOMMANDED_CLOSED; in FAULTED with FAIL_TO_CLOSE and no
retest it replaces the kind; elsewhere it moves nothing (R81, R90, R91). -/
def Obligations.FeedbackThatShowsClosed : Prop :=
  ∀ (s : State) (i : StringId), s.powered = true → s.calm → s.closesOnlyFree →
    s.present i = true → s.feedback i = false → s.underRetest i = false →
    Completes (exec (.feedbackShowsClosed i) s) fun t =>
      let faults := decide (s.switchState i = .opened) || decide (s.switchState i = .pendingClose)
      let late := decide (s.switchState i = .faulted) && decide ((s.str i).faultKind = some .failToClose)
      t.feedback i = true ∧ (∀ j, j ≠ i → t.feedback j = s.feedback j) ∧
      (s.switchState i = .relayClosing → s.target i = true → t.switchState i ∈ [.rampWait, .ramping]) ∧
      (s.switchState i = .relayClosing → s.target i = false →
        t.switchState i ∈ [.pendingOpen, .relayOpening, .curtailWait]) ∧
      (faults = true → t.switchState i = .faulted ∧ (t.sw i).drive = .off ∧ t.queued i = false ∧
        Noted t (s.eventNow .switchFault (some i) 3 (switchCode (s.switchState i)))) ∧
      (late = true → Noted t (s.eventNow .switchFault (some i) 3 (switchCode .faulted))) ∧
      (faults = false → s.switchState i ≠ .relayClosing → t.sw i = s.sw i) ∧
      Records s t (fun j => if j = i ∧ (faults = true ∨ late = true) then (s.str i).put (.switch .uncommandedClosed)
        else s.str j) ∧
      { t with sseq := { t.sseq with feedback := s.sseq.feedback } }.beyondSwitching = s.beyondSwitching

/-- A relay that comes to show open confirms RELAY_OPENING: the string arrives in OPEN with its dwell started and
STRING_ISOLATED, and goes on to PENDING_CLOSE where its target is CLOSED; in the states from RAMP_WAIT to PENDING_OPEN
it is LOST_CLOSED, with the switch off; elsewhere it moves nothing (R89, R90, R99). -/
def Obligations.FeedbackThatShowsOpen : Prop :=
  ∀ (s : State) (i : StringId), s.powered = true → s.calm → s.closesOnlyFree → s.entriesRight →
    s.feedback i = true → s.underRetest i = false →
    (s.switchState i ≠ .absent → s.present i = true) →
    Completes (exec (.feedbackShowsOpen i) s) fun t =>
      let lost := decide (s.switchState i ∈ [.rampWait, .ramping, .closed, .interrupting, .curtailWait, .pendingOpen])
      t.feedback i = false ∧ (∀ j, j ≠ i → t.feedback j = s.feedback j) ∧
      (s.switchState i = .relayOpening →
        t.switchState i = (if s.target i then .pendingClose else .opened) ∧
        (t.sw i).dwell = .running (s.now + 1000 * s.cfgNat .tDwell) ∧
        Noted t (s.eventNow .stringIsolated (some i) 0 0)) ∧
      (lost = true → t.switchState i = .faulted ∧ (t.sw i).drive = .off ∧ t.queued i = false ∧
        i ∉ t.sseq.rampList ∧ Noted t (s.eventNow .switchFault (some i) 2 (switchCode (s.switchState i)))) ∧
      (s.switchState i = .absent → t.switchState i = .absent ∧ (t.sw i).timer = none) ∧
      (lost = false → s.switchState i ≠ .relayOpening → s.switchState i ≠ .absent → t.sw i = s.sw i) ∧
      Records s t (fun j => if j = i ∧ lost = true then (s.str i).put (.switch .lostClosed) else s.str j) ∧
      { t with sseq := { t.sseq with feedback := s.sseq.feedback } }.beyondSwitching = s.beyondSwitching

/-- A deadline of t_confirm that passes unconfirmed makes the string FAULTED, with FAIL_TO_CLOSE in RELAY_CLOSING
and FAIL_TO_OPEN in RELAY_OPENING; for an ABSENT string's recovery pulse it gives SWITCH_FAULT alone (R81, R89, R99).
Before the deadline the commands change nothing (assumption 2). -/
def Obligations.ConfirmationDeadlinesFault : Prop :=
  ∀ (s : State) (i : StringId), s.powered = true → s.calm →
    (s.switchState i = .relayClosing → s.present i = true → s.due (s.sw i).timer = true →
      Completes (exec (.closeConfirmExpiry i) s) fun t => BecameFaulted s t i .failToClose) ∧
    (s.switchState i = .relayOpening → s.present i = true → s.due (s.sw i).timer = true →
      Completes (exec (.openConfirmExpiry i) s) fun t => BecameFaulted s t i .failToOpen) ∧
    (s.switchState i = .absent → s.due (s.sw i).timer = true →
      Completes (exec (.recoveryPulseExpiry i) s) fun t =>
        t.sw i = { s.sw i with timer := none } ∧ (∀ j, j ≠ i → t.sw j = s.sw j) ∧ t.stab = s.stab ∧
        Noted t (s.eventNow .switchFault (some i) 1 0) ∧ t.beyondSwitching = s.beyondSwitching) ∧
    (s.due (s.sw i).timer = false → exec (.closeConfirmExpiry i) s = .next s ∧
      exec (.openConfirmExpiry i) s = .next s ∧ exec (.recoveryPulseExpiry i) s = .next s)

/-- A retest fails at a granted step's deadline, with the step's fault kind and SWITCH_FAULT, and ends with the kind
it had where an open step has waited t_interrupt under current; its mark is cleared and port M gets STATE. A wait that
ends with the indication set goes on without a bound (R96, R98). The feedback that a granted step waits for passes the
step: the next one begins, or after the second open step SWITCH is taken, the string is in OPEN with its dwell started,
and the reply DONE waits for the hold record's commit (R97). Feedback that leaves the position last confirmed, before
the next pulse, fails the retest (R98); other feedback moves nothing. -/
def Obligations.RetestsFailAndEnd : Prop :=
  ∀ (s : State) (r : Retest) (code : Byte), s.powered = true → s.calm → s.closesOnlyFree →
    s.sseq.retest = some r → s.switchState r.string = .faulted → s.present r.string = true →
    s.has .switch r.string = true → (s.port .m).outstanding = some { code := code, wait := .retest } →
    (∀ shows : Bool, s.feedback r.string ≠ shows →
      Completes (exec (if shows then .feedbackShowsClosed r.string else .feedbackShowsOpen r.string) s) fun t =>
        t.feedback r.string = shows ∧
        (if r.pulsed = true then
          (r.step = .firstOpen → shows = false → s.queued r.string = false →
            StepBegun s t r.string .close ∧ t.stab = s.stab) ∧
          (r.step = .close → shows = true → s.queued r.string = false →
            StepBegun s t r.string .secondOpen ∧ t.stab = s.stab) ∧
          (r.step = .secondOpen → shows = false →
            t.sseq.retest = none ∧ t.fli.retestMarks[r.string] = false ∧
            (∀ j, t.str j = if j = r.string then (s.str j).take .switch else s.str j) ∧
            (t.sw r.string).dwell = .running (s.now + 1000 * s.cfgNat .tDwell) ∧
            t.switchState r.string = (if t.target r.string then .pendingClose else .opened) ∧
            (t.port .m).outstanding = some { code := code, wait := .commit .done [] } ∧
            ∃ e ∈ t.cfs.queue, e.record = .holds ∧ .m ∈ e.waiters) ∧
          (r.step.mark.shown shows = false → t.sseq.retest = s.sseq.retest ∧ t.stab = s.stab ∧ t.evr = s.evr)
         else
          (r.step = .close → shows = true → RetestFailed s t r.string code .uncommandedClosed) ∧
          (r.step = .secondOpen → shows = false → RetestFailed s t r.string code .lostClosed) ∧
          (r.step = .firstOpen → t.sseq.retest = s.sseq.retest ∧ t.stab = s.stab ∧ t.evr = s.evr)) ∧
        { t with sseq := { t.sseq with feedback := s.sseq.feedback } }.beyondSwitching = s.beyondSwitching) ∧
    (s.due r.timer = true → r.pulsed = true → Completes (exec .retestStepExpiry s) fun t =>
      let kind := if r.step = .close then .failToClose else .failToOpen
      t.sseq.retest = none ∧ t.fli.retestMarks[r.string] = false ∧ t.queued r.string = false ∧
      t.switchState r.string = .faulted ∧
      (∀ j, t.str j = if j = r.string then { s.str j with faultKind := some kind } else s.str j) ∧
      Noted t (s.eventNow .switchFault (some r.string) (if r.step = .close then 0 else 1) (switchCode .faulted)) ∧
      Ended s t .m code .state [] ∧ t.beyondSwitching = s.beyondSwitching) ∧
    (s.due r.timer = true → r.pulsed = false → s.below r.string = false →
      Completes (exec .retestOpenStepTimeout s) fun t =>
      t.sseq.retest = none ∧ t.fli.retestMarks[r.string] = false ∧ t.queued r.string = false ∧
      t.stab = s.stab ∧ Ended s t .m code .state [] ∧ t.beyondSwitching = s.beyondSwitching) ∧
    (s.due r.timer = true → r.pulsed = false → s.below r.string = true →
      exec .retestOpenStepTimeout s =
        .next { s with sseq := { s.sseq with retest := some { r with timer := none } } })

/-- A pulse that ends frees the coil supply for the oldest grantable OPEN entry, then for the oldest CLOSE entry, where
the entries are those of R92 and R94; an open pulse is granted only with the string's switch off and its current below
I_zero (R93). -/
def Obligations.PulseEndsGrantTheNext : Prop :=
  ∀ (s : State) (i : StringId) (p : Pulse), s.powered = true → s.calm → s.coilsRight →
    (s.sseq.pulses.find? fun q => decide (q.string = i) && decide (q.endsAt ≤ s.now)) = some p →
    (s.closesOnlyFree → s.entriesRight → s.nextGrant = s.oldestGrantable) ∧
    Completes (exec (.pulseEnd i) s) fun t =>
      let left := s.sseq.pulses.erase p
      (∀ q ∈ left, q ∈ t.sseq.pulses) ∧ t.sseq.pulses.length ≤ 2 ∧
      (∀ q ∈ t.sseq.pulses, q ∉ left → q.endsAt = s.now + s.cfgNat .tCoil ∧
        (q.mark = .toOpen → s.below q.string = true ∧ (s.sw q.string).drive = .off)) ∧
      (∀ e ∈ s.nextGrant,
        { string := e.string, mark := e.mark, endsAt := s.now + s.cfgNat .tCoil } ∈ t.sseq.pulses ∧
        e ∉ t.sseq.queue) ∧
      (s.nextGrant = none → t.sseq = { s.sseq with pulses := left } ∧ t.stab = s.stab ∧ t.evr = s.evr) ∧
      Records s t s.str ∧ t.beyondSwitching = s.beyondSwitching

/-- The ramp slot's head starts its ramp when t_space has passed, and with a t_space of 0 every string of the list (R82);
a ramp that has run its t_ramp leaves the switch fully on and the string CLOSED, with STRING_CONNECTED, its stable timer
started and the CLOSED strings compared for CONNECTED_SET (R83, R105, R117, R176). A ramp's start and end keep the Arc
Detector's ramping set, blank the scan interval, and at its end start the after-ramp blank, the later of two expiries
standing (R146). -/
def Obligations.RampsStartInTurnAndEndClosed : Prop :=
  ∀ (s : State) (i : StringId), s.powered = true → s.calm →
    (∀ (slot : RampSlot) (rest : List StringId), s.sseq.slot = some slot → slot.freeAt ≤ s.now →
      s.sseq.rampList = i :: rest → 0 < s.cfgNat .tSpace → Completes (exec .rampSlotFree s) fun t =>
        t.switchState i = .ramping ∧ (t.sw i).drive = .ramping ∧
        (t.sw i).timer = some (s.now + s.cfgNat .tRamp) ∧ t.sseq.rampList = rest ∧
        t.sseq.slot = some { startedAt := s.now, freeAt := s.now + s.cfgNat .tSpace } ∧
        (∀ j, j ≠ i → t.sw j = s.sw j) ∧ t.stab = s.stab ∧
        (∀ j, j ∈ t.arcd.ramping ↔ j ∈ s.arcd.ramping ∨ j = i) ∧ t.arcd.intervalBlank = true ∧
        t.arcd.blank = s.arcd.blank ∧
        t.beyondSwitching = s.beyondSwitching) ∧
    (s.due (s.sseq.slot.map RampSlot.freeAt) = true → s.cfgNat .tSpace = 0 →
      Completes (exec .rampSlotFree s) fun t =>
        (∀ j, t.sw j = if j ∈ s.sseq.rampList
          then { s.sw j with state := .ramping, drive := .ramping, timer := some (s.now + s.cfgNat .tRamp) }
          else s.sw j) ∧
        t.sseq.rampList = [] ∧
        t.sseq.slot = (if s.sseq.rampList = [] then s.sseq.slot else some { startedAt := s.now, freeAt := s.now }) ∧
        t.stab = s.stab ∧ (∀ j, j ∈ t.arcd.ramping ↔ j ∈ s.arcd.ramping ∨ j ∈ s.sseq.rampList) ∧
        t.arcd.intervalBlank = (s.arcd.intervalBlank || decide (s.sseq.rampList ≠ [])) ∧
        t.arcd.blank = s.arcd.blank ∧ t.beyondSwitching = s.beyondSwitching) ∧
    (s.switchState i = .ramping → s.due (s.sw i).timer = true → Completes (exec (.rampEnd i) s) fun t =>
      t.switchState i = .closed ∧ (t.sw i).drive = .on ∧ (∀ j, j ≠ i → t.sw j = s.sw j) ∧
      (t.rcl[i]).stable = some (s.now + 60000 * s.cfgNat .tStable) ∧
      t.tsc.restoreMark = (if s.tsc.restoreMark = some i then none else s.tsc.restoreMark) ∧
      Noted t (s.eventNow .stringConnected (some i) 0 0) ∧ t.stab = s.stab ∧ ConnectedSetJudged s t ∧
      (∀ j, j ∈ t.arcd.ramping ↔ j ∈ s.arcd.ramping ∧ j ≠ i) ∧ t.arcd.intervalBlank = true ∧
      t.arcd.blank = (if s.cfgNat .tBlank = 0 then s.arcd.blank
        else some (max (s.now + s.cfgNat .tBlank) (s.arcd.blank.getD 0))) ∧
      t.beyondSwitching = s.beyondSwitching)

/-- A dwell that passes lets a qualified string in PENDING_CLOSE join the coil queue (R79, R80); t_qual that passes
without it gives CLOSE_BLOCKED once, with the voltages of the latest test, where that test did not pass (R80);
t_interrupt that passes with current flowing leads to CURTAIL_WAIT (R86, R87); each t_curtail period there gives
ISOLATION_FAILED (R87). -/
def Obligations.WaitsOfClosingAndOpeningStrings : Prop :=
  ∀ (s : State) (i : StringId), s.powered = true → s.calm →
    (∀ e, (s.sw i).dwell = .running e → e ≤ s.now → s.switchState i = .pendingClose → s.queued i = false →
      s.feedback i = false → s.closesOnlyFree → Completes (exec (.dwellPassed i) s) fun t =>
        (t.sw i).dwell = .passed ∧
        (if (match s.mfe.samples with
             | none => false
             | some v => decide (v.bus < 500) ||
                decide (v.bus * s.cfgNat .kQual / 1000 ≤ (v.channels[i]).sideVoltage))
         then t.queued i = true ∨ t.switchState i = .relayClosing
         else t.queued i = false ∧ t.switchState i = .pendingClose) ∧
        Records s t s.str ∧ t.beyondSwitching = s.beyondSwitching) ∧
    (∀ e, (s.sw i).dwell = .running e → e ≤ s.now → s.switchState i = .opened → s.nextGrant = none →
      Completes (exec (.dwellPassed i) s) fun t =>
        t.sw i = { s.sw i with dwell := .passed } ∧ (∀ j, j ≠ i → t.sw j = s.sw j) ∧ t.stab = s.stab ∧
        t.beyondSwitching = s.beyondSwitching) ∧
    (s.switchState i = .pendingClose → s.due (s.sw i).timer = true → s.queued i = false →
      Completes (exec (.qualificationTimeout i) s) fun t =>
        t.sw i = { s.sw i with timer := none } ∧ (∀ j, j ≠ i → t.sw j = s.sw j) ∧
        (match (s.sw i).lastTest with
         | .made true _ _ => t.evr = s.evr
         | .made false side bus => TakenUp s t (s.eventNow .closeBlocked (some i) side bus)
         | .unable => TakenUp s t (s.eventNow .closeBlocked (some i) (-2147483648) (-32768))) ∧
        { t with sseq := s.sseq, evr := s.evr } = s) ∧
    (s.switchState i = .interrupting → s.due (s.sw i).timer = true →
      Completes (exec (.interruptTimeout i) s) fun t =>
        t.switchState i = .curtailWait ∧ t.sseq.curtail = true ∧ (t.sw i).periods = 0 ∧
        (t.sw i).timer = some (s.now + 1000 * s.cfgNat .tCurtail) ∧ (∀ j, j ≠ i → t.sw j = s.sw j) ∧
        Noted t (s.eventNow .interruptFailed (some i) (s.fast i) 0) ∧ t.stab = s.stab ∧
        t.beyondSwitching = s.beyondSwitching) ∧
    (s.switchState i = .curtailWait → s.due (s.sw i).timer = true →
      Completes (exec (.curtailPeriodExpiry i) s) fun t =>
        t.sw i = { s.sw i with
          periods := (s.sw i).periods + 1, timer := some (s.now + 1000 * s.cfgNat .tCurtail) } ∧
        (∀ j, j ≠ i → t.sw j = s.sw j) ∧
        TakenUp s t (s.eventNow .isolationFailed (some i) (s.fast i) (min ((s.sw i).periods + 1) 32767 : Nat)) ∧
        { t with sseq := s.sseq, evr := s.evr } = s)

/-! ### Reclose, routing and store -/

/-- A reclose timer's expiry takes OVERCURRENT and its detail, leaves the count, and closes a string this empties in
OPEN (R103); a stable timer's sets the count to 0 (R105); the hold-off's issues CONNECTED_SET where the set differs
(R176); a coalescing delay's sets it expired (R175). -/
def Obligations.RecloseAndRouterTimersExpire : Prop :=
  ∀ s : State, s.powered = true →
    (∀ i : StringId, s.calm → (s.str i).exact → s.due (s.rcl[i]).reclose = true → Completes (exec (.recloseExpiry i) s) fun t =>
      Records s t (fun j => if j = i then (s.str i).take .overcurrent else s.str j) ∧
      (t.rcl[i]).reclose = none ∧ (∀ j : StringId, j ≠ i → (t.rcl[j]).reclose = (s.rcl[j]).reclose) ∧
      (s.switchState i = .opened → s.has .overcurrent i = true → s.present i = true →
        ((s.str i).take .overcurrent).holds = noHolds →
        t.switchState i ∈ [.pendingClose, .relayClosing, .rampWait, .ramping]) ∧
      { t with rcl := s.rcl }.beyondSwitching = s.beyondSwitching) ∧
    (∀ i : StringId, s.due (s.rcl[i]).stable = true → Completes (exec (.stableExpiry i) s) fun t =>
      t.rcl[i] = { s.rcl[i] with stable := none } ∧ (∀ j : StringId, j ≠ i → t.rcl[j] = s.rcl[j]) ∧
      (∀ j, t.str j = if j = i then { s.str i with overcurrentCount := 0 } else s.str j) ∧
      { t with rcl := s.rcl, stab := { t.stab with strings := s.stab.strings } } = s) ∧
    (s.due s.evr.holdOff = true → Completes (exec .connectedSetHoldoffExpiry s) fun t =>
      t.evr.holdOff = none ∧
      (if s.closedSet = s.evr.lastSet then t = { s with evr := { s.evr with holdOff := none } }
       else t.evr.lastSet = s.closedSet ∧ t.evr.lastIssue = some s.uptime ∧
        TakenUp s t (s.eventNow .connectedSet none (setBits s.closedSet) s.closedSet.length)) ∧
      { t with evr := s.evr } = s) ∧
    (∀ p e, (s.ring p).delay = .running e → e ≤ s.now → Completes (exec (.coalesceExpiry p) s) fun t =>
      t.ring p = { s.ring p with delay := .expired } ∧ (∀ o, o ≠ p → t.ring o = s.ring o) ∧
      { t with evr := { t.evr with ring := s.evr.ring } } = s)

/-- A write that has run for 5 ms at least completes: its content becomes the latest good version of its record,
its entry leaves the queue, the replies that wait on it and on no other entry become ready, and the next entry's write
begins with its record as it stands (R177, R178; assumption 5). -/
def Obligations.CommitsCompleteInTurn : Prop :=
  ∀ (s : State) (w : Write) (e : CommitEntry) (rest : List CommitEntry), s.powered = true →
    s.cfs.writing = some w → s.cfs.queue = e :: rest → w.startedAt + 5 ≤ s.now →
    Completes (exec .commitComplete s) fun t =>
      t.cfs.queue = rest ∧ t.cfs.writing = rest.head?.map (fun n => { startedAt := s.now, image := s.image n.record }) ∧
      (match w.image with
       | .settings x => t.cfs.settingsCopies.latest.map Copy.data = some x ∧ t.cfs.holdCopies = s.cfs.holdCopies
       | .holds x => t.cfs.holdCopies.latest.map Copy.data = some x ∧
          t.cfs.settingsCopies = s.cfs.settingsCopies) ∧
      (∀ p, (p ∉ e.waiters ∨ ∃ x ∈ rest, p ∈ x.waiters) → t.port p = s.port p) ∧
      (∀ p ∈ e.waiters, (∀ x ∈ rest, p ∉ x.waiters) → ∀ o ∈ (s.port p).outstanding,
        match o.wait with
        | .commit r body => Ended s t p o.code r body
        | _ => t.port p = s.port p) ∧
      { t with cfs := s.cfs, ports := { t.ports with port := s.ports.port } } = s

/-! ### Insulation, the ground search, and the fire loop -/

/-- A PERIODIC measurement that has run its t_iso replaces the last reading and is judged: while the start condition
stands, a reading at or above R_clear takes START from every string at once and a low one is reported once (R123);
else a low ROUTINE reading starts a CONFIRM measurement and no other reading does (R124); a reading at or above
R_clear clears the low and suppression marks (R126). GAP_EXPIRY starts the next ROUTINE measurement (R122). -/
def Obligations.PeriodicReadingsAreJudged : Prop :=
  ∀ s : State, s.powered = true → s.calm →
    (∀ (n : Nat) (m : Measurement), s.imon.inFlight = some m → m.owner = .periodic → m.endsAt ≤ s.now →
      (s.stab.conditions.start = true ∨ m.purpose ≠ .confirm ∨ s.cfg .rTrip ≤ (min n 10000 : Nat)) →
      Completes (exec (.periodicMeasurementComplete n) s) fun t =>
        let reading := min n 10000
        let low := decide ((reading : Int) < s.cfg .rTrip)
        let good := decide (s.cfg .rClear ≤ (reading : Int))
        let start := s.stab.conditions.start
        t.imon.last = some { reading := reading, time := s.uptime, owner := .periodic } ∧
        t.imon.suppression = (s.imon.suppression && !good) ∧
        t.imon.lowMark = ((s.imon.lowMark && !good) || (start && low && !good)) ∧
        (if start = true ∧ good = true then
          t.stab.conditions = { s.stab.conditions with start := false } ∧ (∀ i, t.has .start i = false) ∧
          Records s t (fun i => (s.str i).take .start)
         else t.stab = s.stab ∧ t.sseq = s.sseq) ∧
        (start = true → low = true → good = false → s.imon.lowMark = false →
          Noted t (s.eventNow .insulationLow none reading 0)) ∧
        (if start = false ∧ low = true then
          t.imon.inFlight = some { owner := .periodic, purpose := .confirm, startedAt := s.now,
                                   endsAt := s.now + 1000 * s.cfgNat .tIso } ∧ t.imon.gap = none
         else if s.cfgNat .tGap = 0 then
          t.imon.inFlight = some { owner := .periodic, purpose := .routine, startedAt := s.now,
                                   endsAt := s.now + 1000 * s.cfgNat .tIso } ∧ t.imon.gap = none
         else t.imon.inFlight = none ∧ t.imon.gap = some (s.now + 1000 * s.cfgNat .tGap)) ∧
        { t with imon := s.imon, stab := { t.stab with conditions := s.stab.conditions } }.beyondSwitching
          = s.beyondSwitching) ∧
    (s.due s.imon.gap = true → exec .gapExpiry s = .next { s with imon := { s.imon with
      gap := none
      inFlight := some { owner := .periodic, purpose := .routine, startedAt := s.now,
                         endsAt := s.now + 1000 * s.cfgNat .tIso } } })

/-- A confirmed low reading holds the CLOSED strings with GROUND, of detail NO_SEARCH where searching is disabled and
BUS_SIDE under the suppression mark, and reports it where the low mark was clear or a string gained the hold; otherwise
it starts a search of the CLOSED strings, which ends BUS_SIDE at once where there are none (R125, R129). -/
def Obligations.ConfirmedLowReadingsAct : Prop :=
  ∀ (s : State) (n : Nat) (m : Measurement), s.powered = true → s.calm → s.closesOnlyFree →
    s.imon.inFlight = some m → m.owner = .periodic → m.purpose = .confirm → m.endsAt ≤ s.now →
    s.stab.conditions.start = false → ((min n 10000 : Nat) : Int) < s.cfg .rTrip → s.cfg .rTrip ≤ s.cfg .rClear →
    Completes (exec (.periodicMeasurementComplete n) s) fun t =>
      let reading := min n 10000
      let disabled := decide (s.cfg .searchEnable = 0)
      let detail : GroundDetail := if disabled then .noSearch else .busSide
      t.imon.lowMark = true ∧ t.imon.last = some { reading := reading, time := s.uptime, owner := .periodic } ∧
      (if disabled = true ∨ s.imon.suppression = true then
        Records s t (fun i => if s.switchState i = .closed then (s.str i).put (.ground detail) else s.str i) ∧
        ((s.imon.lowMark = false ∨ s.closedSet ≠ []) →
          Noted t (s.eventNow .insulationLow none reading (if disabled then 1 else 2))) ∧
        (s.imon.lowMark = true → s.closedSet = [] → t.evr = s.evr) ∧
        (s.cfgNat .tGap ≠ 0 → t.imon.gap = some (s.now + 1000 * s.cfgNat .tGap) ∧ t.imon.inFlight = none) ∧
        t.gsu.state = .idle ∧
        { t with imon := s.imon }.beyondSwitching = s.beyondSwitching
       else if s.closedSet = [] then
        t.gsu.state = .idle ∧ t.imon.suppression = true ∧
        (∀ i, s.present i = true → t.has .ground i = true ∧
          (s.has .ground i = false → (t.str i).groundDetail = some .busSide)) ∧
        Noted t (s.eventNow .searchResult none (searchValueA .busSide []) 0)
       else
        t.gsu.p = s.closedSet ∧ t.gsu.state ∈ [.isolate, .busCheck] ∧
        (∀ i, s.present i = true → t.has .search i = true) ∧
        Noted t (s.eventNow .searchStarted none 0 s.closedSet.length) ∧
        Noted t (s.eventNow .insulationLow none reading 3))

/-- A SEARCH reading replaces the last reading and is judged by the step. A low bus check ends the search BUS_SIDE and
sets the suppression mark (R131). A low probe narrows to the probe set, frozen again; a good one clears the probe set
(R133). From the candidates that a good reading leaves, X is formed of the first half less its FAULTED members and
released (R132); one candidate is located (R134), after which the rest is verified or the search ends LOCATED (R135);
none ends it UNRESOLVED. A good verification ends the search LOCATED, a low one makes V the candidates, and with three
strings located ends it UNRESOLVED (R135). An ambiguous one repeats its step at once, or ends the search UNRESOLVED at
the restart limit (R136). When the step timer expires, each member of the measuring set that is not CLOSED is
excluded; where the set keeps members, the excluded ones carry SEARCH again and the unit waits on with no timer (R132,
R135). A member of X, V or K that a HOLD takes out of CLOSED discards the measurement: the step is run again without
it, but for a member of K, or at the restart limit the search ends (R136). A string that arrives in OPEN, by its
feedback or by the grant that a pulse's end allows, or becomes FAULTED at its deadline, or ends its ramp, as the last
that a step waits for ends the wait of ISOLATE, by the bus check or by going on, or starts the measurement of the step;
the wait goes on while another string is still opening (R130). That the lists stand otherwise unchanged at a low probe,
a location and the end is the model's choice (assumptions 18 and 38). -/
def Obligations.SearchReadingsAndTimersAreJudged : Prop :=
  (∀ (s : State) (n : Nat) (m : Measurement), s.powered = true → s.gsu.left = [] → s.noReports →
    s.imon.inFlight = some m → m.owner = .search → m.endsAt ≤ s.now → s.cfg .rTrip < s.cfg .rClear →
    s.gsu.state ∈ [.busCheck, .probeMeasure, .verifyMeasure] →
    Completes (exec (.searchMeasurementComplete n) s) fun t =>
      let reading := min n 10000
      let low := decide ((reading : Int) < s.cfg .rTrip)
      let good := decide (s.cfg .rClear ≤ (reading : Int))
      t.imon.last = some { reading := reading, time := s.uptime, owner := .search } ∧
      (s.gsu.state = .busCheck → low = true →
        SearchEnded s t .busSide .busSide s.presentSet ∧ t.imon.suppression = true) ∧
      (s.gsu.state = .busCheck → good = true → t.gsu.busChecked = true ∧
        ∀ i ∈ s.gsu.p, i ∉ s.gsu.k → i ∉ s.gsu.f → s.switchState i = .faulted → i ∈ t.gsu.e) ∧
      (s.gsu.state = .probeMeasure → low = true →
        s.closesOnlyFree → s.relaysClosed → s.relaysOpen →
        (∃ i ∈ s.gsu.x, i ∉ s.gsu.k ∧ s.present i = true ∧ s.switchState i = .closed ∧ s.target i = true ∧
          s.feedback i = true) →
        t.gsu = { s.gsu with c := s.gsu.x, state := .isolate, left := [] } ∧ t.imon.inFlight = none ∧
        Records s t (fun i => if i ∈ s.gsu.x ∧ s.present i = true then (s.str i).put .search else s.str i)) ∧
      (s.gsu.state = .probeMeasure → good = true → ∀ i ∈ s.gsu.x, i ∈ t.gsu.k ∧ i ∉ t.gsu.c) ∧
      (s.gsu.state ∈ [.busCheck, .probeMeasure] → good = true → s.closesOnlyFree → s.relaysClosed → s.relaysOpen →
        let bus := decide (s.gsu.state = .busCheck)
        let able (i : StringId) : Bool := decide (s.switchState i ≠ .faulted)
        let c := if bus then s.gsu.openSet.filter able else s.gsu.c.filter fun i => decide (i ∉ s.gsu.x)
        let half := c.take ((c.length + 1) / 2)
        (2 ≤ c.length → (∃ i ∈ half, able i = true) →
          t.gsu.x = half.filter able ∧ t.gsu.c = (c.filter fun i => decide (i ∉ half) || able i) ∧
          (∀ i ∈ half, able i = false → i ∈ t.gsu.e) ∧ (∀ i ∈ t.gsu.x, t.has .search i = false) ∧
          ((t.gsu.state = .probeSwitch ∧ t.gsu.timer = some (s.now + 1000 * s.cfgNat .tStep) ∧
              t.imon.inFlight = none) ∨
           (t.gsu.state = .probeMeasure ∧ t.gsu.timer = none ∧ t.searchMeasuring = true))) ∧
        (∀ i, c = [i] →
          let v := s.gsu.openSet.filter fun j => decide (j ≠ i) && (bus || decide (j ∉ s.gsu.x)) && able j
          t.gsu.f = s.gsu.f ++ [i] ∧ t.has .search i = false ∧
          (s.present i = true → t.has .ground i = true ∧
            (s.has .ground i = false → (t.str i).groundDetail = some .located)) ∧
          (if v = [] then t.gsu.state = .idle ∧
              Noted t (s.eventNow .searchResult none (searchValueA .located (s.gsu.f ++ [i])) s.gsu.measurements)
           else t.gsu.v = v ∧ t.gsu.state ∈ [.verifySwitch, .verifyMeasure] ∧ ∀ j ∈ v, t.has .search j = false)) ∧
        (c = [] → t.gsu.state = .idle ∧
          Noted t (s.eventNow .searchResult none (searchValueA .unresolved s.gsu.f) s.gsu.measurements) ∧
          ∀ i, s.present i = true → i ∈ s.gsu.e ∨ (i ∈ s.gsu.openSet ∧ (bus = true ∨ i ∉ s.gsu.x)) →
            t.has .ground i = true)) ∧
      (s.gsu.state = .verifyMeasure → low = true → s.gsu.f.length < 3 →
        s.closesOnlyFree → s.relaysClosed → s.relaysOpen →
        (∃ i ∈ s.gsu.v, i ∉ s.gsu.k ∧ s.present i = true ∧ s.switchState i = .closed ∧ s.target i = true ∧
          s.feedback i = true) →
        t.gsu = { s.gsu with c := s.gsu.v, state := .isolate, left := [] } ∧ t.imon.inFlight = none ∧
        Records s t (fun i => if i ∈ s.gsu.v ∧ s.present i = true then (s.str i).put .search else s.str i)) ∧
      (s.gsu.state = .verifyMeasure → good = true → SearchEnded s t .located .located []) ∧
      (s.gsu.state = .verifyMeasure → low = true → 3 ≤ s.gsu.f.length →
        SearchEnded s t .unresolved .unresolved s.gsu.openSet) ∧
      (low = false → good = false → s.gsu.restarts < 3 →
        t.gsu = { s.gsu with restarts := s.gsu.restarts + 1, measurements := s.gsu.measurements + 1, timer := none } ∧
        t.imon.inFlight = some { owner := .search, purpose := .search, startedAt := s.now,
                                 endsAt := s.now + 1000 * s.cfgNat .tIso } ∧
        t.stab = s.stab ∧ t.sseq = s.sseq ∧ t.evr = s.evr) ∧
      (low = false → good = false → 3 ≤ s.gsu.restarts →
        SearchEnded s t .unresolved .unresolved s.gsu.openSet)) ∧
  (∀ (s : State) (i : StringId), s.accepts .s → s.gsu.left = [] → s.noReports → s.closesOnlyFree →
    s.gsu.state ∈ [.probeMeasure, .verifyMeasure] → s.searchMeasuring = true →
    s.switchState i = .closed → s.target i = true → s.feedback i = true →
    i ∈ s.gsu.measuringSet ∨ i ∈ s.gsu.k →
    Completes (exec (.hold .s [byte (stringNumber i)]) s) fun t =>
      t.has .sup i = true ∧ t.imon.last = s.imon.last ∧
      (s.gsu.restarts < 3 → t.gsu.restarts = s.gsu.restarts + 1 ∧
        (i ∈ s.gsu.k → i ∈ t.gsu.k) ∧
        (i ∉ s.gsu.k → i ∈ t.gsu.e ∧ i ∉ t.gsu.c ∧ i ∉ t.gsu.x ∧ i ∉ t.gsu.v ∧
          ((∃ j ∈ s.gsu.measuringSet, j ≠ i) →
            t.has .search i = true ∧ t.imon.inFlight = none ∧
            t.gsu.state = (if s.gsu.state = .probeMeasure then .probeSwitch else .verifySwitch) ∧
            t.gsu.timer = some (s.now + 1000 * s.cfgNat .tStep)))) ∧
      (3 ≤ s.gsu.restarts → t.gsu.state = .idle ∧
        Noted t (s.eventNow .searchResult none (searchValueA .unresolved s.gsu.f) s.gsu.measurements) ∧
        ∀ j ∈ s.gsu.openSet, j ≠ i ∨ i ∈ s.gsu.k → s.present j = true → t.has .ground j = true)) ∧
  (∀ (s : State) (i : StringId) (c : Instr), s.powered = true → s.gsu.left = [] → s.noReports → s.closesOnlyFree →
    (s.present i = true ∧ s.released i = false ∧ s.target i = false ∧
        ((c = .feedbackShowsOpen i ∧ s.switchState i = .relayOpening ∧ s.feedback i = true) ∨
          (c = .openConfirmExpiry i ∧ s.switchState i = .relayOpening ∧ s.due (s.sw i).timer = true) ∨
          (s.switchState i = .pendingOpen ∧ s.feedback i = false ∧ s.sseq.pulses.length = 2 ∧
            s.nextGrant = some { string := i, mark := .toOpen } ∧
            ∃ p ∈ s.sseq.pulses, c = .pulseEnd p.string ∧ p.endsAt ≤ s.now))) ∨
      (c = .rampEnd i ∧ s.switchState i = .ramping ∧ s.due (s.sw i).timer = true ∧ i ∈ s.gsu.measuringSet) →
    Completes (exec c s) fun t =>
      let measures (st : SearchState) : Prop :=
        t.gsu = { s.gsu with state := st, timer := none, measurements := s.gsu.measurements + 1 } ∧
        t.imon = { s.imon with
          gap := none
          inFlight := some { owner := .search, purpose := .search, startedAt := s.now,
                             endsAt := s.now + 1000 * s.cfgNat .tIso } }
      ((∀ j, j ≠ i → s.present j = true → s.released j = false →
          s.switchState j = .opened ∨ s.switchState j = .faulted) →
        (s.gsu.state = .isolate → s.gsu.busChecked = false → measures .busCheck) ∧
        (s.gsu.state = .isolate → s.gsu.busChecked = true → t.gsu.state ∉ [.isolate, .busCheck]) ∧
        (s.gsu.measuringSet ≠ [] →
          (∀ j ∈ s.gsu.measuringSet, j ≠ i → j ∈ s.gsu.k ∨ s.switchState j = .closed) →
          (s.gsu.state = .probeSwitch → measures .probeMeasure) ∧
          (s.gsu.state = .verifySwitch → measures .verifyMeasure))) ∧
      ((∃ j, j ≠ i ∧ s.present j = true ∧ s.released j = false ∧
          s.switchState j ∈ [.interrupting, .curtailWait, .relayOpening]) →
        s.gsu.state ∈ [.isolate, .probeSwitch, .verifySwitch] → s.gsu.measuringSet ≠ [] ∨ s.gsu.state = .isolate →
        t.gsu = s.gsu ∧ t.imon = s.imon)) ∧
  ∀ s : State, s.powered = true → s.gsu.left = [] → s.noReports → s.closesOnlyFree →
    s.gsu.state ∈ [.probeSwitch, .verifySwitch] → s.due s.gsu.timer = true →
    Completes (exec .stepTimerExpiry s) fun t =>
      let out := s.gsu.measuringSet.filter fun i => decide (s.switchState i ≠ .closed)
      (∀ i ∈ out, i ∈ t.gsu.e) ∧
      ((∃ i ∈ s.gsu.measuringSet, s.switchState i = .closed) → s.othersOpen = true →
        (∀ i ∈ out, s.present i = true → t.has .search i = true) ∧
        (∀ i ∈ out, i ∉ t.gsu.c ∧ i ∉ t.gsu.x ∧ i ∉ t.gsu.v) ∧ t.gsu.timer = none ∧
        t.gsu.state ∈ [.probeSwitch, .probeMeasure, .verifySwitch, .verifyMeasure])

/-- A new raw class of the fire loop starts the debounce afresh, or stops it where it is the accepted state (R151).
When the debounce ends, a new ALARM or LOOP_FAULT sets the fire condition standing and puts FIRE on every present
string, with one HOLD_CHANGED for those that gained it, aborting a search; a new NORMAL removes nothing; FIRE_LINE
reports each change (R138, R151, R152). -/
def Obligations.TheFireLoopOpensTheArray : Prop :=
  ∀ s : State, s.powered = true →
    (∀ c, c ≠ s.fli.raw → exec (.fireLoopClassChange c) s = .next { s with fli := { s.fli with
      raw := c, debounce := if acceptedAs c = s.fli.accepted then none else some (s.now + 200) } }) ∧
    (s.due s.fli.debounce = true → s.calm → Completes (exec .fireDebounceExpiry s) fun t =>
      let new := acceptedAs s.fli.raw
      let alarms := decide (new ≠ s.fli.accepted) && decide (new ≠ .normal)
      t.fli.accepted = new ∧ t.fli.debounce = none ∧ t.fli.raw = s.fli.raw ∧
      (alarms = true → t.stab.conditions.fire = true ∧
        Records s t (fun i => if s.stab.conditions.fire = false ∧ s.present i = true then (s.str i).put .fire
          else s.str i) ∧
        (let gained := stringsWhere fun i => s.present i && !s.has .fire i
         s.stab.conditions.fire = false → gained ≠ [] →
          Noted t (s.eventNow .holdChanged none (setBits gained) 0x303))) ∧
      (alarms = false → t.stab = s.stab ∧ t.sseq = s.sseq) ∧
      (new ≠ s.fli.accepted → Noted t (s.eventNow .fireLine none (loopCode new) (loopCode s.fli.accepted))) ∧
      { t with fli := { t.fli with accepted := s.fli.accepted, debounce := s.fli.debounce }
               stab := { t.stab with conditions := s.stab.conditions } }.beyondSwitching = s.beyondSwitching) ∧
    (s.due s.fli.debounce = true → s.searchActive = true → s.stab.conditions.fire = false →
      s.fli.raw ≠ .normal → acceptedAs s.fli.raw ≠ s.fli.accepted →
      Completes (exec .fireDebounceExpiry s) fun t => t.gsu.state = .idle ∧ t.stab.conditions.fire = true ∧
        (∀ i, s.present i = true → t.has .fire i = true) ∧ ∀ i, t.has .search i = false)

/-! ### Start-up and loss of supply -/

/-- A start-up, by POWER_UP, SUPPLY_DIP or the end of a restart wait, leaves every volatile state at its start-up
value and every solid-state switch off, puts START on every present string with the stored holds of those PRESENT in
both records, takes each switch state from presence, SWITCH and feedback, starts the first measurement, and reports
RESTARTED first in each ring routed for it (R47, R99, R170, R179 to R181). Each record is read from its latest good
copy, a write cut short leaving the one before it (R177); a failed settings record is replaced by defaults, a failed
hold record by no stored holds, and the replacement's commit begins at once (R180), of two the settings record's first,
which is the model's choice (assumption 41), with its record as the step leaves it, which is deduced (assumption 5).
RESTARTED carries the cause and what was replaced (R181, R184), and whether the records as replaced differ about a
presence, which is deduced (assumption 27). POWER_LOSS leaves every solid-state switch off, ARRAY SAFE open, the commit
queue and the replies lost, and of the stored records only the copy being written spoilt (R155, R177, R178); the rest of
the state without supply is the model's choice (assumption 24), as is a POWER_UP that meets a part with supply
(assumption 23), and that no DAYLIGHT event is sent (assumption 31). -/
def Obligations.StartUpsAndTheLossOfSupply : Prop :=
  (∀ (s : State) (inputs : StartInputs) (c : Instr),
    (c = .powerUp inputs ∨ (s.powered = true ∧ c = .supplyDip inputs) ∨
      (s.powered = true ∧ s.restartWaitOver = true ∧ c = .restartWaitEnd inputs)) →
    Completes (exec c s) fun t =>
      let r := (s.storeAtStart inputs).read
      let store := r.settingsReplaced || r.holdsReplaced || allStrings.any fun i =>
        (r.settings.strings[i]).present && !(r.holds[i]).present
      let kept (i : StringId) : Bool := (r.settings.strings[i]).present && (r.holds[i]).present
      let stored (k : HoldKind) (i : StringId) : Bool := kept i && k.stored && (r.holds[i]).holds[k.slot]
      let fire := allStrings.any (stored .fire)
      let arc := allStrings.any (stored .arc)
      (s.cfs.writing = none →
        ReadsLatest s.cfs.settingsCopies inputs.settingsAFails inputs.settingsBFails defaultSettings t.settings
          r.settingsReplaced ∧
        ReadsLatest s.cfs.holdCopies inputs.holdsAFails inputs.holdsBFails
          (tab fun i => emptyStored (t.settings.strings[i]).present) r.holds r.holdsReplaced) ∧
      (inputs.settingsAFails = false → inputs.settingsBFails = false →
        ∀ v ∈ s.cfs.settingsCopies.latest, t.settings = v.data ∧ r.settingsReplaced = false) ∧
      (inputs.holdsAFails = false → inputs.holdsBFails = false →
        ∀ v ∈ s.cfs.holdCopies.latest, r.holds = v.data ∧ r.holdsReplaced = false) ∧
      (r.settingsReplaced = true → ∀ i : StringId, (t.settings.strings[i]).present = true ∧
        (t.settings.strings[i]).group = .none ∧ (t.settings.strings[i]).rank = 0 ∧
        (t.settings.strings[i]).range = .wide) ∧
      (r.holdsReplaced = true → ∀ i k, stored k i = false) ∧
      (r.settingsReplaced = true → t.cfs.queue.head?.map CommitEntry.record = some .settings) ∧
      (r.holdsReplaced = true → .holds ∈ t.cfs.queue.map CommitEntry.record) ∧
      t.cfs.writing = t.cfs.queue.head?.map (fun e => { startedAt := 0, image := t.image e.record }) ∧
      t.powered = true ∧ t.now = 0 ∧ t.pending = s.pending ∧ t.settings = r.settings ∧
      t.stab.conditions = { fire := fire, start := true, store := store, arc := arc } ∧
      (∀ i, t.present i = true → ∀ k, t.has k i =
        (stored k i || decide (k = .start) || (decide (k = .store) && store) || (decide (k = .fire) && fire)
          || (decide (k = .arc) && arc))) ∧
      (∀ i, t.present i = false → t.str i = emptyRecord) ∧
      (∀ i, stored .svc i = true → (t.str i).lockCode = (r.holds[i]).lockCode) ∧
      (∀ i, (t.sw i).drive = .off ∧ t.feedback i = inputs.feedbackClosed[i] ∧
        (t.present i = false → t.switchState i = .absent) ∧
        (t.present i = true → stored .switch i = true → t.switchState i = .faulted) ∧
        (t.present i = true → stored .switch i = false → inputs.feedbackClosed[i] = false →
          t.switchState i = .opened ∧ (t.sw i).dwell = .running (1000 * t.cfgNat .tDwell)) ∧
        (t.present i = true → stored .switch i = false → inputs.feedbackClosed[i] = true →
          t.switchState i ∈ [.pendingOpen, .relayOpening, .curtailWait])) ∧
      t.imon = { inFlight := some { owner := .periodic, purpose := .routine, startedAt := 0,
                                    endsAt := 1000 * t.cfgNat .tIso }
                 gap := none, last := none, lowMark := false, suppression := false } ∧
      t.seval.strings = Vector.replicate 16 emptyEval ∧
      (∀ g : Fin 4, t.seval.groups[g] = { reference := none, count := 0 }) ∧ t.gsu = idleGsu ∧
      t.mfe = { scanStart := 0, scanLength := 1000, daylight := .night, wakeCount := 0, darkRun := none,
                samples := none, capture := none, fast := inputs.fast.map fun x => min x 3200,
                below := inputs.fast.map fun x => decide (min x 3200 < t.cfgNat .iZero) } ∧
      t.handed = { seval := [], tsc := [], arcd := [] } ∧
      (∀ i : StringId, t.rcl[i] = { reclose := none, stable := none }) ∧
      t.tsc = { limit := none, total := none, overDwell := 0, victim := none, restoreMark := none,
                lastMove := none, stack := [] } ∧
      t.arcd = { window := [], ramping := [], blank := none, intervalBlank := false, latest := none } ∧
      t.sseq.slot = none ∧ t.sseq.rampList = [] ∧ t.sseq.retest = none ∧
      (let moved (i : StringId) : Prop := inputs.feedbackClosed[i] = true ∧ (t.present i = false ∨ stored .switch i = false)
       (∀ e ∈ t.sseq.queue, e.mark = .toOpen ∧ moved e.string) ∧
       (t.sseq.queue.map CoilEntry.string).Pairwise (· < ·) ∧ t.sseq.pulses.length ≤ 2 ∧
       (∀ x ∈ t.sseq.pulses, x.mark = .toOpen ∧ moved x.string ∧ t.below x.string = true ∧ x.endsAt = t.cfgNat .tCoil) ∧
       (∀ i, moved i → t.queued i = true ∨ ∃ x ∈ t.sseq.pulses, x.string = i) ∧
       (∀ i, t.queued i = true → t.below i = true →
          t.sseq.pulses.length = 2 ∧ ∀ x ∈ t.sseq.pulses, x.string < i)) ∧
      t.fli.accepted = .unknown ∧ t.fli.raw = inputs.loop ∧ t.fli.debounce = some 200 ∧ t.fli.positionsKnown = true ∧
      t.fli.retestMarks = Vector.replicate 16 false ∧
      t.ports.key = { on := false, input := inputs.keyOn, debounce := if inputs.keyOn then some 50 else none } ∧
      t.ports.restartWait = false ∧
      t.port .s = idlePort (t.cfgNat .baudS) ∧ t.port .v = idlePort (t.cfgNat .baudV) ∧ t.port .m = idlePort 115200 ∧
      (∀ p, (t.port p).outstanding = none ∧ (t.port p).ready = [] ∧ (t.port p).transmitting = none) ∧
      t.evr.lastSet = [] ∧ t.evr.lastIssue = none ∧ t.evr.holdOff = none ∧
      (∀ p, t.routed .restarted p = true → ∃ x ∈ (t.ring p).records.head?, x.kind = .restarted ∧ x.time = 0 ∧
        x.valueA = (match c with
          | .powerUp _ => 0
          | .supplyDip _ => 1
          | _ => 2) ∧
        x.valueB = BitVec.ofNat 16 ((if r.settingsReplaced then 1 else 0) + (if r.holdsReplaced then 2 else 0) +
          (if allStrings.any fun i => decide ((r.settings.strings[i]).present ≠ (r.holds[i]).present) then 4 else 0)) ∧
        x.string = none ∧ x.gap = false) ∧
      ∀ p, ∀ x ∈ (t.ring p).records, x.kind ≠ .daylight) ∧
  ∀ s : State, s.powered = true → Completes (exec .powerLoss s) fun t =>
    t.powered = false ∧ t.pending = s.pending ∧ (∀ i, (t.sw i).drive = .off) ∧ t.fli.arraySafe = false ∧
    t.sseq.curtail = false ∧ t.cfs.queue = [] ∧ t.cfs.writing = none ∧
    (∀ p, (t.port p).outstanding = none ∧ (t.port p).ready = [] ∧ (t.ring p).records = []) ∧
    (s.cfs.writing = none → t.cfs.settingsCopies = s.cfs.settingsCopies ∧ t.cfs.holdCopies = s.cfs.holdCopies) ∧
    (∀ w ∈ s.cfs.writing,
      t.cfs.settingsCopies.latest = s.cfs.settingsCopies.latest ∧ t.cfs.holdCopies.latest = s.cfs.holdCopies.latest)
end

