-- ==== Sys2Proof/Laws/State.lean ====
section
/-! SUPPORT. What each replacement of a block's state does to each field of `State`: one lemma per field per
update, and the read-over-write laws of the per-string, per-port and per-ring updates. -/

namespace Sys2Proof.Machine

/-! ### `modCfs` -/

@[simp] theorem State.modCfs_powered (f : Cfs → Cfs) (s : State) : (s.modCfs f).powered = s.powered := rfl
@[simp] theorem State.modCfs_now (f : Cfs → Cfs) (s : State) : (s.modCfs f).now = s.now := rfl
@[simp] theorem State.modCfs_settings (f : Cfs → Cfs) (s : State) : (s.modCfs f).settings = s.settings := rfl
@[simp] theorem State.modCfs_cfs (f : Cfs → Cfs) (s : State) : (s.modCfs f).cfs = f s.cfs := rfl
@[simp] theorem State.modCfs_mfe (f : Cfs → Cfs) (s : State) : (s.modCfs f).mfe = s.mfe := rfl
@[simp] theorem State.modCfs_handed (f : Cfs → Cfs) (s : State) : (s.modCfs f).handed = s.handed := rfl
@[simp] theorem State.modCfs_seval (f : Cfs → Cfs) (s : State) : (s.modCfs f).seval = s.seval := rfl
@[simp] theorem State.modCfs_stab (f : Cfs → Cfs) (s : State) : (s.modCfs f).stab = s.stab := rfl
@[simp] theorem State.modCfs_sseq (f : Cfs → Cfs) (s : State) : (s.modCfs f).sseq = s.sseq := rfl
@[simp] theorem State.modCfs_rcl (f : Cfs → Cfs) (s : State) : (s.modCfs f).rcl = s.rcl := rfl
@[simp] theorem State.modCfs_tsc (f : Cfs → Cfs) (s : State) : (s.modCfs f).tsc = s.tsc := rfl
@[simp] theorem State.modCfs_imon (f : Cfs → Cfs) (s : State) : (s.modCfs f).imon = s.imon := rfl
@[simp] theorem State.modCfs_gsu (f : Cfs → Cfs) (s : State) : (s.modCfs f).gsu = s.gsu := rfl
@[simp] theorem State.modCfs_arcd (f : Cfs → Cfs) (s : State) : (s.modCfs f).arcd = s.arcd := rfl
@[simp] theorem State.modCfs_fli (f : Cfs → Cfs) (s : State) : (s.modCfs f).fli = s.fli := rfl
@[simp] theorem State.modCfs_ports (f : Cfs → Cfs) (s : State) : (s.modCfs f).ports = s.ports := rfl
@[simp] theorem State.modCfs_evr (f : Cfs → Cfs) (s : State) : (s.modCfs f).evr = s.evr := rfl
@[simp] theorem State.modCfs_reports (f : Cfs → Cfs) (s : State) : (s.modCfs f).reports = s.reports := rfl
@[simp] theorem State.modCfs_pending (f : Cfs → Cfs) (s : State) : (s.modCfs f).pending = s.pending := rfl

/-! ### `modSettings` -/

@[simp] theorem State.modSettings_powered (f : Settings → Settings) (s : State) : (s.modSettings f).powered = s.powered := rfl
@[simp] theorem State.modSettings_now (f : Settings → Settings) (s : State) : (s.modSettings f).now = s.now := rfl
@[simp] theorem State.modSettings_settings (f : Settings → Settings) (s : State) : (s.modSettings f).settings = f s.settings := rfl
@[simp] theorem State.modSettings_cfs (f : Settings → Settings) (s : State) : (s.modSettings f).cfs = s.cfs := rfl
@[simp] theorem State.modSettings_mfe (f : Settings → Settings) (s : State) : (s.modSettings f).mfe = s.mfe := rfl
@[simp] theorem State.modSettings_handed (f : Settings → Settings) (s : State) : (s.modSettings f).handed = s.handed := rfl
@[simp] theorem State.modSettings_seval (f : Settings → Settings) (s : State) : (s.modSettings f).seval = s.seval := rfl
@[simp] theorem State.modSettings_stab (f : Settings → Settings) (s : State) : (s.modSettings f).stab = s.stab := rfl
@[simp] theorem State.modSettings_sseq (f : Settings → Settings) (s : State) : (s.modSettings f).sseq = s.sseq := rfl
@[simp] theorem State.modSettings_rcl (f : Settings → Settings) (s : State) : (s.modSettings f).rcl = s.rcl := rfl
@[simp] theorem State.modSettings_tsc (f : Settings → Settings) (s : State) : (s.modSettings f).tsc = s.tsc := rfl
@[simp] theorem State.modSettings_imon (f : Settings → Settings) (s : State) : (s.modSettings f).imon = s.imon := rfl
@[simp] theorem State.modSettings_gsu (f : Settings → Settings) (s : State) : (s.modSettings f).gsu = s.gsu := rfl
@[simp] theorem State.modSettings_arcd (f : Settings → Settings) (s : State) : (s.modSettings f).arcd = s.arcd := rfl
@[simp] theorem State.modSettings_fli (f : Settings → Settings) (s : State) : (s.modSettings f).fli = s.fli := rfl
@[simp] theorem State.modSettings_ports (f : Settings → Settings) (s : State) : (s.modSettings f).ports = s.ports := rfl
@[simp] theorem State.modSettings_evr (f : Settings → Settings) (s : State) : (s.modSettings f).evr = s.evr := rfl
@[simp] theorem State.modSettings_reports (f : Settings → Settings) (s : State) : (s.modSettings f).reports = s.reports := rfl
@[simp] theorem State.modSettings_pending (f : Settings → Settings) (s : State) : (s.modSettings f).pending = s.pending := rfl

/-! ### `modMfe` -/

@[simp] theorem State.modMfe_powered (f : Mfe → Mfe) (s : State) : (s.modMfe f).powered = s.powered := rfl
@[simp] theorem State.modMfe_now (f : Mfe → Mfe) (s : State) : (s.modMfe f).now = s.now := rfl
@[simp] theorem State.modMfe_settings (f : Mfe → Mfe) (s : State) : (s.modMfe f).settings = s.settings := rfl
@[simp] theorem State.modMfe_cfs (f : Mfe → Mfe) (s : State) : (s.modMfe f).cfs = s.cfs := rfl
@[simp] theorem State.modMfe_mfe (f : Mfe → Mfe) (s : State) : (s.modMfe f).mfe = f s.mfe := rfl
@[simp] theorem State.modMfe_handed (f : Mfe → Mfe) (s : State) : (s.modMfe f).handed = s.handed := rfl
@[simp] theorem State.modMfe_seval (f : Mfe → Mfe) (s : State) : (s.modMfe f).seval = s.seval := rfl
@[simp] theorem State.modMfe_stab (f : Mfe → Mfe) (s : State) : (s.modMfe f).stab = s.stab := rfl
@[simp] theorem State.modMfe_sseq (f : Mfe → Mfe) (s : State) : (s.modMfe f).sseq = s.sseq := rfl
@[simp] theorem State.modMfe_rcl (f : Mfe → Mfe) (s : State) : (s.modMfe f).rcl = s.rcl := rfl
@[simp] theorem State.modMfe_tsc (f : Mfe → Mfe) (s : State) : (s.modMfe f).tsc = s.tsc := rfl
@[simp] theorem State.modMfe_imon (f : Mfe → Mfe) (s : State) : (s.modMfe f).imon = s.imon := rfl
@[simp] theorem State.modMfe_gsu (f : Mfe → Mfe) (s : State) : (s.modMfe f).gsu = s.gsu := rfl
@[simp] theorem State.modMfe_arcd (f : Mfe → Mfe) (s : State) : (s.modMfe f).arcd = s.arcd := rfl
@[simp] theorem State.modMfe_fli (f : Mfe → Mfe) (s : State) : (s.modMfe f).fli = s.fli := rfl
@[simp] theorem State.modMfe_ports (f : Mfe → Mfe) (s : State) : (s.modMfe f).ports = s.ports := rfl
@[simp] theorem State.modMfe_evr (f : Mfe → Mfe) (s : State) : (s.modMfe f).evr = s.evr := rfl
@[simp] theorem State.modMfe_reports (f : Mfe → Mfe) (s : State) : (s.modMfe f).reports = s.reports := rfl
@[simp] theorem State.modMfe_pending (f : Mfe → Mfe) (s : State) : (s.modMfe f).pending = s.pending := rfl

/-! ### `modHanded` -/

@[simp] theorem State.modHanded_powered (f : Handed → Handed) (s : State) : (s.modHanded f).powered = s.powered := rfl
@[simp] theorem State.modHanded_now (f : Handed → Handed) (s : State) : (s.modHanded f).now = s.now := rfl
@[simp] theorem State.modHanded_settings (f : Handed → Handed) (s : State) : (s.modHanded f).settings = s.settings := rfl
@[simp] theorem State.modHanded_cfs (f : Handed → Handed) (s : State) : (s.modHanded f).cfs = s.cfs := rfl
@[simp] theorem State.modHanded_mfe (f : Handed → Handed) (s : State) : (s.modHanded f).mfe = s.mfe := rfl
@[simp] theorem State.modHanded_handed (f : Handed → Handed) (s : State) : (s.modHanded f).handed = f s.handed := rfl
@[simp] theorem State.modHanded_seval (f : Handed → Handed) (s : State) : (s.modHanded f).seval = s.seval := rfl
@[simp] theorem State.modHanded_stab (f : Handed → Handed) (s : State) : (s.modHanded f).stab = s.stab := rfl
@[simp] theorem State.modHanded_sseq (f : Handed → Handed) (s : State) : (s.modHanded f).sseq = s.sseq := rfl
@[simp] theorem State.modHanded_rcl (f : Handed → Handed) (s : State) : (s.modHanded f).rcl = s.rcl := rfl
@[simp] theorem State.modHanded_tsc (f : Handed → Handed) (s : State) : (s.modHanded f).tsc = s.tsc := rfl
@[simp] theorem State.modHanded_imon (f : Handed → Handed) (s : State) : (s.modHanded f).imon = s.imon := rfl
@[simp] theorem State.modHanded_gsu (f : Handed → Handed) (s : State) : (s.modHanded f).gsu = s.gsu := rfl
@[simp] theorem State.modHanded_arcd (f : Handed → Handed) (s : State) : (s.modHanded f).arcd = s.arcd := rfl
@[simp] theorem State.modHanded_fli (f : Handed → Handed) (s : State) : (s.modHanded f).fli = s.fli := rfl
@[simp] theorem State.modHanded_ports (f : Handed → Handed) (s : State) : (s.modHanded f).ports = s.ports := rfl
@[simp] theorem State.modHanded_evr (f : Handed → Handed) (s : State) : (s.modHanded f).evr = s.evr := rfl
@[simp] theorem State.modHanded_reports (f : Handed → Handed) (s : State) : (s.modHanded f).reports = s.reports := rfl
@[simp] theorem State.modHanded_pending (f : Handed → Handed) (s : State) : (s.modHanded f).pending = s.pending := rfl

/-! ### `modSeval` -/

@[simp] theorem State.modSeval_powered (f : Seval → Seval) (s : State) : (s.modSeval f).powered = s.powered := rfl
@[simp] theorem State.modSeval_now (f : Seval → Seval) (s : State) : (s.modSeval f).now = s.now := rfl
@[simp] theorem State.modSeval_settings (f : Seval → Seval) (s : State) : (s.modSeval f).settings = s.settings := rfl
@[simp] theorem State.modSeval_cfs (f : Seval → Seval) (s : State) : (s.modSeval f).cfs = s.cfs := rfl
@[simp] theorem State.modSeval_mfe (f : Seval → Seval) (s : State) : (s.modSeval f).mfe = s.mfe := rfl
@[simp] theorem State.modSeval_handed (f : Seval → Seval) (s : State) : (s.modSeval f).handed = s.handed := rfl
@[simp] theorem State.modSeval_seval (f : Seval → Seval) (s : State) : (s.modSeval f).seval = f s.seval := rfl
@[simp] theorem State.modSeval_stab (f : Seval → Seval) (s : State) : (s.modSeval f).stab = s.stab := rfl
@[simp] theorem State.modSeval_sseq (f : Seval → Seval) (s : State) : (s.modSeval f).sseq = s.sseq := rfl
@[simp] theorem State.modSeval_rcl (f : Seval → Seval) (s : State) : (s.modSeval f).rcl = s.rcl := rfl
@[simp] theorem State.modSeval_tsc (f : Seval → Seval) (s : State) : (s.modSeval f).tsc = s.tsc := rfl
@[simp] theorem State.modSeval_imon (f : Seval → Seval) (s : State) : (s.modSeval f).imon = s.imon := rfl
@[simp] theorem State.modSeval_gsu (f : Seval → Seval) (s : State) : (s.modSeval f).gsu = s.gsu := rfl
@[simp] theorem State.modSeval_arcd (f : Seval → Seval) (s : State) : (s.modSeval f).arcd = s.arcd := rfl
@[simp] theorem State.modSeval_fli (f : Seval → Seval) (s : State) : (s.modSeval f).fli = s.fli := rfl
@[simp] theorem State.modSeval_ports (f : Seval → Seval) (s : State) : (s.modSeval f).ports = s.ports := rfl
@[simp] theorem State.modSeval_evr (f : Seval → Seval) (s : State) : (s.modSeval f).evr = s.evr := rfl
@[simp] theorem State.modSeval_reports (f : Seval → Seval) (s : State) : (s.modSeval f).reports = s.reports := rfl
@[simp] theorem State.modSeval_pending (f : Seval → Seval) (s : State) : (s.modSeval f).pending = s.pending := rfl

/-! ### `modStab` -/

@[simp] theorem State.modStab_powered (f : Stab → Stab) (s : State) : (s.modStab f).powered = s.powered := rfl
@[simp] theorem State.modStab_now (f : Stab → Stab) (s : State) : (s.modStab f).now = s.now := rfl
@[simp] theorem State.modStab_settings (f : Stab → Stab) (s : State) : (s.modStab f).settings = s.settings := rfl
@[simp] theorem State.modStab_cfs (f : Stab → Stab) (s : State) : (s.modStab f).cfs = s.cfs := rfl
@[simp] theorem State.modStab_mfe (f : Stab → Stab) (s : State) : (s.modStab f).mfe = s.mfe := rfl
@[simp] theorem State.modStab_handed (f : Stab → Stab) (s : State) : (s.modStab f).handed = s.handed := rfl
@[simp] theorem State.modStab_seval (f : Stab → Stab) (s : State) : (s.modStab f).seval = s.seval := rfl
@[simp] theorem State.modStab_stab (f : Stab → Stab) (s : State) : (s.modStab f).stab = f s.stab := rfl
@[simp] theorem State.modStab_sseq (f : Stab → Stab) (s : State) : (s.modStab f).sseq = s.sseq := rfl
@[simp] theorem State.modStab_rcl (f : Stab → Stab) (s : State) : (s.modStab f).rcl = s.rcl := rfl
@[simp] theorem State.modStab_tsc (f : Stab → Stab) (s : State) : (s.modStab f).tsc = s.tsc := rfl
@[simp] theorem State.modStab_imon (f : Stab → Stab) (s : State) : (s.modStab f).imon = s.imon := rfl
@[simp] theorem State.modStab_gsu (f : Stab → Stab) (s : State) : (s.modStab f).gsu = s.gsu := rfl
@[simp] theorem State.modStab_arcd (f : Stab → Stab) (s : State) : (s.modStab f).arcd = s.arcd := rfl
@[simp] theorem State.modStab_fli (f : Stab → Stab) (s : State) : (s.modStab f).fli = s.fli := rfl
@[simp] theorem State.modStab_ports (f : Stab → Stab) (s : State) : (s.modStab f).ports = s.ports := rfl
@[simp] theorem State.modStab_evr (f : Stab → Stab) (s : State) : (s.modStab f).evr = s.evr := rfl
@[simp] theorem State.modStab_reports (f : Stab → Stab) (s : State) : (s.modStab f).reports = s.reports := rfl
@[simp] theorem State.modStab_pending (f : Stab → Stab) (s : State) : (s.modStab f).pending = s.pending := rfl

/-! ### `modSseq` -/

@[simp] theorem State.modSseq_powered (f : Sseq → Sseq) (s : State) : (s.modSseq f).powered = s.powered := rfl
@[simp] theorem State.modSseq_now (f : Sseq → Sseq) (s : State) : (s.modSseq f).now = s.now := rfl
@[simp] theorem State.modSseq_settings (f : Sseq → Sseq) (s : State) : (s.modSseq f).settings = s.settings := rfl
@[simp] theorem State.modSseq_cfs (f : Sseq → Sseq) (s : State) : (s.modSseq f).cfs = s.cfs := rfl
@[simp] theorem State.modSseq_mfe (f : Sseq → Sseq) (s : State) : (s.modSseq f).mfe = s.mfe := rfl
@[simp] theorem State.modSseq_handed (f : Sseq → Sseq) (s : State) : (s.modSseq f).handed = s.handed := rfl
@[simp] theorem State.modSseq_seval (f : Sseq → Sseq) (s : State) : (s.modSseq f).seval = s.seval := rfl
@[simp] theorem State.modSseq_stab (f : Sseq → Sseq) (s : State) : (s.modSseq f).stab = s.stab := rfl
@[simp] theorem State.modSseq_sseq (f : Sseq → Sseq) (s : State) : (s.modSseq f).sseq = f s.sseq := rfl
@[simp] theorem State.modSseq_rcl (f : Sseq → Sseq) (s : State) : (s.modSseq f).rcl = s.rcl := rfl
@[simp] theorem State.modSseq_tsc (f : Sseq → Sseq) (s : State) : (s.modSseq f).tsc = s.tsc := rfl
@[simp] theorem State.modSseq_imon (f : Sseq → Sseq) (s : State) : (s.modSseq f).imon = s.imon := rfl
@[simp] theorem State.modSseq_gsu (f : Sseq → Sseq) (s : State) : (s.modSseq f).gsu = s.gsu := rfl
@[simp] theorem State.modSseq_arcd (f : Sseq → Sseq) (s : State) : (s.modSseq f).arcd = s.arcd := rfl
@[simp] theorem State.modSseq_fli (f : Sseq → Sseq) (s : State) : (s.modSseq f).fli = s.fli := rfl
@[simp] theorem State.modSseq_ports (f : Sseq → Sseq) (s : State) : (s.modSseq f).ports = s.ports := rfl
@[simp] theorem State.modSseq_evr (f : Sseq → Sseq) (s : State) : (s.modSseq f).evr = s.evr := rfl
@[simp] theorem State.modSseq_reports (f : Sseq → Sseq) (s : State) : (s.modSseq f).reports = s.reports := rfl
@[simp] theorem State.modSseq_pending (f : Sseq → Sseq) (s : State) : (s.modSseq f).pending = s.pending := rfl

/-! ### `modTsc` -/

@[simp] theorem State.modTsc_powered (f : Tsc → Tsc) (s : State) : (s.modTsc f).powered = s.powered := rfl
@[simp] theorem State.modTsc_now (f : Tsc → Tsc) (s : State) : (s.modTsc f).now = s.now := rfl
@[simp] theorem State.modTsc_settings (f : Tsc → Tsc) (s : State) : (s.modTsc f).settings = s.settings := rfl
@[simp] theorem State.modTsc_cfs (f : Tsc → Tsc) (s : State) : (s.modTsc f).cfs = s.cfs := rfl
@[simp] theorem State.modTsc_mfe (f : Tsc → Tsc) (s : State) : (s.modTsc f).mfe = s.mfe := rfl
@[simp] theorem State.modTsc_handed (f : Tsc → Tsc) (s : State) : (s.modTsc f).handed = s.handed := rfl
@[simp] theorem State.modTsc_seval (f : Tsc → Tsc) (s : State) : (s.modTsc f).seval = s.seval := rfl
@[simp] theorem State.modTsc_stab (f : Tsc → Tsc) (s : State) : (s.modTsc f).stab = s.stab := rfl
@[simp] theorem State.modTsc_sseq (f : Tsc → Tsc) (s : State) : (s.modTsc f).sseq = s.sseq := rfl
@[simp] theorem State.modTsc_rcl (f : Tsc → Tsc) (s : State) : (s.modTsc f).rcl = s.rcl := rfl
@[simp] theorem State.modTsc_tsc (f : Tsc → Tsc) (s : State) : (s.modTsc f).tsc = f s.tsc := rfl
@[simp] theorem State.modTsc_imon (f : Tsc → Tsc) (s : State) : (s.modTsc f).imon = s.imon := rfl
@[simp] theorem State.modTsc_gsu (f : Tsc → Tsc) (s : State) : (s.modTsc f).gsu = s.gsu := rfl
@[simp] theorem State.modTsc_arcd (f : Tsc → Tsc) (s : State) : (s.modTsc f).arcd = s.arcd := rfl
@[simp] theorem State.modTsc_fli (f : Tsc → Tsc) (s : State) : (s.modTsc f).fli = s.fli := rfl
@[simp] theorem State.modTsc_ports (f : Tsc → Tsc) (s : State) : (s.modTsc f).ports = s.ports := rfl
@[simp] theorem State.modTsc_evr (f : Tsc → Tsc) (s : State) : (s.modTsc f).evr = s.evr := rfl
@[simp] theorem State.modTsc_reports (f : Tsc → Tsc) (s : State) : (s.modTsc f).reports = s.reports := rfl
@[simp] theorem State.modTsc_pending (f : Tsc → Tsc) (s : State) : (s.modTsc f).pending = s.pending := rfl

/-! ### `modImon` -/

@[simp] theorem State.modImon_powered (f : Imon → Imon) (s : State) : (s.modImon f).powered = s.powered := rfl
@[simp] theorem State.modImon_now (f : Imon → Imon) (s : State) : (s.modImon f).now = s.now := rfl
@[simp] theorem State.modImon_settings (f : Imon → Imon) (s : State) : (s.modImon f).settings = s.settings := rfl
@[simp] theorem State.modImon_cfs (f : Imon → Imon) (s : State) : (s.modImon f).cfs = s.cfs := rfl
@[simp] theorem State.modImon_mfe (f : Imon → Imon) (s : State) : (s.modImon f).mfe = s.mfe := rfl
@[simp] theorem State.modImon_handed (f : Imon → Imon) (s : State) : (s.modImon f).handed = s.handed := rfl
@[simp] theorem State.modImon_seval (f : Imon → Imon) (s : State) : (s.modImon f).seval = s.seval := rfl
@[simp] theorem State.modImon_stab (f : Imon → Imon) (s : State) : (s.modImon f).stab = s.stab := rfl
@[simp] theorem State.modImon_sseq (f : Imon → Imon) (s : State) : (s.modImon f).sseq = s.sseq := rfl
@[simp] theorem State.modImon_rcl (f : Imon → Imon) (s : State) : (s.modImon f).rcl = s.rcl := rfl
@[simp] theorem State.modImon_tsc (f : Imon → Imon) (s : State) : (s.modImon f).tsc = s.tsc := rfl
@[simp] theorem State.modImon_imon (f : Imon → Imon) (s : State) : (s.modImon f).imon = f s.imon := rfl
@[simp] theorem State.modImon_gsu (f : Imon → Imon) (s : State) : (s.modImon f).gsu = s.gsu := rfl
@[simp] theorem State.modImon_arcd (f : Imon → Imon) (s : State) : (s.modImon f).arcd = s.arcd := rfl
@[simp] theorem State.modImon_fli (f : Imon → Imon) (s : State) : (s.modImon f).fli = s.fli := rfl
@[simp] theorem State.modImon_ports (f : Imon → Imon) (s : State) : (s.modImon f).ports = s.ports := rfl
@[simp] theorem State.modImon_evr (f : Imon → Imon) (s : State) : (s.modImon f).evr = s.evr := rfl
@[simp] theorem State.modImon_reports (f : Imon → Imon) (s : State) : (s.modImon f).reports = s.reports := rfl
@[simp] theorem State.modImon_pending (f : Imon → Imon) (s : State) : (s.modImon f).pending = s.pending := rfl

/-! ### `modGsu` -/

@[simp] theorem State.modGsu_powered (f : Gsu → Gsu) (s : State) : (s.modGsu f).powered = s.powered := rfl
@[simp] theorem State.modGsu_now (f : Gsu → Gsu) (s : State) : (s.modGsu f).now = s.now := rfl
@[simp] theorem State.modGsu_settings (f : Gsu → Gsu) (s : State) : (s.modGsu f).settings = s.settings := rfl
@[simp] theorem State.modGsu_cfs (f : Gsu → Gsu) (s : State) : (s.modGsu f).cfs = s.cfs := rfl
@[simp] theorem State.modGsu_mfe (f : Gsu → Gsu) (s : State) : (s.modGsu f).mfe = s.mfe := rfl
@[simp] theorem State.modGsu_handed (f : Gsu → Gsu) (s : State) : (s.modGsu f).handed = s.handed := rfl
@[simp] theorem State.modGsu_seval (f : Gsu → Gsu) (s : State) : (s.modGsu f).seval = s.seval := rfl
@[simp] theorem State.modGsu_stab (f : Gsu → Gsu) (s : State) : (s.modGsu f).stab = s.stab := rfl
@[simp] theorem State.modGsu_sseq (f : Gsu → Gsu) (s : State) : (s.modGsu f).sseq = s.sseq := rfl
@[simp] theorem State.modGsu_rcl (f : Gsu → Gsu) (s : State) : (s.modGsu f).rcl = s.rcl := rfl
@[simp] theorem State.modGsu_tsc (f : Gsu → Gsu) (s : State) : (s.modGsu f).tsc = s.tsc := rfl
@[simp] theorem State.modGsu_imon (f : Gsu → Gsu) (s : State) : (s.modGsu f).imon = s.imon := rfl
@[simp] theorem State.modGsu_gsu (f : Gsu → Gsu) (s : State) : (s.modGsu f).gsu = f s.gsu := rfl
@[simp] theorem State.modGsu_arcd (f : Gsu → Gsu) (s : State) : (s.modGsu f).arcd = s.arcd := rfl
@[simp] theorem State.modGsu_fli (f : Gsu → Gsu) (s : State) : (s.modGsu f).fli = s.fli := rfl
@[simp] theorem State.modGsu_ports (f : Gsu → Gsu) (s : State) : (s.modGsu f).ports = s.ports := rfl
@[simp] theorem State.modGsu_evr (f : Gsu → Gsu) (s : State) : (s.modGsu f).evr = s.evr := rfl
@[simp] theorem State.modGsu_reports (f : Gsu → Gsu) (s : State) : (s.modGsu f).reports = s.reports := rfl
@[simp] theorem State.modGsu_pending (f : Gsu → Gsu) (s : State) : (s.modGsu f).pending = s.pending := rfl

/-! ### `modArcd` -/

@[simp] theorem State.modArcd_powered (f : Arcd → Arcd) (s : State) : (s.modArcd f).powered = s.powered := rfl
@[simp] theorem State.modArcd_now (f : Arcd → Arcd) (s : State) : (s.modArcd f).now = s.now := rfl
@[simp] theorem State.modArcd_settings (f : Arcd → Arcd) (s : State) : (s.modArcd f).settings = s.settings := rfl
@[simp] theorem State.modArcd_cfs (f : Arcd → Arcd) (s : State) : (s.modArcd f).cfs = s.cfs := rfl
@[simp] theorem State.modArcd_mfe (f : Arcd → Arcd) (s : State) : (s.modArcd f).mfe = s.mfe := rfl
@[simp] theorem State.modArcd_handed (f : Arcd → Arcd) (s : State) : (s.modArcd f).handed = s.handed := rfl
@[simp] theorem State.modArcd_seval (f : Arcd → Arcd) (s : State) : (s.modArcd f).seval = s.seval := rfl
@[simp] theorem State.modArcd_stab (f : Arcd → Arcd) (s : State) : (s.modArcd f).stab = s.stab := rfl
@[simp] theorem State.modArcd_sseq (f : Arcd → Arcd) (s : State) : (s.modArcd f).sseq = s.sseq := rfl
@[simp] theorem State.modArcd_rcl (f : Arcd → Arcd) (s : State) : (s.modArcd f).rcl = s.rcl := rfl
@[simp] theorem State.modArcd_tsc (f : Arcd → Arcd) (s : State) : (s.modArcd f).tsc = s.tsc := rfl
@[simp] theorem State.modArcd_imon (f : Arcd → Arcd) (s : State) : (s.modArcd f).imon = s.imon := rfl
@[simp] theorem State.modArcd_gsu (f : Arcd → Arcd) (s : State) : (s.modArcd f).gsu = s.gsu := rfl
@[simp] theorem State.modArcd_arcd (f : Arcd → Arcd) (s : State) : (s.modArcd f).arcd = f s.arcd := rfl
@[simp] theorem State.modArcd_fli (f : Arcd → Arcd) (s : State) : (s.modArcd f).fli = s.fli := rfl
@[simp] theorem State.modArcd_ports (f : Arcd → Arcd) (s : State) : (s.modArcd f).ports = s.ports := rfl
@[simp] theorem State.modArcd_evr (f : Arcd → Arcd) (s : State) : (s.modArcd f).evr = s.evr := rfl
@[simp] theorem State.modArcd_reports (f : Arcd → Arcd) (s : State) : (s.modArcd f).reports = s.reports := rfl
@[simp] theorem State.modArcd_pending (f : Arcd → Arcd) (s : State) : (s.modArcd f).pending = s.pending := rfl

/-! ### `modFli` -/

@[simp] theorem State.modFli_powered (f : Fli → Fli) (s : State) : (s.modFli f).powered = s.powered := rfl
@[simp] theorem State.modFli_now (f : Fli → Fli) (s : State) : (s.modFli f).now = s.now := rfl
@[simp] theorem State.modFli_settings (f : Fli → Fli) (s : State) : (s.modFli f).settings = s.settings := rfl
@[simp] theorem State.modFli_cfs (f : Fli → Fli) (s : State) : (s.modFli f).cfs = s.cfs := rfl
@[simp] theorem State.modFli_mfe (f : Fli → Fli) (s : State) : (s.modFli f).mfe = s.mfe := rfl
@[simp] theorem State.modFli_handed (f : Fli → Fli) (s : State) : (s.modFli f).handed = s.handed := rfl
@[simp] theorem State.modFli_seval (f : Fli → Fli) (s : State) : (s.modFli f).seval = s.seval := rfl
@[simp] theorem State.modFli_stab (f : Fli → Fli) (s : State) : (s.modFli f).stab = s.stab := rfl
@[simp] theorem State.modFli_sseq (f : Fli → Fli) (s : State) : (s.modFli f).sseq = s.sseq := rfl
@[simp] theorem State.modFli_rcl (f : Fli → Fli) (s : State) : (s.modFli f).rcl = s.rcl := rfl
@[simp] theorem State.modFli_tsc (f : Fli → Fli) (s : State) : (s.modFli f).tsc = s.tsc := rfl
@[simp] theorem State.modFli_imon (f : Fli → Fli) (s : State) : (s.modFli f).imon = s.imon := rfl
@[simp] theorem State.modFli_gsu (f : Fli → Fli) (s : State) : (s.modFli f).gsu = s.gsu := rfl
@[simp] theorem State.modFli_arcd (f : Fli → Fli) (s : State) : (s.modFli f).arcd = s.arcd := rfl
@[simp] theorem State.modFli_fli (f : Fli → Fli) (s : State) : (s.modFli f).fli = f s.fli := rfl
@[simp] theorem State.modFli_ports (f : Fli → Fli) (s : State) : (s.modFli f).ports = s.ports := rfl
@[simp] theorem State.modFli_evr (f : Fli → Fli) (s : State) : (s.modFli f).evr = s.evr := rfl
@[simp] theorem State.modFli_reports (f : Fli → Fli) (s : State) : (s.modFli f).reports = s.reports := rfl
@[simp] theorem State.modFli_pending (f : Fli → Fli) (s : State) : (s.modFli f).pending = s.pending := rfl

/-! ### `modPorts` -/

@[simp] theorem State.modPorts_powered (f : Ports → Ports) (s : State) : (s.modPorts f).powered = s.powered := rfl
@[simp] theorem State.modPorts_now (f : Ports → Ports) (s : State) : (s.modPorts f).now = s.now := rfl
@[simp] theorem State.modPorts_settings (f : Ports → Ports) (s : State) : (s.modPorts f).settings = s.settings := rfl
@[simp] theorem State.modPorts_cfs (f : Ports → Ports) (s : State) : (s.modPorts f).cfs = s.cfs := rfl
@[simp] theorem State.modPorts_mfe (f : Ports → Ports) (s : State) : (s.modPorts f).mfe = s.mfe := rfl
@[simp] theorem State.modPorts_handed (f : Ports → Ports) (s : State) : (s.modPorts f).handed = s.handed := rfl
@[simp] theorem State.modPorts_seval (f : Ports → Ports) (s : State) : (s.modPorts f).seval = s.seval := rfl
@[simp] theorem State.modPorts_stab (f : Ports → Ports) (s : State) : (s.modPorts f).stab = s.stab := rfl
@[simp] theorem State.modPorts_sseq (f : Ports → Ports) (s : State) : (s.modPorts f).sseq = s.sseq := rfl
@[simp] theorem State.modPorts_rcl (f : Ports → Ports) (s : State) : (s.modPorts f).rcl = s.rcl := rfl
@[simp] theorem State.modPorts_tsc (f : Ports → Ports) (s : State) : (s.modPorts f).tsc = s.tsc := rfl
@[simp] theorem State.modPorts_imon (f : Ports → Ports) (s : State) : (s.modPorts f).imon = s.imon := rfl
@[simp] theorem State.modPorts_gsu (f : Ports → Ports) (s : State) : (s.modPorts f).gsu = s.gsu := rfl
@[simp] theorem State.modPorts_arcd (f : Ports → Ports) (s : State) : (s.modPorts f).arcd = s.arcd := rfl
@[simp] theorem State.modPorts_fli (f : Ports → Ports) (s : State) : (s.modPorts f).fli = s.fli := rfl
@[simp] theorem State.modPorts_ports (f : Ports → Ports) (s : State) : (s.modPorts f).ports = f s.ports := rfl
@[simp] theorem State.modPorts_evr (f : Ports → Ports) (s : State) : (s.modPorts f).evr = s.evr := rfl
@[simp] theorem State.modPorts_reports (f : Ports → Ports) (s : State) : (s.modPorts f).reports = s.reports := rfl
@[simp] theorem State.modPorts_pending (f : Ports → Ports) (s : State) : (s.modPorts f).pending = s.pending := rfl

/-! ### `modEvr` -/

@[simp] theorem State.modEvr_powered (f : Evr → Evr) (s : State) : (s.modEvr f).powered = s.powered := rfl
@[simp] theorem State.modEvr_now (f : Evr → Evr) (s : State) : (s.modEvr f).now = s.now := rfl
@[simp] theorem State.modEvr_settings (f : Evr → Evr) (s : State) : (s.modEvr f).settings = s.settings := rfl
@[simp] theorem State.modEvr_cfs (f : Evr → Evr) (s : State) : (s.modEvr f).cfs = s.cfs := rfl
@[simp] theorem State.modEvr_mfe (f : Evr → Evr) (s : State) : (s.modEvr f).mfe = s.mfe := rfl
@[simp] theorem State.modEvr_handed (f : Evr → Evr) (s : State) : (s.modEvr f).handed = s.handed := rfl
@[simp] theorem State.modEvr_seval (f : Evr → Evr) (s : State) : (s.modEvr f).seval = s.seval := rfl
@[simp] theorem State.modEvr_stab (f : Evr → Evr) (s : State) : (s.modEvr f).stab = s.stab := rfl
@[simp] theorem State.modEvr_sseq (f : Evr → Evr) (s : State) : (s.modEvr f).sseq = s.sseq := rfl
@[simp] theorem State.modEvr_rcl (f : Evr → Evr) (s : State) : (s.modEvr f).rcl = s.rcl := rfl
@[simp] theorem State.modEvr_tsc (f : Evr → Evr) (s : State) : (s.modEvr f).tsc = s.tsc := rfl
@[simp] theorem State.modEvr_imon (f : Evr → Evr) (s : State) : (s.modEvr f).imon = s.imon := rfl
@[simp] theorem State.modEvr_gsu (f : Evr → Evr) (s : State) : (s.modEvr f).gsu = s.gsu := rfl
@[simp] theorem State.modEvr_arcd (f : Evr → Evr) (s : State) : (s.modEvr f).arcd = s.arcd := rfl
@[simp] theorem State.modEvr_fli (f : Evr → Evr) (s : State) : (s.modEvr f).fli = s.fli := rfl
@[simp] theorem State.modEvr_ports (f : Evr → Evr) (s : State) : (s.modEvr f).ports = s.ports := rfl
@[simp] theorem State.modEvr_evr (f : Evr → Evr) (s : State) : (s.modEvr f).evr = f s.evr := rfl
@[simp] theorem State.modEvr_reports (f : Evr → Evr) (s : State) : (s.modEvr f).reports = s.reports := rfl
@[simp] theorem State.modEvr_pending (f : Evr → Evr) (s : State) : (s.modEvr f).pending = s.pending := rfl

/-! ### `modReports` -/

@[simp] theorem State.modReports_powered (f : Bool → Bool) (s : State) : (s.modReports f).powered = s.powered := rfl
@[simp] theorem State.modReports_now (f : Bool → Bool) (s : State) : (s.modReports f).now = s.now := rfl
@[simp] theorem State.modReports_settings (f : Bool → Bool) (s : State) : (s.modReports f).settings = s.settings := rfl
@[simp] theorem State.modReports_cfs (f : Bool → Bool) (s : State) : (s.modReports f).cfs = s.cfs := rfl
@[simp] theorem State.modReports_mfe (f : Bool → Bool) (s : State) : (s.modReports f).mfe = s.mfe := rfl
@[simp] theorem State.modReports_handed (f : Bool → Bool) (s : State) : (s.modReports f).handed = s.handed := rfl
@[simp] theorem State.modReports_seval (f : Bool → Bool) (s : State) : (s.modReports f).seval = s.seval := rfl
@[simp] theorem State.modReports_stab (f : Bool → Bool) (s : State) : (s.modReports f).stab = s.stab := rfl
@[simp] theorem State.modReports_sseq (f : Bool → Bool) (s : State) : (s.modReports f).sseq = s.sseq := rfl
@[simp] theorem State.modReports_rcl (f : Bool → Bool) (s : State) : (s.modReports f).rcl = s.rcl := rfl
@[simp] theorem State.modReports_tsc (f : Bool → Bool) (s : State) : (s.modReports f).tsc = s.tsc := rfl
@[simp] theorem State.modReports_imon (f : Bool → Bool) (s : State) : (s.modReports f).imon = s.imon := rfl
@[simp] theorem State.modReports_gsu (f : Bool → Bool) (s : State) : (s.modReports f).gsu = s.gsu := rfl
@[simp] theorem State.modReports_arcd (f : Bool → Bool) (s : State) : (s.modReports f).arcd = s.arcd := rfl
@[simp] theorem State.modReports_fli (f : Bool → Bool) (s : State) : (s.modReports f).fli = s.fli := rfl
@[simp] theorem State.modReports_ports (f : Bool → Bool) (s : State) : (s.modReports f).ports = s.ports := rfl
@[simp] theorem State.modReports_evr (f : Bool → Bool) (s : State) : (s.modReports f).evr = s.evr := rfl
@[simp] theorem State.modReports_reports (f : Bool → Bool) (s : State) : (s.modReports f).reports = f s.reports := rfl
@[simp] theorem State.modReports_pending (f : Bool → Bool) (s : State) : (s.modReports f).pending = s.pending := rfl

/-! ### `modRcl` -/

@[simp] theorem State.modRcl_powered (i : StringId) (f : RecloseTimers → RecloseTimers) (s : State) :
    (s.modRcl i f).powered = s.powered := rfl
@[simp] theorem State.modRcl_now (i : StringId) (f : RecloseTimers → RecloseTimers) (s : State) :
    (s.modRcl i f).now = s.now := rfl
@[simp] theorem State.modRcl_settings (i : StringId) (f : RecloseTimers → RecloseTimers) (s : State) :
    (s.modRcl i f).settings = s.settings := rfl
@[simp] theorem State.modRcl_cfs (i : StringId) (f : RecloseTimers → RecloseTimers) (s : State) :
    (s.modRcl i f).cfs = s.cfs := rfl
@[simp] theorem State.modRcl_mfe (i : StringId) (f : RecloseTimers → RecloseTimers) (s : State) :
    (s.modRcl i f).mfe = s.mfe := rfl
@[simp] theorem State.modRcl_handed (i : StringId) (f : RecloseTimers → RecloseTimers) (s : State) :
    (s.modRcl i f).handed = s.handed := rfl
@[simp] theorem State.modRcl_seval (i : StringId) (f : RecloseTimers → RecloseTimers) (s : State) :
    (s.modRcl i f).seval = s.seval := rfl
@[simp] theorem State.modRcl_stab (i : StringId) (f : RecloseTimers → RecloseTimers) (s : State) :
    (s.modRcl i f).stab = s.stab := rfl
@[simp] theorem State.modRcl_sseq (i : StringId) (f : RecloseTimers → RecloseTimers) (s : State) :
    (s.modRcl i f).sseq = s.sseq := rfl
@[simp] theorem State.modRcl_rcl (i : StringId) (f : RecloseTimers → RecloseTimers) (s : State) :
    (s.modRcl i f).rcl = s.rcl.set i (f s.rcl[i]) := rfl
@[simp] theorem State.modRcl_tsc (i : StringId) (f : RecloseTimers → RecloseTimers) (s : State) :
    (s.modRcl i f).tsc = s.tsc := rfl
@[simp] theorem State.modRcl_imon (i : StringId) (f : RecloseTimers → RecloseTimers) (s : State) :
    (s.modRcl i f).imon = s.imon := rfl
@[simp] theorem State.modRcl_gsu (i : StringId) (f : RecloseTimers → RecloseTimers) (s : State) :
    (s.modRcl i f).gsu = s.gsu := rfl
@[simp] theorem State.modRcl_arcd (i : StringId) (f : RecloseTimers → RecloseTimers) (s : State) :
    (s.modRcl i f).arcd = s.arcd := rfl
@[simp] theorem State.modRcl_fli (i : StringId) (f : RecloseTimers → RecloseTimers) (s : State) :
    (s.modRcl i f).fli = s.fli := rfl
@[simp] theorem State.modRcl_ports (i : StringId) (f : RecloseTimers → RecloseTimers) (s : State) :
    (s.modRcl i f).ports = s.ports := rfl
@[simp] theorem State.modRcl_evr (i : StringId) (f : RecloseTimers → RecloseTimers) (s : State) :
    (s.modRcl i f).evr = s.evr := rfl
@[simp] theorem State.modRcl_reports (i : StringId) (f : RecloseTimers → RecloseTimers) (s : State) :
    (s.modRcl i f).reports = s.reports := rfl
@[simp] theorem State.modRcl_pending (i : StringId) (f : RecloseTimers → RecloseTimers) (s : State) :
    (s.modRcl i f).pending = s.pending := rfl

/-! ### `modString` -/

@[simp] theorem State.modString_powered (i : StringId) (f : StringRecord → StringRecord) (s : State) :
    (s.modString i f).powered = s.powered := rfl
@[simp] theorem State.modString_now (i : StringId) (f : StringRecord → StringRecord) (s : State) :
    (s.modString i f).now = s.now := rfl
@[simp] theorem State.modString_settings (i : StringId) (f : StringRecord → StringRecord) (s : State) :
    (s.modString i f).settings = s.settings := rfl
@[simp] theorem State.modString_cfs (i : StringId) (f : StringRecord → StringRecord) (s : State) :
    (s.modString i f).cfs = s.cfs := rfl
@[simp] theorem State.modString_mfe (i : StringId) (f : StringRecord → StringRecord) (s : State) :
    (s.modString i f).mfe = s.mfe := rfl
@[simp] theorem State.modString_handed (i : StringId) (f : StringRecord → StringRecord) (s : State) :
    (s.modString i f).handed = s.handed := rfl
@[simp] theorem State.modString_seval (i : StringId) (f : StringRecord → StringRecord) (s : State) :
    (s.modString i f).seval = s.seval := rfl
@[simp] theorem State.modString_stab (i : StringId) (f : StringRecord → StringRecord) (s : State) :
    (s.modString i f).stab = { s.stab with strings := s.stab.strings.set i (f s.stab.strings[i]) } := rfl
@[simp] theorem State.modString_sseq (i : StringId) (f : StringRecord → StringRecord) (s : State) :
    (s.modString i f).sseq = s.sseq := rfl
@[simp] theorem State.modString_rcl (i : StringId) (f : StringRecord → StringRecord) (s : State) :
    (s.modString i f).rcl = s.rcl := rfl
@[simp] theorem State.modString_tsc (i : StringId) (f : StringRecord → StringRecord) (s : State) :
    (s.modString i f).tsc = s.tsc := rfl
@[simp] theorem State.modString_imon (i : StringId) (f : StringRecord → StringRecord) (s : State) :
    (s.modString i f).imon = s.imon := rfl
@[simp] theorem State.modString_gsu (i : StringId) (f : StringRecord → StringRecord) (s : State) :
    (s.modString i f).gsu = s.gsu := rfl
@[simp] theorem State.modString_arcd (i : StringId) (f : StringRecord → StringRecord) (s : State) :
    (s.modString i f).arcd = s.arcd := rfl
@[simp] theorem State.modString_fli (i : StringId) (f : StringRecord → StringRecord) (s : State) :
    (s.modString i f).fli = s.fli := rfl
@[simp] theorem State.modString_ports (i : StringId) (f : StringRecord → StringRecord) (s : State) :
    (s.modString i f).ports = s.ports := rfl
@[simp] theorem State.modString_evr (i : StringId) (f : StringRecord → StringRecord) (s : State) :
    (s.modString i f).evr = s.evr := rfl
@[simp] theorem State.modString_reports (i : StringId) (f : StringRecord → StringRecord) (s : State) :
    (s.modString i f).reports = s.reports := rfl
@[simp] theorem State.modString_pending (i : StringId) (f : StringRecord → StringRecord) (s : State) :
    (s.modString i f).pending = s.pending := rfl

/-! ### `modStringSettings` -/

@[simp] theorem State.modStringSettings_powered (i : StringId) (f : StringSettings → StringSettings) (s : State) :
    (s.modStringSettings i f).powered = s.powered := rfl
@[simp] theorem State.modStringSettings_now (i : StringId) (f : StringSettings → StringSettings) (s : State) :
    (s.modStringSettings i f).now = s.now := rfl
@[simp] theorem State.modStringSettings_settings (i : StringId) (f : StringSettings → StringSettings) (s : State) :
    (s.modStringSettings i f).settings = { s.settings with strings := s.settings.strings.set i (f s.settings.strings[i]) } := rfl
@[simp] theorem State.modStringSettings_cfs (i : StringId) (f : StringSettings → StringSettings) (s : State) :
    (s.modStringSettings i f).cfs = s.cfs := rfl
@[simp] theorem State.modStringSettings_mfe (i : StringId) (f : StringSettings → StringSettings) (s : State) :
    (s.modStringSettings i f).mfe = s.mfe := rfl
@[simp] theorem State.modStringSettings_handed (i : StringId) (f : StringSettings → StringSettings) (s : State) :
    (s.modStringSettings i f).handed = s.handed := rfl
@[simp] theorem State.modStringSettings_seval (i : StringId) (f : StringSettings → StringSettings) (s : State) :
    (s.modStringSettings i f).seval = s.seval := rfl
@[simp] theorem State.modStringSettings_stab (i : StringId) (f : StringSettings → StringSettings) (s : State) :
    (s.modStringSettings i f).stab = s.stab := rfl
@[simp] theorem State.modStringSettings_sseq (i : StringId) (f : StringSettings → StringSettings) (s : State) :
    (s.modStringSettings i f).sseq = s.sseq := rfl
@[simp] theorem State.modStringSettings_rcl (i : StringId) (f : StringSettings → StringSettings) (s : State) :
    (s.modStringSettings i f).rcl = s.rcl := rfl
@[simp] theorem State.modStringSettings_tsc (i : StringId) (f : StringSettings → StringSettings) (s : State) :
    (s.modStringSettings i f).tsc = s.tsc := rfl
@[simp] theorem State.modStringSettings_imon (i : StringId) (f : StringSettings → StringSettings) (s : State) :
    (s.modStringSettings i f).imon = s.imon := rfl
@[simp] theorem State.modStringSettings_gsu (i : StringId) (f : StringSettings → StringSettings) (s : State) :
    (s.modStringSettings i f).gsu = s.gsu := rfl
@[simp] theorem State.modStringSettings_arcd (i : StringId) (f : StringSettings → StringSettings) (s : State) :
    (s.modStringSettings i f).arcd = s.arcd := rfl
@[simp] theorem State.modStringSettings_fli (i : StringId) (f : StringSettings → StringSettings) (s : State) :
    (s.modStringSettings i f).fli = s.fli := rfl
@[simp] theorem State.modStringSettings_ports (i : StringId) (f : StringSettings → StringSettings) (s : State) :
    (s.modStringSettings i f).ports = s.ports := rfl
@[simp] theorem State.modStringSettings_evr (i : StringId) (f : StringSettings → StringSettings) (s : State) :
    (s.modStringSettings i f).evr = s.evr := rfl
@[simp] theorem State.modStringSettings_reports (i : StringId) (f : StringSettings → StringSettings) (s : State) :
    (s.modStringSettings i f).reports = s.reports := rfl
@[simp] theorem State.modStringSettings_pending (i : StringId) (f : StringSettings → StringSettings) (s : State) :
    (s.modStringSettings i f).pending = s.pending := rfl

/-! ### `modSwitch` -/

@[simp] theorem State.modSwitch_powered (i : StringId) (f : Switch → Switch) (s : State) :
    (s.modSwitch i f).powered = s.powered := rfl
@[simp] theorem State.modSwitch_now (i : StringId) (f : Switch → Switch) (s : State) :
    (s.modSwitch i f).now = s.now := rfl
@[simp] theorem State.modSwitch_settings (i : StringId) (f : Switch → Switch) (s : State) :
    (s.modSwitch i f).settings = s.settings := rfl
@[simp] theorem State.modSwitch_cfs (i : StringId) (f : Switch → Switch) (s : State) :
    (s.modSwitch i f).cfs = s.cfs := rfl
@[simp] theorem State.modSwitch_mfe (i : StringId) (f : Switch → Switch) (s : State) :
    (s.modSwitch i f).mfe = s.mfe := rfl
@[simp] theorem State.modSwitch_handed (i : StringId) (f : Switch → Switch) (s : State) :
    (s.modSwitch i f).handed = s.handed := rfl
@[simp] theorem State.modSwitch_seval (i : StringId) (f : Switch → Switch) (s : State) :
    (s.modSwitch i f).seval = s.seval := rfl
@[simp] theorem State.modSwitch_stab (i : StringId) (f : Switch → Switch) (s : State) :
    (s.modSwitch i f).stab = s.stab := rfl
@[simp] theorem State.modSwitch_sseq (i : StringId) (f : Switch → Switch) (s : State) :
    (s.modSwitch i f).sseq = { s.sseq with switches := s.sseq.switches.set i (f s.sseq.switches[i]) } := rfl
@[simp] theorem State.modSwitch_rcl (i : StringId) (f : Switch → Switch) (s : State) :
    (s.modSwitch i f).rcl = s.rcl := rfl
@[simp] theorem State.modSwitch_tsc (i : StringId) (f : Switch → Switch) (s : State) :
    (s.modSwitch i f).tsc = s.tsc := rfl
@[simp] theorem State.modSwitch_imon (i : StringId) (f : Switch → Switch) (s : State) :
    (s.modSwitch i f).imon = s.imon := rfl
@[simp] theorem State.modSwitch_gsu (i : StringId) (f : Switch → Switch) (s : State) :
    (s.modSwitch i f).gsu = s.gsu := rfl
@[simp] theorem State.modSwitch_arcd (i : StringId) (f : Switch → Switch) (s : State) :
    (s.modSwitch i f).arcd = s.arcd := rfl
@[simp] theorem State.modSwitch_fli (i : StringId) (f : Switch → Switch) (s : State) :
    (s.modSwitch i f).fli = s.fli := rfl
@[simp] theorem State.modSwitch_ports (i : StringId) (f : Switch → Switch) (s : State) :
    (s.modSwitch i f).ports = s.ports := rfl
@[simp] theorem State.modSwitch_evr (i : StringId) (f : Switch → Switch) (s : State) :
    (s.modSwitch i f).evr = s.evr := rfl
@[simp] theorem State.modSwitch_reports (i : StringId) (f : Switch → Switch) (s : State) :
    (s.modSwitch i f).reports = s.reports := rfl
@[simp] theorem State.modSwitch_pending (i : StringId) (f : Switch → Switch) (s : State) :
    (s.modSwitch i f).pending = s.pending := rfl

/-! ### `modEval` -/

@[simp] theorem State.modEval_powered (i : StringId) (f : EvalString → EvalString) (s : State) :
    (s.modEval i f).powered = s.powered := rfl
@[simp] theorem State.modEval_now (i : StringId) (f : EvalString → EvalString) (s : State) :
    (s.modEval i f).now = s.now := rfl
@[simp] theorem State.modEval_settings (i : StringId) (f : EvalString → EvalString) (s : State) :
    (s.modEval i f).settings = s.settings := rfl
@[simp] theorem State.modEval_cfs (i : StringId) (f : EvalString → EvalString) (s : State) :
    (s.modEval i f).cfs = s.cfs := rfl
@[simp] theorem State.modEval_mfe (i : StringId) (f : EvalString → EvalString) (s : State) :
    (s.modEval i f).mfe = s.mfe := rfl
@[simp] theorem State.modEval_handed (i : StringId) (f : EvalString → EvalString) (s : State) :
    (s.modEval i f).handed = s.handed := rfl
@[simp] theorem State.modEval_seval (i : StringId) (f : EvalString → EvalString) (s : State) :
    (s.modEval i f).seval = { s.seval with strings := s.seval.strings.set i (f s.seval.strings[i]) } := rfl
@[simp] theorem State.modEval_stab (i : StringId) (f : EvalString → EvalString) (s : State) :
    (s.modEval i f).stab = s.stab := rfl
@[simp] theorem State.modEval_sseq (i : StringId) (f : EvalString → EvalString) (s : State) :
    (s.modEval i f).sseq = s.sseq := rfl
@[simp] theorem State.modEval_rcl (i : StringId) (f : EvalString → EvalString) (s : State) :
    (s.modEval i f).rcl = s.rcl := rfl
@[simp] theorem State.modEval_tsc (i : StringId) (f : EvalString → EvalString) (s : State) :
    (s.modEval i f).tsc = s.tsc := rfl
@[simp] theorem State.modEval_imon (i : StringId) (f : EvalString → EvalString) (s : State) :
    (s.modEval i f).imon = s.imon := rfl
@[simp] theorem State.modEval_gsu (i : StringId) (f : EvalString → EvalString) (s : State) :
    (s.modEval i f).gsu = s.gsu := rfl
@[simp] theorem State.modEval_arcd (i : StringId) (f : EvalString → EvalString) (s : State) :
    (s.modEval i f).arcd = s.arcd := rfl
@[simp] theorem State.modEval_fli (i : StringId) (f : EvalString → EvalString) (s : State) :
    (s.modEval i f).fli = s.fli := rfl
@[simp] theorem State.modEval_ports (i : StringId) (f : EvalString → EvalString) (s : State) :
    (s.modEval i f).ports = s.ports := rfl
@[simp] theorem State.modEval_evr (i : StringId) (f : EvalString → EvalString) (s : State) :
    (s.modEval i f).evr = s.evr := rfl
@[simp] theorem State.modEval_reports (i : StringId) (f : EvalString → EvalString) (s : State) :
    (s.modEval i f).reports = s.reports := rfl
@[simp] theorem State.modEval_pending (i : StringId) (f : EvalString → EvalString) (s : State) :
    (s.modEval i f).pending = s.pending := rfl

/-! ### `modPort` -/

@[simp] theorem State.modPort_powered (p : Port) (f : PortState → PortState) (s : State) :
    (s.modPort p f).powered = s.powered := rfl
@[simp] theorem State.modPort_now (p : Port) (f : PortState → PortState) (s : State) :
    (s.modPort p f).now = s.now := rfl
@[simp] theorem State.modPort_settings (p : Port) (f : PortState → PortState) (s : State) :
    (s.modPort p f).settings = s.settings := rfl
@[simp] theorem State.modPort_cfs (p : Port) (f : PortState → PortState) (s : State) :
    (s.modPort p f).cfs = s.cfs := rfl
@[simp] theorem State.modPort_mfe (p : Port) (f : PortState → PortState) (s : State) :
    (s.modPort p f).mfe = s.mfe := rfl
@[simp] theorem State.modPort_handed (p : Port) (f : PortState → PortState) (s : State) :
    (s.modPort p f).handed = s.handed := rfl
@[simp] theorem State.modPort_seval (p : Port) (f : PortState → PortState) (s : State) :
    (s.modPort p f).seval = s.seval := rfl
@[simp] theorem State.modPort_stab (p : Port) (f : PortState → PortState) (s : State) :
    (s.modPort p f).stab = s.stab := rfl
@[simp] theorem State.modPort_sseq (p : Port) (f : PortState → PortState) (s : State) :
    (s.modPort p f).sseq = s.sseq := rfl
@[simp] theorem State.modPort_rcl (p : Port) (f : PortState → PortState) (s : State) :
    (s.modPort p f).rcl = s.rcl := rfl
@[simp] theorem State.modPort_tsc (p : Port) (f : PortState → PortState) (s : State) :
    (s.modPort p f).tsc = s.tsc := rfl
@[simp] theorem State.modPort_imon (p : Port) (f : PortState → PortState) (s : State) :
    (s.modPort p f).imon = s.imon := rfl
@[simp] theorem State.modPort_gsu (p : Port) (f : PortState → PortState) (s : State) :
    (s.modPort p f).gsu = s.gsu := rfl
@[simp] theorem State.modPort_arcd (p : Port) (f : PortState → PortState) (s : State) :
    (s.modPort p f).arcd = s.arcd := rfl
@[simp] theorem State.modPort_fli (p : Port) (f : PortState → PortState) (s : State) :
    (s.modPort p f).fli = s.fli := rfl
@[simp] theorem State.modPort_ports (p : Port) (f : PortState → PortState) (s : State) :
    (s.modPort p f).ports = { s.ports with port := s.ports.port.put p (f (s.ports.port.get p)) } := rfl
@[simp] theorem State.modPort_evr (p : Port) (f : PortState → PortState) (s : State) :
    (s.modPort p f).evr = s.evr := rfl
@[simp] theorem State.modPort_reports (p : Port) (f : PortState → PortState) (s : State) :
    (s.modPort p f).reports = s.reports := rfl
@[simp] theorem State.modPort_pending (p : Port) (f : PortState → PortState) (s : State) :
    (s.modPort p f).pending = s.pending := rfl

/-! ### `modRing` -/

@[simp] theorem State.modRing_powered (p : Port) (f : Ring → Ring) (s : State) :
    (s.modRing p f).powered = s.powered := rfl
@[simp] theorem State.modRing_now (p : Port) (f : Ring → Ring) (s : State) :
    (s.modRing p f).now = s.now := rfl
@[simp] theorem State.modRing_settings (p : Port) (f : Ring → Ring) (s : State) :
    (s.modRing p f).settings = s.settings := rfl
@[simp] theorem State.modRing_cfs (p : Port) (f : Ring → Ring) (s : State) :
    (s.modRing p f).cfs = s.cfs := rfl
@[simp] theorem State.modRing_mfe (p : Port) (f : Ring → Ring) (s : State) :
    (s.modRing p f).mfe = s.mfe := rfl
@[simp] theorem State.modRing_handed (p : Port) (f : Ring → Ring) (s : State) :
    (s.modRing p f).handed = s.handed := rfl
@[simp] theorem State.modRing_seval (p : Port) (f : Ring → Ring) (s : State) :
    (s.modRing p f).seval = s.seval := rfl
@[simp] theorem State.modRing_stab (p : Port) (f : Ring → Ring) (s : State) :
    (s.modRing p f).stab = s.stab := rfl
@[simp] theorem State.modRing_sseq (p : Port) (f : Ring → Ring) (s : State) :
    (s.modRing p f).sseq = s.sseq := rfl
@[simp] theorem State.modRing_rcl (p : Port) (f : Ring → Ring) (s : State) :
    (s.modRing p f).rcl = s.rcl := rfl
@[simp] theorem State.modRing_tsc (p : Port) (f : Ring → Ring) (s : State) :
    (s.modRing p f).tsc = s.tsc := rfl
@[simp] theorem State.modRing_imon (p : Port) (f : Ring → Ring) (s : State) :
    (s.modRing p f).imon = s.imon := rfl
@[simp] theorem State.modRing_gsu (p : Port) (f : Ring → Ring) (s : State) :
    (s.modRing p f).gsu = s.gsu := rfl
@[simp] theorem State.modRing_arcd (p : Port) (f : Ring → Ring) (s : State) :
    (s.modRing p f).arcd = s.arcd := rfl
@[simp] theorem State.modRing_fli (p : Port) (f : Ring → Ring) (s : State) :
    (s.modRing p f).fli = s.fli := rfl
@[simp] theorem State.modRing_ports (p : Port) (f : Ring → Ring) (s : State) :
    (s.modRing p f).ports = s.ports := rfl
@[simp] theorem State.modRing_evr (p : Port) (f : Ring → Ring) (s : State) :
    (s.modRing p f).evr = { s.evr with ring := s.evr.ring.put p (f (s.evr.ring.get p)) } := rfl
@[simp] theorem State.modRing_reports (p : Port) (f : Ring → Ring) (s : State) :
    (s.modRing p f).reports = s.reports := rfl
@[simp] theorem State.modRing_pending (p : Port) (f : Ring → Ring) (s : State) :
    (s.modRing p f).pending = s.pending := rfl

/-! ### Reading over writing -/

/-- One string's record after an update of one string's record. -/
theorem State.str_modString (i j : StringId) (f : StringRecord → StringRecord) (s : State) :
    (s.modString i f).str j = if j = i then f (s.str i) else s.str j := by
  by_cases h : j = i
  · subst h; simp [State.str]
  · have : i.val ≠ j.val := fun e => h (Fin.ext e.symm)
    simp [State.str, h, this]

/-- One string's sequencer state after an update of one string's. -/
theorem State.sw_modSwitch (i j : StringId) (f : Switch → Switch) (s : State) :
    (s.modSwitch i f).sw j = if j = i then f (s.sw i) else s.sw j := by
  by_cases h : j = i
  · subst h; simp [State.sw]
  · have : i.val ≠ j.val := fun e => h (Fin.ext e.symm)
    simp [State.sw, h, this]

/-- One string's evaluator state after an update of one string's. -/
theorem State.eval_modEval (i j : StringId) (f : EvalString → EvalString) (s : State) :
    (s.modEval i f).eval j = if j = i then f (s.eval i) else s.eval j := by
  by_cases h : j = i
  · subst h; simp [State.eval]
  · have : i.val ≠ j.val := fun e => h (Fin.ext e.symm)
    simp [State.eval, h, this]

/-- One string's settings after an update of one string's. -/
theorem State.strSet_modStringSettings (i j : StringId) (f : StringSettings → StringSettings) (s : State) :
    (s.modStringSettings i f).strSet j = if j = i then f (s.strSet i) else s.strSet j := by
  by_cases h : j = i
  · subst h; simp [State.strSet]
  · have : i.val ≠ j.val := fun e => h (Fin.ext e.symm)
    simp [State.strSet, h, this]

/-- One string's reclose timers after an update of one string's. -/
theorem State.rcl_modRcl (i j : StringId) (f : RecloseTimers → RecloseTimers) (s : State) :
    (s.modRcl i f).rcl[j] = if j = i then f s.rcl[i] else s.rcl[j] := by
  by_cases h : j = i
  · subst h; simp
  · have : i.val ≠ j.val := fun e => h (Fin.ext e.symm)
    simp [h, this]

/-- A triple of ports read at one port after a put. -/
theorem PerPort.get_put {α : Type} (t : PerPort α) (p q : Port) (x : α) :
    (t.put p x).get q = if q = p then x else t.get q := by
  cases p <;> cases q <;> rfl

/-- One port after an update of one port. -/
theorem State.port_modPort (p q : Port) (f : PortState → PortState) (s : State) :
    (s.modPort p f).port q = if q = p then f (s.port p) else s.port q := by
  simp [State.port, PerPort.get_put]

/-- One ring after an update of one ring. -/
theorem State.ring_modRing (p q : Port) (f : Ring → Ring) (s : State) :
    (s.modRing p f).ring q = if q = p then f (s.ring p) else s.ring q := by
  simp [State.ring, PerPort.get_put]

end Sys2Proof.Machine
end

