-- ==== Sys2Proof/Laws/Events.lean ====
section
/-! SUPPORT. What the Event Router, the ports and the Configuration Store do to a state, once for each shared
operation. -/

namespace Sys2Proof.Machine

/-! ### Rings (R171 to R175) -/

/-- A push keeps a ring within 32 records (R173). -/
theorem Ring.push_length (r : Ring) (e : EventRecord) (h : r.records.length ≤ 32) :
    (r.push e).records.length ≤ 32 := by
  unfold Ring.push ringSize
  split <;> simp <;> omega

/-- The record pushed is the newest, but for its gap flag, which says whether the ring was full (R173). -/
theorem Ring.push_newest (r : Ring) (e : EventRecord) :
    (r.push e).records.getLast? = some { e with gap := decide (32 ≤ r.records.length) } := by
  unfold Ring.push ringSize
  split
  · next h => simp; omega
  · next h => simp; omega

/-- A fetch keeps a ring within 32 records. -/
theorem Ring.fetch_length (r : Ring) (n : Nat) (h : r.records.length ≤ 32) :
    (r.fetch n).2.records.length ≤ 32 := by
  simp [Ring.fetch]; omega

/-- One ring after a copy joins a ring. -/
theorem State.ring_joinRing (p q : Port) (e : EventRecord) (s : State) :
    (s.joinRing p e).ring q =
      if q = p then { (s.ring p).push e with
        delay := (s.ring p).delay.onJoin s.now (s.cfgNat (coalesceOf p)) } else s.ring q := by
  simp [State.joinRing, State.ring_modRing]

/-- A copy joining a ring changes the rings alone. -/
theorem State.joinRing_eq (p : Port) (e : EventRecord) (s : State) :
    ∃ r, s.joinRing p e = { s with evr := { s.evr with ring := r } } := ⟨_, rfl⟩

/-- A record taken up by the router changes the rings alone. -/
theorem State.route_eq (e : EventRecord) (s : State) :
    ∃ r, s.route e = { s with evr := { s.evr with ring := r } } := by
  simp only [State.route]
  by_cases a : s.routed e.kind .s = true <;> by_cases b : s.routed e.kind .v = true <;>
    by_cases c : s.routed e.kind .m = true <;>
    simp [State.routed, State.joinRing, State.modRing, State.modEvr] at a b c ⊢ <;>
    simp [a, b, c] <;> exact ⟨_, rfl⟩

/-- An event handed over changes the rings alone. -/
theorem State.emitAt_eq (time : Uptime) (k : EventKind) (i : Option StringId) (a b : Int) (s : State) :
    ∃ r, s.emitAt time k i a b = { s with evr := { s.evr with ring := r } } := State.route_eq _ s

/-- An event handed over now changes the rings alone. -/
theorem State.emit_eq (k : EventKind) (i : Option StringId) (a b : Int) (s : State) :
    ∃ r, s.emit k i a b = { s with evr := { s.evr with ring := r } } := State.route_eq _ s

/-- The comparison of the CLOSED strings changes the Event Router alone (R176). -/
theorem State.connectedCheck_eq (s : State) : ∃ e, s.connectedCheck = { s with evr := e } := by
  unfold State.connectedCheck State.issueConnected
  split
  · exact ⟨_, rfl⟩
  · split
    · obtain ⟨r, h⟩ := State.emit_eq .connectedSet none (setBits s.closedSet) s.closedSet.length s
      simp only []
      rw [h]
      exact ⟨_, rfl⟩
    · split <;> exact ⟨_, rfl⟩

/-- Each ring after a record is taken up: a ring that the routing table names gains the copy (R171, R172). -/
theorem State.ring_route (p : Port) (e : EventRecord) (s : State) :
    (s.route e).ring p = if s.routed e.kind p then { (s.ring p).push e with
      delay := (s.ring p).delay.onJoin s.now (s.cfgNat (coalesceOf p)) } else s.ring p := by
  have key : ∀ (q : Port) (t : State), t.settings = s.settings → t.now = s.now →
      (if t.routed e.kind q then t.joinRing q e else t).settings = s.settings ∧
      (if t.routed e.kind q then t.joinRing q e else t).now = s.now ∧
      ∀ o, (if t.routed e.kind q then t.joinRing q e else t).ring o =
        if o = q ∧ s.routed e.kind q = true then { (t.ring q).push e with
          delay := (t.ring q).delay.onJoin s.now (s.cfgNat (coalesceOf q)) } else t.ring o := by
    intro q t hs hn
    have hr : t.routed e.kind q = s.routed e.kind q := by simp [State.routed, hs]
    have hc : t.cfgNat (coalesceOf q) = s.cfgNat (coalesceOf q) := by simp [State.cfgNat, State.cfg, hs]
    rw [hr]
    by_cases h : s.routed e.kind q = true
    · simp [h, State.ring_joinRing, hn, hc]
      exact ⟨hs, hn⟩
    · simp [h, hs, hn]
  obtain ⟨s1, n1, r1⟩ := key .s s rfl rfl
  obtain ⟨s2, n2, r2⟩ := key .v _ s1 n1
  obtain ⟨-, -, r3⟩ := key .m _ s2 n2
  have : (s.route e).ring p = _ := r3 p
  rw [this]
  cases p <;> simp [r1, r2]

/-- Every ring keeps its bound through a record taken up (R173). -/
theorem State.route_bounded (e : EventRecord) (s : State) (h : ∀ p, (s.ring p).records.length ≤ 32) (p : Port) :
    ((s.route e).ring p).records.length ≤ 32 := by
  rw [State.ring_route]
  split
  · exact Ring.push_length _ _ (h p)
  · exact h p

/-! ### Replies (R161, R163) -/

/-- A reply becomes ready at the end of its port's list, and nothing else changes. -/
theorem State.port_reply (p q : Port) (code : Byte) (r : Result) (body : List Byte) (s : State) :
    (s.reply p code r body).port q = if q = p then { (s.port p) with
      ready := (s.port p).ready ++ [{ address := s.unitAddress p, code := code ||| 0x80, result := r,
                                      status := s.statusByte p, body := body }] } else s.port q := by
  simp [State.reply, State.port_modPort]

/-- A reply changes the ports alone. -/
theorem State.reply_eq (p : Port) (code : Byte) (r : Result) (body : List Byte) (s : State) :
    ∃ t, s.reply p code r body = { s with ports := { s.ports with port := t } } := ⟨_, rfl⟩

/-- The end of an outstanding request changes the ports alone. -/
theorem State.endOutstanding_eq (p : Port) (r : Result) (body : List Byte) (s : State) :
    ∃ t, s.endOutstanding p r body = { s with ports := { s.ports with port := t } } := by
  unfold State.endOutstanding
  split <;> exact ⟨_, rfl⟩

/-- The end of a capture's or a retest's request changes the ports alone. -/
theorem State.endUnitWait_eq (w : Wait) (s : State) :
    ∃ t, s.endUnitWait w = { s with ports := { s.ports with port := t } } := by
  unfold State.endUnitWait
  split
  · split
    · exact State.endOutstanding_eq _ _ _ _
    · exact ⟨_, rfl⟩
  · exact ⟨_, rfl⟩

/-- The end of a wait for commits changes the ports alone. -/
theorem State.endCommitWait_eq (p : Port) (s : State) :
    ∃ t, s.endCommitWait p = { s with ports := { s.ports with port := t } } := by
  unfold State.endCommitWait
  split
  · exact State.endOutstanding_eq _ _ _ _
  · exact ⟨_, rfl⟩

/-! ### Commits (R178) -/

/-- Asking for a commit changes the commit queue alone. -/
theorem State.askCommit_eq (r : StoreRecord) (w : List Port) (s : State) :
    ∃ q, s.askCommit r w = { s with cfs := { s.cfs with queue := q } } := ⟨_, rfl⟩

/-- A commit asked for has an entry that every waiter given waits on. -/
theorem joinCommit_waits (r : StoreRecord) (w : List Port) (es : List CommitEntry) :
    ∃ e ∈ joinCommit r w es, e.record = r ∧ ∀ p ∈ w, p ∈ e.waiters := by
  induction es with
  | nil => exact ⟨_, List.mem_cons_self, rfl, fun p hp => hp⟩
  | cons e es ih =>
    unfold joinCommit
    split
    · next h => exact ⟨_, List.mem_cons_self, h, fun p hp => by simp [hp]⟩
    · obtain ⟨x, hx, h⟩ := ih
      exact ⟨x, List.mem_cons_of_mem _ hx, h⟩

/-- The records of the entries after a joining: those before, and the one asked for if it was not there. -/
theorem joinCommit_records (r : StoreRecord) (w : List Port) (es : List CommitEntry) :
    (joinCommit r w es).map CommitEntry.record =
      if r ∈ es.map CommitEntry.record then es.map CommitEntry.record
      else es.map CommitEntry.record ++ [r] := by
  induction es with
  | nil => rfl
  | cons e es ih =>
    unfold joinCommit
    by_cases h : e.record = r
    · simp [h]
    · have h' : ¬r = e.record := fun x => h x.symm
      simp only [h, if_false, List.map_cons, ih, List.mem_cons, h', false_or]
      split <;> simp

/-- Beginning a write changes the write in progress alone. -/
theorem State.beginWrite_eq (s : State) :
    ∃ w, s.beginWrite = { s with cfs := { s.cfs with writing := w } } := by
  unfold State.beginWrite
  split <;> exact ⟨_, rfl⟩

/-! ### Holds (R42 to R46) -/

/-- An addition changes one string's record, the commit queue and the reports alone. -/
theorem State.putHold_eq (h : Hold) (i : StringId) (s : State) :
    ∃ r q x, s.putHold h i = { s with
      stab := { s.stab with strings := r }, cfs := { s.cfs with queue := q }, reports := x } := by
  unfold State.putHold
  split
  · exact ⟨_, _, _, rfl⟩
  · split
    · split <;> exact ⟨_, _, _, rfl⟩
    · cases h <;> exact ⟨_, _, _, rfl⟩

/-- Every string's record after an addition of a hold it does not carry. -/
theorem State.str_putHold (h : Hold) (i j : StringId) (s : State) (hp : s.present i = true)
    (hn : s.has h.kind i = false) :
    (s.putHold h i).str j = if j = i then (s.str i).put h else s.str j := by
  unfold State.putHold
  rw [if_neg (by simp [hp]), if_neg (by simp [hn])]
  have e : ∀ t : State, t.stab = (s.modString i fun r => r.put h).stab →
      t.str j = if j = i then (s.str i).put h else s.str j := by
    intro t ht
    rw [← State.str_modString i j (fun r => r.put h) s]
    simp only [State.str, ht]
  cases h <;> exact e _ rfl

/-- A removal of a kind that a string does not carry changes nothing (R43). -/
theorem State.takeHold_none (k : HoldKind) (i : StringId) (s : State) (h : s.has k i = false) :
    s.takeHold k i = s := by
  simp [State.takeHold, h]

/-- A record gains exactly the kind put into it. -/
theorem StringRecord.put_holds (r : StringRecord) (h : Hold) : (r.put h).holds = r.holds.set h.kind.slot true := by
  cases h <;> rfl

/-- A record loses exactly the kind taken from it. -/
theorem StringRecord.take_holds (r : StringRecord) (k : HoldKind) : (r.take k).holds = r.holds.set k.slot false := by
  cases k <;> rfl

end Sys2Proof.Machine
end

