-- ==== Sys2Proof/Laws/Switching.lean ====
section
/-! SUPPORT. The operations that move strings leave all the rest of the state alone: one lemma for each, that the
state beyond switching is as before. -/

namespace Sys2Proof.Machine

/-! ### The replacements -/

theorem State.modSwitch_beyond (i : StringId) (f : Switch → Switch) (s : State) :
    (s.modSwitch i f).beyondSwitching = s.beyondSwitching := rfl

/-- A change of the sequencer that keeps the feedback readings. -/
theorem State.modSseq_beyond (f : Sseq → Sseq) (s : State) (h : (f s.sseq).feedback = s.sseq.feedback) :
    (s.modSseq f).beyondSwitching = s.beyondSwitching := by
  simp [State.beyondSwitching, h]

theorem State.modString_beyond (i : StringId) (f : StringRecord → StringRecord) (s : State) :
    (s.modString i f).beyondSwitching = s.beyondSwitching := rfl

theorem State.modPort_beyond (p : Port) (f : PortState → PortState) (s : State) :
    (s.modPort p f).beyondSwitching = s.beyondSwitching := rfl

theorem State.modEvr_beyond (f : Evr → Evr) (s : State) : (s.modEvr f).beyondSwitching = s.beyondSwitching := rfl

theorem State.modReports_beyond (f : Bool → Bool) (s : State) :
    (s.modReports f).beyondSwitching = s.beyondSwitching := rfl

/-! ### Events, replies and commits -/

theorem State.emitAt_beyond (time : Uptime) (k : EventKind) (i : Option StringId) (a b : Int) (s : State) :
    (s.emitAt time k i a b).beyondSwitching = s.beyondSwitching := by
  obtain ⟨r, h⟩ := State.emitAt_eq time k i a b s
  rw [h]; rfl

theorem State.emit_beyond (k : EventKind) (i : Option StringId) (a b : Int) (s : State) :
    (s.emit k i a b).beyondSwitching = s.beyondSwitching := State.emitAt_beyond _ k i a b s

theorem State.reply_beyond (p : Port) (code : Byte) (r : Result) (body : List Byte) (s : State) :
    (s.reply p code r body).beyondSwitching = s.beyondSwitching := rfl

theorem State.endUnitWait_beyond (w : Wait) (s : State) :
    (s.endUnitWait w).beyondSwitching = s.beyondSwitching := by
  obtain ⟨t, h⟩ := State.endUnitWait_eq w s
  rw [h]; rfl

theorem State.askCommit_beyond (r : StoreRecord) (w : List Port) (s : State) :
    (s.askCommit r w).beyondSwitching = s.beyondSwitching := rfl

theorem State.beginWrite_beyond (s : State) : s.beginWrite.beyondSwitching = s.beyondSwitching := by
  obtain ⟨w, h⟩ := State.beginWrite_eq s
  rw [h]; rfl

theorem State.startWait_beyond (p : Port) (code : Byte) (w : Wait) (s : State) :
    (s.startWait p code w).beyondSwitching = s.beyondSwitching := rfl

/-! ### The String Table -/

theorem State.putHold_beyond (h : Hold) (i : StringId) (s : State) :
    (s.putHold h i).beyondSwitching = s.beyondSwitching := by
  obtain ⟨r, q, x, e⟩ := State.putHold_eq h i s
  rw [e]; rfl

theorem State.abandonCapture_beyond (i : StringId) (s : State) :
    (s.abandonCapture i).beyondSwitching = s.beyondSwitching := by
  unfold State.abandonCapture
  split
  · split
    · rw [State.endUnitWait_beyond]; rfl
    · rfl
  · rfl

/-- A removal of a kind whose removal is reported to no timer or stack. -/
theorem State.takeHold_beyond (k : HoldKind) (i : StringId) (s : State)
    (h : k ≠ .thermal ∧ k ≠ .overcurrent) :
    (s.takeHold k i).beyondSwitching = s.beyondSwitching := by
  unfold State.takeHold
  split
  · rfl
  · cases k <;> simp at h <;> first | rfl | exact State.abandonCapture_beyond _ _

theorem State.workArraySafe_beyond (s : State) : s.workArraySafe.beyondSwitching = s.beyondSwitching := by
  unfold State.workArraySafe
  simp only []
  split
  · rfl
  · rw [State.emit_beyond]; rfl

theorem State.freezeArrival_beyond (i : StringId) (s : State) :
    (s.freezeArrival i).beyondSwitching = s.beyondSwitching := by
  unfold State.freezeArrival
  split <;> rfl

/-! ### Reports -/

/-- A vector is unchanged under a map by a replacement that the map does not see. -/
theorem map_set_of_eq {α β : Type} (v : Vector α 16) (i : StringId) (f : α → α) (g : α → β)
    (h : ∀ x, g (f x) = g x) : (v.set i (f v[i])).map g = v.map g := by
  ext j hj
  by_cases e : i.val = j
  · subst e; simp [h]
  · simp [e]

theorem State.modEval_beyond (i : StringId) (f : EvalString → EvalString) (s : State)
    (h : ∀ e, ({ f e with reverseDwell := 0, overDwell := 0, mark := false } : EvalString) =
      { e with reverseDwell := 0, overDwell := 0, mark := false }) :
    (s.modEval i f).beyondSwitching = s.beyondSwitching := by
  simp only [State.beyondSwitching, State.modEval_seval, State.modEval_cfs, State.modEval_mfe, State.modEval_stab,
    State.modEval_sseq, State.modEval_rcl, State.modEval_tsc, State.modEval_gsu, State.modEval_arcd,
    State.modEval_fli, State.modEval_ports]
  rw [map_set_of_eq _ i f _ h]
  rfl

theorem State.modRcl_beyond (i : StringId) (f : RecloseTimers → RecloseTimers) (s : State)
    (h : ∀ r, ({ f r with stable := none } : RecloseTimers) = { r with stable := none }) :
    (s.modRcl i f).beyondSwitching = s.beyondSwitching := by
  simp only [State.beyondSwitching, State.modRcl_seval, State.modRcl_cfs, State.modRcl_mfe, State.modRcl_stab,
    State.modRcl_sseq, State.modRcl_rcl, State.modRcl_tsc, State.modRcl_gsu, State.modRcl_arcd,
    State.modRcl_fli, State.modRcl_ports]
  rw [map_set_of_eq _ i f _ h]
  rfl

theorem State.reportEnteredClosed_beyond (i : StringId) (s : State) :
    (s.reportEnteredClosed i).beyondSwitching = s.beyondSwitching := by
  have h := State.modRcl_beyond i (fun t => { t with stable := some (s.after (60000 * s.cfgNat .tStable)) }) s
    fun _ => rfl
  exact h

theorem State.reportLeftClosed_beyond (i : StringId) (s : State) :
    (s.reportLeftClosed i).beyondSwitching = s.beyondSwitching := by
  have h := State.modRcl_beyond i (fun t => { t with stable := none }) (s.modEval i EvalString.leftClosed)
    fun _ => rfl
  exact Eq.trans h (State.modEval_beyond i EvalString.leftClosed s fun _ => rfl)

theorem State.connectedCheck_beyond (s : State) : s.connectedCheck.beyondSwitching = s.beyondSwitching := by
  obtain ⟨e, h⟩ := State.connectedCheck_eq s
  rw [h]; rfl

/-- The reports of a change of switch state, with the change made (R76). -/
theorem State.report_beyond (i : StringId) (old new : SwitchState) (s : State) :
    (s.report i old new).beyondSwitching = s.beyondSwitching := by
  unfold State.report
  simp only []
  rw [State.noteStates, State.modReports_beyond]
  have h (c : Prop) [Decidable c] (t u : State) (ht : t.beyondSwitching = s.beyondSwitching)
      (hu : u.beyondSwitching = s.beyondSwitching) : (if c then t else u).beyondSwitching = s.beyondSwitching := by
    split <;> assumption
  have step (c : Prop) [Decidable c] (t : State) (f : State → State) (hf : ∀ t, (f t).beyondSwitching = t.beyondSwitching)
      (ht : t.beyondSwitching = s.beyondSwitching) : (if c then f t else t).beyondSwitching = s.beyondSwitching :=
    h c _ _ ((hf t).trans ht) ht
  refine step _ _ State.connectedCheck State.connectedCheck_beyond ?_
  refine step _ _ (State.freezeArrival i) (State.freezeArrival_beyond i) ?_
  refine step _ _ (State.modTsc _) (fun _ => rfl) ?_
  refine step _ _ (State.reportEnteredClosed i) (State.reportEnteredClosed_beyond i) ?_
  refine step _ _ (State.reportLeftClosed i) (State.reportLeftClosed_beyond i) ?_
  refine step _ _ (State.modArcd _) (fun _ => rfl) ?_
  refine step _ _ (State.modArcd _) (fun _ => rfl) ?_
  exact step _ s (State.modArcd _) (fun _ => rfl) rfl

theorem State.enter_beyond (i : StringId) (new : SwitchState) (timer : Option Nat) (s : State) :
    (s.enter i new timer).beyondSwitching = s.beyondSwitching :=
  State.report_beyond i _ new _

theorem State.checkCapture_beyond (s : State) : s.checkCapture.beyondSwitching = s.beyondSwitching := by
  unfold State.checkCapture
  split
  · split
    · rfl
    · exact State.abandonCapture_beyond _ s
  · rfl

theorem State.takeReports_beyond (s : State) : s.takeReports.beyondSwitching = s.beyondSwitching := by
  unfold State.takeReports
  split
  · rw [State.checkCapture_beyond, State.workArraySafe_beyond, State.modReports_beyond]
  · rfl

/-! ### The Switch Sequencer -/

theorem State.joinQueue_beyond (i : StringId) (m : Mark) (s : State) :
    (s.joinQueue i m).beyondSwitching = s.beyondSwitching := by
  unfold State.joinQueue
  split <;> rfl

theorem State.becomeFaulted_beyond (i : StringId) (kind : FaultKind) (s : State) :
    (s.becomeFaulted i kind).beyondSwitching = s.beyondSwitching := by
  unfold State.becomeFaulted
  rw [State.emit_beyond, State.takeReports_beyond, State.putHold_beyond, State.enter_beyond]
  rfl

theorem State.replaceFault_beyond (i : StringId) (kind : FaultKind) (s : State) :
    (s.replaceFault i kind).beyondSwitching = s.beyondSwitching := by
  unfold State.replaceFault
  rw [State.emit_beyond, State.takeReports_beyond, State.putHold_beyond]

theorem State.enterCurtailWait_beyond (i : StringId) (s : State) :
    (s.enterCurtailWait i).beyondSwitching = s.beyondSwitching := by
  unfold State.enterCurtailWait
  rw [State.emit_beyond, State.enter_beyond]
  rfl

theorem State.pendingOpenQ_beyond (i : StringId) (s : State) :
    (s.pendingOpenQ i).beyondSwitching = s.beyondSwitching := by
  unfold State.pendingOpenQ
  simp only []
  split
  · rw [State.joinQueue_beyond, State.enter_beyond]
  · rw [State.enterCurtailWait_beyond, State.joinQueue_beyond, State.enter_beyond]

theorem State.interruptQ_beyond (i : StringId) (s : State) :
    (s.interruptQ i).beyondSwitching = s.beyondSwitching := by
  unfold State.interruptQ
  simp only []
  split
  · rw [State.pendingOpenQ_beyond, State.enter_beyond]; rfl
  · rw [State.enter_beyond]; rfl

theorem State.pendingCloseQ_beyond (i : StringId) (s : State) :
    (s.pendingCloseQ i).beyondSwitching = s.beyondSwitching := by
  unfold State.pendingCloseQ
  simp only []
  rw [State.modSwitch_beyond, State.enter_beyond]

theorem State.joinIfReadyQ_beyond (i : StringId) (s : State) :
    (s.joinIfReadyQ i).beyondSwitching = s.beyondSwitching := by
  unfold State.joinIfReadyQ
  split
  · exact State.joinQueue_beyond _ _ _
  · rfl

theorem State.startRamp_beyond (i : StringId) (s : State) :
    (s.startRamp i).beyondSwitching = s.beyondSwitching := by
  unfold State.startRamp
  simp only []
  rw [State.enter_beyond]
  rfl

theorem State.rampStarts_beyond (n : Nat) (s : State) :
    (State.rampStarts n s).beyondSwitching = s.beyondSwitching := by
  induction n generalizing s with
  | zero => rfl
  | succ n ih =>
    unfold State.rampStarts
    split
    · rfl
    · split
      · rw [ih, State.startRamp_beyond]
      · rfl

theorem State.acceptClosedQ_beyond (i : StringId) (s : State) :
    (s.acceptClosedQ i).beyondSwitching = s.beyondSwitching := by
  unfold State.acceptClosedQ State.rampTest
  split
  · rw [State.rampStarts_beyond, State.modSseq_beyond, State.enter_beyond]; rfl
  · exact State.pendingOpenQ_beyond i s

theorem State.acceptOpenQ_beyond (i : StringId) (s : State) :
    (s.acceptOpenQ i).beyondSwitching = s.beyondSwitching := by
  unfold State.acceptOpenQ
  simp only []
  split
  · rw [State.pendingCloseQ_beyond, State.takeReports_beyond, State.enter_beyond, State.emit_beyond]; rfl
  · rw [State.takeReports_beyond, State.enter_beyond, State.emit_beyond]; rfl

theorem State.retestStepQ_beyond (i : StringId) (step : RetestStep) (s : State) :
    (s.retestStepQ i step).beyondSwitching = s.beyondSwitching := by
  unfold State.retestStepQ
  simp only []
  rw [State.joinQueue_beyond]
  rfl

theorem State.startDwell_beyond (i : StringId) (s : State) : (s.startDwell i).beyondSwitching = s.beyondSwitching := rfl

theorem State.leaveQueue_beyond (i : StringId) (s : State) : (s.leaveQueue i).beyondSwitching = s.beyondSwitching := rfl

theorem State.endRetest_beyond (i : StringId) (s : State) : (s.endRetest i).beyondSwitching = s.beyondSwitching := rfl

theorem State.retestSucceedsQ_beyond (i : StringId) (s : State) :
    (s.retestSucceedsQ i).beyondSwitching = s.beyondSwitching := by
  have h1 : ((((s.takeHold .switch i).endRetest i).startDwell i).enter i .opened none).takeReports.beyondSwitching
      = s.beyondSwitching := by
    rw [State.takeReports_beyond, State.enter_beyond, State.startDwell_beyond, State.endRetest_beyond,
      State.takeHold_beyond .switch i s (by decide)]
  unfold State.retestSucceedsQ
  simp only []
  split <;> split <;> simp only [State.pendingCloseQ_beyond, State.askCommit_beyond, State.startWait_beyond, h1]

theorem State.retestPassesQ_beyond (i : StringId) (step : RetestStep) (s : State) :
    (s.retestPassesQ i step).beyondSwitching = s.beyondSwitching := by
  cases step
  · exact State.retestStepQ_beyond i _ s
  · exact State.retestStepQ_beyond i _ s
  · exact State.retestSucceedsQ_beyond i s

theorem State.retestFails_beyond (i : StringId) (kind : FaultKind) (s : State) :
    (s.retestFails i kind).beyondSwitching = s.beyondSwitching := by
  unfold State.retestFails
  simp only []
  rw [State.endUnitWait_beyond, State.takeReports_beyond, State.endRetest_beyond, State.replaceFault_beyond,
    State.leaveQueue_beyond]

theorem State.grant_beyond (e : CoilEntry) (s : State) : (s.grant e).beyondSwitching = s.beyondSwitching := by
  unfold State.grant
  simp only []
  split
  · split
    · rw [State.acceptClosedQ_beyond, State.enter_beyond]; rfl
    · rw [State.enter_beyond]; rfl
  · split
    · rw [State.enter_beyond]; rfl
    · rw [State.acceptOpenQ_beyond, State.enter_beyond]; rfl
  · rfl
  · split
    · split
      · rw [State.retestPassesQ_beyond]; rfl
      · rfl
    · rfl
  · rfl

theorem State.grants_beyond (n : Nat) (s : State) : (State.grants n s).beyondSwitching = s.beyondSwitching := by
  induction n generalizing s with
  | zero => rfl
  | succ n ih =>
    unfold State.grants
    split
    · split
      · rw [ih, State.grant_beyond]
      · rfl
    · rfl

/-- The Coil Arbiter leaves all but the switching of strings alone (R93). -/
theorem State.arbiter_beyond (s : State) : s.arbiter.beyondSwitching = s.beyondSwitching :=
  State.grants_beyond _ s

/-- A crossing that is delivered moves strings and nothing else (R86, R87, R89, R93). -/
theorem State.cross_beyond (i : StringId) (s : State) : (s.cross i).beyondSwitching = s.beyondSwitching := by
  unfold State.cross State.fellBelow State.reachedIZero
  split
  · split <;> first
      | rw [State.arbiter_beyond, State.pendingOpenQ_beyond]
      | (split <;> first | exact State.arbiter_beyond _ | rfl)
  · split
    · exact State.enterCurtailWait_beyond _ _
    · rfl

theorem State.targetTurnsOpen_beyond (i : StringId) (s : State) :
    (s.targetTurnsOpen i).beyondSwitching = s.beyondSwitching := by
  unfold State.targetTurnsOpen
  split
  · rw [State.enter_beyond]; rfl
  · rw [State.arbiter_beyond, State.pendingOpenQ_beyond]; rfl
  · rw [State.arbiter_beyond, State.interruptQ_beyond]
  · rw [State.arbiter_beyond, State.interruptQ_beyond]
  · rfl

theorem State.targetTurnsClosed_beyond (i : StringId) (s : State) :
    (s.targetTurnsClosed i).beyondSwitching = s.beyondSwitching := by
  unfold State.targetTurnsClosed
  split
  · rw [State.arbiter_beyond, State.joinIfReadyQ_beyond, State.pendingCloseQ_beyond]
  · rfl

/-! ### Additions and removals -/

theorem State.addHold_beyond (h : Hold) (i : StringId) (s : State) :
    (s.addHold h i).beyondSwitching = s.beyondSwitching := by
  unfold State.addHold
  simp only []
  split
  · rw [State.targetTurnsOpen_beyond, State.putHold_beyond]
  · exact State.putHold_beyond h i s

theorem State.removeHold_beyond (k : HoldKind) (i : StringId) (s : State)
    (h : k ≠ .thermal ∧ k ≠ .overcurrent) :
    (s.removeHold k i).beyondSwitching = s.beyondSwitching := by
  unfold State.removeHold
  simp only []
  split
  · rw [State.targetTurnsClosed_beyond, State.takeHold_beyond k i s h]
  · exact State.takeHold_beyond k i s h

/-- What one application of an operation keeps, its application to each string of a list keeps. -/
theorem forStrings_keeps {α : Type} (g : State → α) (f : StringId → State → State)
    (h : ∀ i s, g (f i s) = g s) (xs : List StringId) (s : State) : g (forStrings f xs s) = g s := by
  induction xs generalizing s with
  | nil => rfl
  | cons i xs ih => exact (ih (f i s)).trans (h i s)

theorem State.addHolds_beyond (h : Hold) (xs : List StringId) (s : State) :
    (s.addHolds h xs).beyondSwitching = s.beyondSwitching :=
  forStrings_keeps State.beyondSwitching (State.addHold h) (State.addHold_beyond h) xs s

theorem State.removeHolds_beyond (k : HoldKind) (xs : List StringId) (s : State)
    (h : k ≠ .thermal ∧ k ≠ .overcurrent) :
    (s.removeHolds k xs).beyondSwitching = s.beyondSwitching :=
  forStrings_keeps State.beyondSwitching (State.removeHold k) (fun i t => State.removeHold_beyond k i t h) xs s

end Sys2Proof.Machine
end

