-- ==== Sys2Proof/Laws/Sequencer.lean ====
section
/-! SUPPORT. What the Switch Sequencer's small operations do to the strings, the coil queue and the feedback. -/

namespace Sys2Proof.Machine

/-- The arrival of a string in OPEN under a search changes its record alone (R128). -/
theorem State.freezeArrival_eq (i : StringId) (s : State) :
    ∃ r, s.freezeArrival i = { s with stab := { s.stab with strings := r } } := by
  unfold State.freezeArrival
  split <;> exact ⟨_, rfl⟩

/-- The reports of a change of switch state leave the sequencer as it is (R76). -/
theorem State.report_sseq (i : StringId) (old new : SwitchState) (s : State) :
    (s.report i old new).sseq = s.sseq := by
  have step (c : Prop) [Decidable c] (t : State) (f : State → State) (hf : ∀ t, (f t).sseq = t.sseq)
      (ht : t.sseq = s.sseq) : (if c then f t else t).sseq = s.sseq := by
    split
    · exact (hf t).trans ht
    · exact ht
  unfold State.report State.noteStates
  simp only [State.modReports_sseq]
  refine step _ _ State.connectedCheck (fun t => ?_) ?_
  · obtain ⟨e, h⟩ := State.connectedCheck_eq t
    rw [h]
  refine step _ _ (State.freezeArrival i) (fun t => ?_) ?_
  · obtain ⟨r, h⟩ := State.freezeArrival_eq i t
    rw [h]
  refine step _ _ (State.modTsc _) (fun _ => rfl) ?_
  refine step _ _ (State.reportEnteredClosed i) (fun _ => rfl) ?_
  refine step _ _ (State.reportLeftClosed i) (fun _ => rfl) ?_
  refine step _ _ (State.modArcd _) (fun _ => rfl) ?_
  refine step _ _ (State.modArcd _) (fun _ => rfl) ?_
  exact step _ s (State.modArcd _) (fun _ => rfl) rfl

/-- The sequencer after a string enters a state: the string's state and timer, and the CURTAIL line (R88). -/
theorem State.enter_sseq (i : StringId) (new : SwitchState) (timer : Option Nat) (s : State) :
    (s.enter i new timer).sseq =
      let q := (s.modSwitch i fun w => { w with state := new, timer := timer }).sseq
      { q with curtail := allStrings.any fun j => decide ((q.switches[j]).state = .curtailWait) } :=
  State.report_sseq i _ new _

/-- Every string's switch after one enters a state. -/
theorem State.sw_enter (i j : StringId) (new : SwitchState) (timer : Option Nat) (s : State) :
    (s.enter i new timer).sw j = if j = i then { s.sw i with state := new, timer := timer } else s.sw j := by
  have h : (s.enter i new timer).sw j =
      (s.modSwitch i fun w => { w with state := new, timer := timer }).sw j := by
    simp only [State.sw, State.enter_sseq]
  rw [h, State.sw_modSwitch]

/-- A string that enters a state changes no feedback reading. -/
theorem State.feedback_enter (i j : StringId) (new : SwitchState) (timer : Option Nat) (s : State) :
    (s.enter i new timer).feedback j = s.feedback j := by
  simp only [State.feedback, State.enter_sseq]
  rfl

/-- A string that enters a state changes no entry of the coil queue, no pulse and no place in the ramp list. -/
theorem State.queue_enter (i : StringId) (new : SwitchState) (timer : Option Nat) (s : State) :
    (s.enter i new timer).sseq.queue = s.sseq.queue ∧ (s.enter i new timer).sseq.pulses = s.sseq.pulses ∧
    (s.enter i new timer).sseq.rampList = s.sseq.rampList := by
  rw [State.enter_sseq]
  exact ⟨rfl, rfl, rfl⟩

/-- A joining of the coil queue gives no string two entries (R92). -/
theorem State.joinQueue_nodup (i : StringId) (m : Mark) (s : State)
    (h : (s.sseq.queue.map CoilEntry.string).Nodup) :
    ((s.joinQueue i m).sseq.queue.map CoilEntry.string).Nodup := by
  unfold State.joinQueue State.queued
  split
  · exact h
  · next hn =>
    have : i ∉ s.sseq.queue.map CoilEntry.string := by
      intro hi
      obtain ⟨e, he, rfl⟩ := List.mem_map.1 hi
      exact hn (by simpa using ⟨e, he, rfl⟩)
    simp only [State.modSseq_sseq, List.map_append, List.map_cons, List.map_nil]
    exact List.Nodup.append h (by simp) (by simpa using this)

/-- After a leaving of the coil queue the string has no entry, and the others keep theirs (R92). -/
theorem State.mem_leaveQueue (i : StringId) (e : CoilEntry) (s : State) :
    e ∈ (s.leaveQueue i).sseq.queue ↔ e ∈ s.sseq.queue ∧ e.string ≠ i := by
  simp [State.leaveQueue]

/-- A grant candidate stands in the queue and is grantable (R93). -/
theorem State.nextGrant_mem (s : State) (e : CoilEntry) (h : s.nextGrant = some e) :
    e ∈ s.sseq.queue ∧ s.grantable e = true := by
  unfold State.nextGrant at h
  split at h
  · next x hx =>
    cases h
    exact ⟨List.mem_of_find?_eq_some hx, by have := List.find?_some hx; simp at this; exact this.2⟩
  · exact ⟨List.mem_of_find?_eq_some h, by have := List.find?_some h; simp at this; exact this.2⟩

end Sys2Proof.Machine
end

