-- ==== Sys2Proof/Tests/Slice0.lean ====
section
/-! SUPPORT. The author's own tests: ill-formed commands that `Instr.wf` refuses, the worked examples of
spec/, one-step tests, and for each statement with hypotheses a state and operands that meet them. -/

namespace Sys2Proof.Tests

open Sys2Proof Sys2Proof.Machine

set_option maxRecDepth 20000

/-! ### Well-formedness: each check refuses an ill-formed command -/

theorem test_wf_refuses_oversized_payload : (Instr.status .s (List.replicate 121 0)).wf = false := by decide
theorem test_wf_refuses_known_code : (Instr.unknownRequestCode .s 5 []).wf = false := by decide
theorem test_wf_refuses_short_frame : (Instr.frameDropped .s [1, 2, 3]).wf = false := by decide
theorem test_wf_refuses_start_byte_address : (Instr.frameDropped .m [0xA5, 1, 3, 0, 0]).wf = false := by decide
theorem test_wf_refuses_other_kind :
    (Instr.acknowledgeReverse .s [2]).wf = false ∧ (Instr.acknowledgeGround .s [1]).wf = false ∧
    (Instr.acknowledgeArc .s [8]).wf = false ∧ (Instr.acknowledgeOvercurrent .s [4]).wf = false ∧
    (Instr.acknowledgeStore .m [8]).wf = false := by decide
theorem test_wf_refuses_other_presence :
    (Instr.setPresenceAbsent .m [1, 1]).wf = false ∧ (Instr.setPresencePresent .m [1, 0]).wf = false := by decide
theorem test_wf_refuses_port_m_baud : (Instr.baudRateApplied .m).wf = false := by decide
theorem test_wf_refuses_no_bytes : (Instr.partialFrameGivenUp .s []).wf = false := by decide

/-! ### Worked examples of spec/ -/

/-- Section 1.3: 767, and −1179 that a NARROW channel clips to −800. -/
theorem test_conversion_examples :
    (convertChannel { offset := 1200, gain := 420, range := .wide, group := .none, rank := 0, present := true }
      { raw := 1915000, overRange := false, sideVoltage := 0 }) =
        { current := 767, clipped := false, sideVoltage := 0 } ∧
    (convertChannel { offset := 1200, gain := 30000, range := .narrow, group := .none, rank := 0, present := true }
      { raw := BitVec.ofInt 24 (-40000), overRange := false, sideVoltage := 16001 }) =
        { current := -800, clipped := true, sideVoltage := 16000 } := by decide

/-- Section 1.4: 78.0 °C and −2.4 °C. -/
theorem test_temperature_examples :
    250 + roundDiv ((444860 - 412000) * 10) 620 = 780 ∧ 250 + roundDiv ((395000 - 412000) * 10) 620 = -24 := by decide

/-- Section 2.7: the references 798 and 801, and the deficits 496 and 498. -/
theorem test_reference_and_deficit_examples :
    referenceOf 50 (sortAscending [812, 798, 805, 402, 790]) = some 798 ∧
    referenceOf 50 (sortAscending [812, 798, 805, 790]) = some 801 ∧
    deficitOf 798 402 = 496 ∧ deficitOf 801 402 = 498 ∧ deficitOf 798 812 = 0 := by decide

/-- Section 5.5: the derated limit at 78.0 °C is 10 880. -/
theorem test_derated_limit_example : deratedLimit 16000 700 950 780 = 10880 := by decide

/-- R102: the waits of attempts 1 to 3 with t_base 30 s, and the bound of t_base × 32. -/
theorem test_reclose_waits :
    recloseWait 30 1 = 30000 ∧ recloseWait 30 3 = 120000 ∧ recloseWait 30 15 = 960000 := by decide

/-- R182: the CRC of the digits 1 to 9 under this polynomial, initial value and bit order (general knowledge). -/
theorem test_crc : crc16 [0x31, 0x32, 0x33, 0x34, 0x35, 0x36, 0x37, 0x38, 0x39] = 0x29B1 := by decide

/-! ### Small states -/

/-- The next state a command answers. -/
def nextOf (c : Instr) (s : State) : Option State :=
  match exec c s with
  | .next t => some t
  | _ => none

/-- The state a command leaves. -/
def after (c : Instr) (s : State) : State :=
  match exec c s with
  | .next t => t
  | _ => s

/-- A part at 100 000 ms with no condition standing, no commit pending, the key on and the loop NORMAL: every
string is in OPEN and carries the record given. -/
def calmPart (r : StringRecord) : State :=
  { State.reset with
    now := 100000
    cfs := { State.reset.cfs with queue := [], writing := none }
    stab := { strings := Vector.replicate 16 r,
              conditions := { fire := false, start := false, store := false, arc := false } }
    imon := { State.reset.imon with inFlight := none, gap := some 100000 }
    fli := { State.reset.fli with accepted := .normal, debounce := none }
    ports := { State.reset.ports with key := { on := true, input := true, debounce := none } } }

/-- A record that carries one hold. -/
def held (h : Hold) : StringRecord := emptyRecord.put h

/-- Every string held by SUP. -/
def base : State := calmPart (held .sup)

/-- One string with a record, a switch state, a switch command, a feedback reading and a timer. -/
def withString (i : StringId) (r : StringRecord) (st : SwitchState) (d : Drive) (closed : Bool)
    (timer : Option Nat) (s : State) : State :=
  ((s.modString i fun _ => r).modSwitch i fun w => { w with state := st, drive := d, timer := timer }).modSseq
    fun q => { q with feedback := q.feedback.set i closed }

/-- String 1 CLOSED and free of holds; the others held by SUP in OPEN. -/
def oneClosed : State :=
  (withString 0 emptyRecord .closed .on true none base).modMfe fun m =>
    { m with fast := m.fast.set 0 500, below := m.below.set 0 false }

/-- A scan record with one current for every string. -/
def scanOf (current : Int) (temperature : Int) (arcIndex : Byte) : ScanRecord :=
  { completion := 10000, daylight := .day,
    entries := Vector.replicate 16 (some { current := current, clipped := false, sideVoltage := 3300 }),
    bus := 3300, temperature := temperature, arcIndex := arcIndex, arcBlank := false }

/-- What the converters deliver at rest. -/
def restScan : RawScan :=
  { channels := Vector.replicate 16 { raw := 0, overRange := false, sideVoltage := 0 }, bus := 2000,
    temperatureCode := 409600, arcIndex := 0 }

/-- A lock code of 9 on a request of port M. -/
def code9 : List Byte := [0, 0, 0, 0, 0, 0, 0, 9]

/-- An outstanding request on port M. -/
def onM (w : Wait) (s : State) : State :=
  s.modPort .m fun p => { p with outstanding := some { code := 8, wait := w } }

/-! ### One step of each kind -/

theorem test_hold_turns_off_a_closed_string :
    (after (.hold .s [1]) oneClosed).switchState 0 = .interrupting ∧
    ((after (.hold .s [1]) oneClosed).sw 0).drive = .off := by decide
theorem test_release_of_an_open_string_waits_to_close :
    (after (.release .s [2]) base).switchState 1 = .pendingClose ∧
    (after (.release .s [2]) base).has .sup 1 = false := by decide
theorem test_list_fails_at_lowest_value :
    nextOf (.hold .s [17, 5, 5]) base = some (base.answered .s 3 .badForm [5]) := by decide
theorem test_write_setting_clamps :
    (after (.writeSetting .s [0x13, 0, 0, 0, 1, 44]) base).cfg .sSuspect = 250 ∧
    ((after (.writeSetting .s [0x13, 0, 0, 0, 1, 44]) base).port .s).outstanding =
      some { code := 15, wait := .commit .doneClamped [0x13, 0, 0, 0, 0, 250] } := by decide
theorem test_calibrate_needs_svc :
    nextOf (.calibrate .m [1]) base = some (base.answered .m 9 .state []) := by decide
theorem test_daylight_starts_at_the_tenth_scan :
    (after (.scanCompletion restScan) (base.modMfe fun m => { m with wakeCount := 9 })).mfe.daylight = .day ∧
    (after (.scanCompletion restScan) (base.modMfe fun m => { m with wakeCount := 8 })).mfe.daylight = .night := by
  decide
theorem test_arc_trip_holds_every_string :
    (after .arcdScanTakeUp ((oneClosed.modHanded fun h => { h with arcd := [scanOf 0 250 96] }).modArcd
      fun a => { a with window := [true, true] })).has .arc 0 = true := by decide
theorem test_arc_mark_below_the_threshold_is_quiet :
    (after .arcdScanTakeUp ((oneClosed.modHanded fun h => { h with arcd := [scanOf 0 250 95] }).modArcd
      fun a => { a with window := [true, true] })).arcd.window = [true, true, false] := by decide
theorem test_full_shed_at_the_cut_temperature :
    (after .tscScanTakeUp (oneClosed.modHanded fun h => { h with tsc := [scanOf 800 950 0] })).tsc.stack =
      [{ string := 0, current := 800, time := 10000 }] := by decide
theorem test_reverse_trip_at_the_second_scan :
    (after .sevalScanTakeUp ((oneClosed.modHanded fun h => { h with seval := [scanOf (-100) 250 0] }).modEval 0
      fun e => { e with mark := true, reverseDwell := 1 })).has .reverse 0 = true := by decide
theorem test_uncommanded_closed :
    (after (.feedbackShowsClosed 3) base).switchState 3 = .faulted ∧
    ((after (.feedbackShowsClosed 3) base).str 3).faultKind = some .uncommandedClosed ∧
    (after (.feedbackShowsClosed 3) base).fli.arraySafe = false := by decide
theorem test_fire_alarm_puts_fire_on_every_string :
    (after .fireDebounceExpiry (base.modFli fun f => { f with raw := .alarm, debounce := some 100000 })).carriers .fire
      = allStrings := by decide
theorem test_fetch_leaves_the_rest :
    ((after (.fetchEvents .m [1]) base).ring .m).records = (base.ring .m).records.drop 1 := by decide
theorem test_full_ring_loses_its_oldest :
    let r (n : Nat) : EventRecord :=
      { kind := .daylight, string := none, time := BitVec.ofNat 32 n, valueA := 0, valueB := 0, gap := false }
    let s := base.modRing .s fun _ => { records := (List.range 32).map r, delay := .stopped }
    (((s.route (r 32)).ring .s).records.map EventRecord.time) = (List.range' 1 32).map (BitVec.ofNat 32) ∧
    (((s.route (r 32)).ring .s).records.map EventRecord.gap) = List.replicate 31 false ++ [true] ∧
    ((s.route (r 32)).ring .s).delay = .expired := by decide
theorem test_unknown_code_is_bad_form :
    nextOf (.unknownRequestCode .s 18 []) base = some (base.answered .s 18 .badForm []) := by decide

/-- R159: 0xA5 starts and restarts a frame, lengths of 0 and 122 give it up, and a frame's last byte ends it. -/
theorem test_receiver_positions :
    Receiver.hear .idle [0xA5, 0xA5, 7] = some .length ∧ Receiver.hear .length [0xA5] = some .address ∧
    Receiver.hear .idle [0xA5, 7, 0] = some .idle ∧ Receiver.hear .idle [0xA5, 7, 122] = some .idle ∧
    Receiver.hear .idle [0xA5, 7, 121] = some (.body 123) ∧ Receiver.hear .idle [0xA5, 7, 1, 0xA5, 0] = some (.body 1) ∧
    Receiver.hear .idle [0xA5, 7, 1, 1, 0, 0] = none := by decide
/-- Section 2.7: a string that a trip takes out of CLOSED ends with its mark clear, one that stays ends with it set. -/
theorem test_tripped_string_loses_its_mark :
    ((after .sevalScanTakeUp ((oneClosed.modHanded fun h => { h with seval := [scanOf (-100) 250 0] }).modEval 0
      fun e => { e with mark := true, reverseDwell := 1 })).eval 0).mark = false ∧
    ((after .sevalScanTakeUp (oneClosed.modHanded fun h => { h with seval := [scanOf 700 250 0] })).eval 0).mark
      = true := by decide

/-! ### Hypotheses met: for each statement with hypotheses, a state and operands that meet them, clause by clause -/

/-- A part whose string 1 carries one hold beside SVC with the code 9. -/
def locked (h : Hold) : State := base.modString 0 fun _ => (held (.svc 9)).put h

/-- String 1 in a switch state, free of holds, its timer due. -/
def inState (st : SwitchState) (d : Drive) (closed : Bool) : State :=
  withString 0 emptyRecord st d closed (some 100000) base

/-- String 1 FAULTED under SVC and SWITCH. -/
def faulted : State := withString 0 ((held (.svc 9)).put (.switch .failToOpen)) .faulted .off false none base

/-- String 1 under retest at a step. -/
def retesting (step : RetestStep) (pulsed : Bool) : State :=
  onM .retest ((faulted.modSseq fun q =>
      { q with retest := some { string := 0, step := step, pulsed := pulsed, timer := some 100000 } }).modFli
    fun f => { f with retestMarks := f.retestMarks.set 0 true })

/-- A part with a measurement that has run its time. -/
def measured (o : Owner) (p : Purpose) (s : State) : State :=
  s.modImon fun m =>
    { m with gap := none, inFlight := some { owner := o, purpose := p, startedAt := 94000, endsAt := 100000 } }

/-- A search in a state, with string 1 CLOSED, suspect, candidate and probed. -/
def searching (st : SearchState) : State :=
  oneClosed.modGsu fun g => { g with state := st, p := [0], c := [0], x := [0], v := [0], timer := some 100000 }

/-- A part whose settings record is being written and whose hold record waits, for port M. -/
def writing : State :=
  onM (.commit .done []) (base.modCfs fun c => { c with
    queue := [{ record := .settings, waiters := [.s] }, { record := .holds, waiters := [.m] }]
    writing := some { startedAt := 99995, image := .settings defaultSettings } })

/-- What the hold record holds of a string RETIRED under SVC with the code 9. -/
def storedString : StoredString :=
  { emptyStored true with holds := ((held (.svc 9)).put .retired).holds, lockCode := some 9 }

/-- A part whose stored hold record has every string RETIRED. -/
def storedRetired : State :=
  base.modCfs fun c => { c with
    settingsCopies := { c.settingsCopies with a := { c.settingsCopies.a with good := true } }
    holdCopies := { c.holdCopies with
      a := { good := true, sequence := 1, data := Vector.replicate 16 storedString } } }

theorem hyp_StepRunsTheFrontCommand : { base with pending := [.rampSlotFree] }.pending = [.rampSlotFree] := rfl
theorem hyp_IdleTimeAndMissingSupply :
    base.pending = [] ∧ State.neverStarted.powered = false ∧ ∀ x, Instr.rampSlotFree ≠ .powerUp x := by
  refine ⟨by decide, by decide, fun x h => by cases h⟩
/-- One state that meets the hypotheses of every invariant that `step` keeps, and takes a step. -/
theorem hyp_invariants :
    (base.detailsExact ∧ base.conditionsCover ∧ base.closesOnlyFree ∧ base.relaysClosed) ∧
    (base.relaysOpen ∧ base.waitsRight ∧ base.entriesRight ∧ base.frozenRight) ∧
    (base.arraySafeRight ∧ base.curtailRight ∧ base.coilsRight) ∧
    (base.countersBounded ∧ base.dwellsBounded ∧ base.commitsRight ∧ base.stackRight) ∧
    base.pending.head? ≠ some .retestOpenStepTimeout := by
  refine ⟨⟨?_, ?_, ?_, ?_⟩, ⟨?_, ?_, ?_, ?_⟩, ⟨?_, ?_, ?_⟩, ⟨?_, ?_, ?_, ?_⟩, ?_⟩ <;> decide
theorem hyp_ringsBounded : base.ringsBounded := by intro p; cases p <;> decide
theorem hyp_settings_inRange : base.settings.inRange := by
  refine ⟨fun k => by cases k <;> decide, ?_⟩; decide
theorem hyp_settingsRight : base.settingsRight :=
  ⟨hyp_settings_inRange, hyp_settings_inRange, hyp_settings_inRange, by intro w h; cases h⟩
theorem hyp_step : ∃ t, step { base with pending := [.hold .s [1]] } = .next t := ⟨_, rfl⟩
theorem hyp_frozen_while_searching :
    (base.modGsu fun g => { g with state := .isolate }).searchActive = true ∧
    (base.modGsu fun g => { g with state := .isolate }).frozenRight := by decide
theorem hyp_RetiredIsForGood :
    (locked .retired).has .retired 0 = true ∧ (nextOf (.hold .s [1]) (locked .retired)).isSome = true ∧
    let r := (storedRetired.storeAtStart restInputs).read
    (r.settings.strings[0]).present = true ∧ (r.holds[0]).present = true ∧
      (r.holds[0]).holds[HoldKind.retired.slot] = true := by decide
theorem hyp_LockoutsEndOnlyByTheirCode :
    (locked .sup).has .svc 0 = true ∧ ((locked .sup).str 0).lockCode = some 9 ∧
    (nextOf (.release .m (code9 ++ [2])) (locked .sup)).isSome = true ∧ ¬listed [2] 0 := by decide
theorem hyp_TheGateRefusesByTheTableOfRights :
    (Instr.status .s []).wf = true ∧ base.powered = true ∧ (base.port .s).transmitting = none ∧
    (base.port .s).outstanding = none ∧ base.ports.restartWait = false ∧ sizeFits .status .s [] = true ∧
    sizeFits .status .s [0] = false ∧ sizeFits .retire .s (1 :: code9) = true ∧
    base.permitted .retire .s (1 :: code9) = false ∧
    ((onM .capture base).port .m).outstanding.isSome = true ∧ ((onM .capture base).port .m).transmitting = none := by
  decide
theorem hyp_ListRequestsFailAtTheirLowestString :
    (base.listRequest (.hold .s [3, 17])).isSome = true ∧ base.accepts .s ∧ sizeFits .hold .s [3, 17] = true ∧
    base.permitted .hold .s [3, 17] = true ∧ base.failsAt [3, 17] (fun _ => none) 17 .badString ∧
    holdFormFails .s [] = true := by decide
theorem hyp_lowest_failing_value : ∀ u ∈ ([3, 17] : List Byte), u.toNat < 17 → ∀ r,
    ¬base.failsAt [3, 17] (fun _ => none) u r := by
  intro u hu h r
  rcases List.mem_cons.1 hu with rfl | hu
  · rintro (⟨h, -⟩ | ⟨i, hi, h⟩)
    · exact absurd h (by decide)
    · have hp : ∀ i : StringId, base.present i = true ∧ base.has .retired i = false := by decide
      simp [hp i] at h
  · simp at hu; subst hu; exact absurd h (by decide)
theorem hyp_reads_and_fetch :
    (∀ p ∈ [Port.s, .v, .m], base.accepts p) ∧ settingOfIndex 0x08 = none ∧
    settingOfIndex 0x01 = some (.whole .tScan) ∧ settingOfIndex 0x05 = some .range ∧ SettingRef.range.perString = true ∧
    1 ≤ (16 : Byte).toNat ∧ ¬((17 : Byte).toNat ≤ 16) ∧ ¬(1 ≤ (0 : Byte).toNat) ∧ 6 < (7 : Byte).toNat := by decide
theorem hyp_HoldAddsTheSendersKind :
    oneClosed.accepts .s ∧ oneClosed.calm ∧ oneClosed.listPasses (listOf .s [1]) ∧
    oneClosed.listPasses (listOf .m (code9 ++ [1])) ∧ oneClosed.accepts .m ∧ lockCodeOf (code9 ++ [1]) ≠ 0 ∧
    oneClosed.switchState 0 = .closed ∧ oneClosed.target 0 = true ∧ oneClosed.has .sup 0 = false ∧
    (inState .pendingClose .off false).switchState 0 = .pendingClose ∧
    (inState .pendingClose .off false).target 0 = true := by decide
theorem hyp_hold_in_a_ramp_or_its_wait :
    (inState .rampWait .off true).switchState 0 = .rampWait ∧ (inState .rampWait .off true).target 0 = true ∧
    (inState .rampWait .off true).accepts .s ∧ (inState .rampWait .off true).calm ∧
    (inState .ramping .ramping true).switchState 0 = .ramping ∧ (inState .ramping .ramping true).target 0 = true ∧
    (inState .rampWait .off true).has .sup 0 = false ∧ (inState .ramping .ramping true).has .sup 0 = false := by decide
theorem hyp_hold_keeps_the_slot :
    (inState .rampWait .off true).relaysOpen ∧ (inState .ramping .ramping true).relaysOpen := by
  refine ⟨?_, ?_⟩ <;> decide
theorem hyp_hold_during_a_close_pulse :
    (inState .relayClosing .off false).accepts .s ∧ (inState .relayClosing .off false).calm ∧
    (inState .relayClosing .off false).relaysOpen ∧ (inState .relayClosing .off false).has .sup 0 = false ∧
    (inState .relayClosing .off false).listPasses (listOf .s [1]) := by
  refine ⟨?_, ?_, ?_, ?_, ?_⟩ <;> decide
theorem hyp_ReleaseTakesTheSendersKind :
    base.accepts .s ∧ base.calm ∧ base.listPasses (listOf .s [1, 2]) ∧ base.switchState 0 = .opened ∧
    ((base.str 0).take .sup).holds = noHolds ∧ base.has .sup 0 = true ∧
    (locked .sup).listPasses (listOf .m (code9 ++ [1])) ∧
    ∀ i, listed (listOf .m (code9 ++ [1])) i → (locked .sup).has .svc i = true →
      ((locked .sup).str i).lockCode = some (lockCodeOf (code9 ++ [1])) := by decide
/-- String 1 under GROUND during a bus check. -/
def busChecked : State := (locked (.ground .located)).modGsu fun g => { g with state := .busCheck, p := [0] }
theorem hyp_AcknowledgementTakesTheKindNamed :
    base.accepts .s ∧ base.commands .s ∧ base.commands .m ∧ (locked .reverse).calm ∧ (locked .reverse).listPasses [1] ∧
    (∀ i, listed [1] i → (locked .reverse).has .reverse i = true) ∧
    (∀ i, listed [1] i → (locked (.ground .located)).has .ground i = true) ∧
    (∀ i, listed [1] i → (locked .overcurrent).has .overcurrent i = true) := by decide
theorem hyp_acknowledged_ground_in_a_search :
    busChecked.accepts .s ∧ busChecked.listPasses [1] ∧ busChecked.gsu.state = .busCheck ∧ busChecked.gsu.left = [] ∧
    busChecked.noReports ∧ ∀ i, listed [1] i → busChecked.has .ground i = true := by decide
theorem hyp_ArrayConditionsAreClearedWhole :
    base.stab.conditions.arc = false ∧ base.fli.accepted = .normal ∧ State.reset.fli.accepted ≠ .normal ∧
    let s := base.modStab fun t => { t with conditions := { fire := true, start := false, store := true, arc := true } }
    s.accepts .m ∧ s.commands .m ∧ s.calm ∧ s.stab.conditions.arc = true ∧ s.stab.conditions.store = true ∧
    s.stab.conditions.fire = true ∧ s.fli.accepted = .normal := by decide
theorem hyp_RetireStandsBesideTheLockout :
    base.accepts .m ∧ base.ports.key.on = true ∧ base.calm ∧ code9.length = 8 ∧ lockCodeOf code9 ≠ 0 ∧
    ¬((17 : Byte).toNat ≤ 16) ∧
    lockCodeOf [0, 0, 0, 0, 0, 0, 0, 0] = 0 ∧ base.has .svc 0 = false ∧ (locked .sup).has .svc 0 = true ∧
    ((locked .sup).str 0).lockCode = some (lockCodeOf code9) ∧ (locked .sup).has .retired 0 = false ∧
    (locked .retired).has .retired 0 = true ∧ lockCodeOf [0, 0, 0, 0, 0, 0, 0, 8] ≠ lockCodeOf code9 := by decide
/-- String 1 ABSENT, for the clauses on an absent string. -/
def absent : State :=
  (withString 0 emptyRecord .absent .off false none base).modStringSettings 0 fun c => { c with present := false }
/-- A probe of string 1 that waits for its switching. -/
def probing : State := base.modGsu fun g => { g with state := .probeSwitch, p := [0, 1], c := [0, 1], x := [0] }
theorem hyp_presence :
    base.present 0 = true ∧ base.has .retired 0 = false ∧ base.switchState 0 = .opened ∧ (base.str 0).exact ∧
    oneClosed.switchState 0 ≠ .opened ∧ (locked .sup).has .svc 0 = true ∧ ((locked .sup).str 0).exact ∧
    absent.accepts .m ∧ absent.calm ∧ absent.present 0 = false ∧ absent.switchState 0 = .absent ∧
    (absent.modStab fun t => { t with conditions := { t.conditions with fire := true } }).stab.conditions.fire = true ∧
    absent.str 0 = emptyRecord ∧ absent.has .retired 0 = false ∧ 2 ≤ (2 : Byte).toNat ∧
    (locked .retired).accepts .m ∧ (locked .retired).has .retired 0 = true ∧ ¬(1 ≤ (0 : Byte).toNat) ∧
    lockCodeOf [0, 0, 0, 0, 0, 0, 0, 0] = 0 ∧
    (absent.modSwitch 0 fun w => { w with state := .opened }).switchState 0 ≠ .absent ∧
    probing.accepts .m ∧ probing.switchState 0 = .opened ∧ probing.searchActive = true ∧ probing.gsu.left = [] ∧
    0 ∈ probing.gsu.p ∧ 0 ∉ probing.gsu.k ∧ 0 ∉ probing.gsu.f := by decide
theorem hyp_SearchStartFreezesTheArray :
    oneClosed.accepts .s ∧ oneClosed.commands .s ∧ ¬oneClosed.commands .v ∧ oneClosed.calm ∧
    oneClosed.stab.conditions.start = false ∧ oneClosed.closedSet ≠ [] ∧ base.closedSet = [] := by decide
theorem hyp_SearchAbortGroundsTheOpenSet :
    (searching .isolate).accepts .s ∧ (searching .isolate).searchActive = true ∧ (searching .isolate).noReports ∧
    base.searchActive = false := by decide
theorem hyp_WriteSettingPutsTheValueInForce :
    base.permitted .writeSetting .s [0x01, 0, 0, 0, 0, 99] = true ∧ byteAt [0x01, 0, 0, 0, 0, 99] 0 = 1 ∧
    base.settingValue .tScan (signed32Of [0, 0, 0, 99]) = some 50 ∧
    base.settingValue .tConfirm (signed32Of [0, 0, 0, 10]) = some 40 ∧
    base.settingValue .rTrip (signed32Of [0, 0, 0, 200]) = some 200 ∧
    (dependentOf .rTrip 200).isSome = true ∧ dependentOf .tScan 50 = none ∧
    base.settingValue .addrS (signed32Of [0, 0, 0, 165]) = some 164 ∧
    base.settingValue .addrS (signed32Of [0, 0, 0, 0]) = some 1 ∧
    base.settingValue .rClear (signed32Of [0, 0, 255, 255]) = some 9000 ∧
    base.settingValue .rClear (signed32Of [0, 0, 0, 0]) = some 70 ∧
    base.settingValue .tCut (signed32Of [0, 0, 0, 0]) = some 750 ∧
    base.settingValue .sSuspect (signed32Of [0, 0, 1, 44]) = some 250 ∧
    base.settingValue .baudV (signed32Of [0, 0, 0x4B, 0]) = some 19200 := by decide
theorem hyp_PerStringSettingsAreWrittenOneByOne :
    base.permitted .writeSetting .m [0x03, 16, 0, 0, 0, 1] = true ∧ settingOfIndex 0x03 = some .offset ∧
    settingOfIndex 0x04 = some .gain ∧ settingOfIndex 0x05 = some .range ∧ settingOfIndex 0x18 = some .group ∧
    settingOfIndex 0x19 = some .rank ∧ rangeOf 1 = some .narrow ∧ rangeOf 2 = none ∧ groupOf 5 = none ∧
    (groupOf 4).isSome = true ∧ byteAt [0x03, 16, 0, 0, 0, 1] 1 = byte (stringNumber 15) := by decide
theorem hyp_RouteRestartAndCalibrateStart :
    base.accepts .s ∧ base.calm ∧ kindOfCode 0 = none ∧ (kindOfCode 22).isSome = true ∧ (7 : Byte).toNat < 8 ∧
    base.accepts .m ∧ base.ports.key.on = true ∧ base.switchState 0 = .opened ∧ base.has .svc 0 = false ∧
    (locked .sup).present 0 = true ∧ (locked .sup).switchState 0 = .opened ∧ (locked .sup).has .svc 0 = true := by
  decide
theorem hyp_RetestStartsUnderALockout :
    faulted.accepts .m ∧ faulted.calm ∧ faulted.present 0 = true ∧ faulted.has .retired 0 = false ∧
    faulted.switchState 0 = .faulted ∧ faulted.has .switch 0 = true ∧ faulted.has .svc 0 = true ∧
    faulted.queued 0 = false := by decide
theorem hyp_FramesThatAreNoRequests :
    base.powered = true ∧ (base.port .s).transmitting = none ∧ frameWhole [1, 1, 3, 0, 0] = true ∧
    crcRight [1, 1, 3, 0, 0] = false ∧ ([9, 1, 3, 0, 0] : List Byte).head? ≠ some (base.replyNow .s 0 .done []).address ∧
    (121 : Nat) < (122 : Byte).toNat ∧ 17 < (18 : Byte).toNat ∧ (base.port .s).receiver = .idle ∧
    ∀ r ∈ [Receiver.address, .length, .body 3],
      ((base.modPort .s fun t => t.heard 99980 r).port .s).receiver = r ∧
      ¬∃ q ∈ ((base.modPort .s fun t => t.heard 99980 r).port .s).quietFrom, q + 20 < base.now := by decide
theorem hyp_PortsSendAndTheKeyTurns :
    let s := base.answered .s 3 .busy []
    (s.port .s).ready ≠ [] ∧ (s.port .s).receiver = .idle ∧ (s.port .s).transmitting = none ∧
    baudOf .s = some .baudS ∧ (base.port .s).receiver = .idle ∧ base.ports.key.input ≠ false ∧
    ((s.modPort .s PortState.send).port .s).transmitting.isSome = true ∧
    ((base.modPorts fun q => { q with key := { on := false, input := true, debounce := some 100000 } }).ports.key).debounce
      = some 100000 := by decide
theorem hyp_ScanCompletionHandsTheRecordOn :
    base.powered = true ∧ base.calm ∧ base.mfe.scanStart + base.mfe.scanLength ≤ base.now ∧ base.mfe.capture = none ∧
    0 < base.cfg .kSlope ∧ (inState .pendingClose .off false).relaysOpen ∧
    (inState .pendingClose .off false).switchState 0 = .pendingClose ∧
    (inState .pendingClose .off false).queued 0 = false ∧ (inState .pendingClose .off false).dwellOver 0 = true ∧
    ((inState .pendingClose .off false).modSwitch 0 fun w => { w with dwell := .running 100001 }).dwellOver 0 = false := by
  decide
theorem hyp_CaptureTakesSixteenSamples :
    let s := onM .capture (base.modMfe fun m => { m with capture := some { string := 0, count := 15, sum := 160 } })
    s.powered = true ∧ s.calm ∧ s.closesOnlyFree ∧ s.mfe.scanStart + s.mfe.scanLength ≤ s.now ∧
    s.mfe.capture = some { string := 0, count := 15, sum := 160 } ∧ s.switchState 0 = .opened ∧
    (s.port .m).outstanding = some { code := 8, wait := .capture } := by decide
/-- A search during which a third OVER mark arrives. -/
def arcing : State :=
  ((searching .isolate).modHanded fun h => { h with arcd := [scanOf 0 250 96] }).modArcd
    fun a => { a with window := [true, true] }
theorem hyp_scan_take_ups :
    let s := oneClosed.modHanded fun _ => { seval := [scanOf 700 250 0], tsc := [scanOf 700 950 0], arcd := [scanOf 0 250 96] }
    s.powered = true ∧ s.calm ∧ s.closesOnlyFree ∧ s.stackRight ∧ s.arcd.window.length ≤ 8 ∧
    s.handed.seval = [scanOf 700 250 0] ∧ s.handed.tsc = [scanOf 700 950 0] ∧ s.handed.arcd = [scanOf 0 250 96] ∧
    s.due (some 100000) = true ∧
    arcing.searchActive = true ∧ arcing.handed.arcd = [scanOf 0 250 96] ∧ arcing.stab.conditions.arc = false ∧
    (scanOf 0 250 96).arcBlank = false ∧ arcing.cfg .aTrip ≤ (scanOf 0 250 96).arcIndex.toNat ∧
    arcing.arcd.window.length ≤ 8 ∧
    arcing.cfgNat .aCount ≤ ((arcing.arcd.window ++ [true]).drop (arcing.arcd.window.length - 7)).count true := by decide
/-- String 1 at the second scan of a reverse current, of an overcurrent, or at the step that makes it suspect or not. -/
def judged (current : Int) (e : EvalString → EvalString) : State :=
  (oneClosed.modHanded fun h => { h with seval := [scanOf current 250 0] }).modEval 0 e
theorem hyp_evaluator_events :
    (judged (-100) fun e => { e with mark := true, reverseDwell := 1 }).tripsReverse (scanOf (-100) 250 0) 0 = true ∧
    (judged 3000 fun e => { e with mark := true, overDwell := 9 }).tripsOver (scanOf 3000 250 0) 0 = true ∧
    0 < oneClosed.cfg .iOver ∧ oneClosed.has .overcurrent 0 = false ∧
    (stringsWhere fun j => (judged 700 id).tripsReverse (scanOf 700 250 0) j
      || (judged 700 id).tripsOver (scanOf 700 250 0) j).length ≤ 4 := by decide
/-- Five CLOSED strings of group A, the first with a tenth of the others' current. -/
def shaded (suspicion : Nat) (suspect : Bool) (low : Int) : State :=
  let s := [1, 2, 3, 4].foldl (fun s i => withString i emptyRecord .closed .on true none s) oneClosed
  let s := [0, 1, 2, 3, 4].foldl (fun s i => (s.modStringSettings i fun c => { c with group := .a }).modEval i
    fun e => { e with mark := true }) s
  (s.modEval 0 fun e => { e with suspicion := suspicion, suspect := suspect }).modHanded fun h => { h with
    seval := [{ scanOf 700 250 0 with
      entries := (scanOf 700 250 0).entries.set 0 (some { current := low, clipped := false, sideVoltage := 3300 }) }] }
theorem hyp_suspicion_set_and_cleared :
    ((shaded 250 false 70).eval 0).suspect = false ∧ ((after .sevalScanTakeUp (shaded 250 false 70)).eval 0).suspect = true ∧
    ((shaded 1 true 700).eval 0).suspect = true ∧
    ((after .sevalScanTakeUp (shaded 1 true 700)).eval 0).suspect = false := by decide
theorem hyp_CrossingsOfZeroCurrentMoveWaitingStrings :
    base.powered = true ∧ base.calm ∧ min 19 3200 < base.cfgNat .iZero ∧ base.cfgNat .iZero ≤ min 20 3200 ∧
    oneClosed.below 0 = false ∧ base.below 0 = true ∧ (inState .interrupting .off true).feedback 0 = true ∧
    (inState .interrupting .off true).switchState 0 = .interrupting ∧
    (inState .pendingOpen .off true).switchState 0 = .pendingOpen := by decide
theorem hyp_FeedbackThatShowsClosed :
    base.powered = true ∧ base.calm ∧ base.present 0 = true ∧ base.feedback 0 = false ∧ base.underRetest 0 = false ∧
    base.switchState 0 = .opened ∧ (inState .relayClosing .off false).switchState 0 = .relayClosing ∧
    (inState .relayClosing .off false).target 0 = true ∧
    ((inState .relayClosing .off false).modString 0 fun _ => held .sup).target 0 = false := by decide
theorem hyp_FeedbackThatShowsOpen :
    oneClosed.powered = true ∧ oneClosed.calm ∧ oneClosed.entriesRight ∧ oneClosed.feedback 0 = true ∧
    oneClosed.underRetest 0 = false ∧ oneClosed.switchState 0 = .closed ∧ oneClosed.present 0 = true ∧
    (inState .relayOpening .off true).switchState 0 = .relayOpening ∧ (inState .relayOpening .off true).entriesRight ∧
    (inState .absent .off true).feedback 0 = true := by decide
theorem hyp_ConfirmationDeadlinesFault :
    (inState .relayClosing .off false).present 0 = true ∧
    (inState .relayClosing .off false).due ((inState .relayClosing .off false).sw 0).timer = true ∧
    (inState .relayOpening .off true).switchState 0 = .relayOpening ∧ (inState .relayOpening .off true).calm ∧
    (inState .absent .off true).switchState 0 = .absent ∧ base.due (base.sw 0).timer = false := by decide
theorem hyp_RetestsFailAndEnd :
    let s := retesting .close true
    s.powered = true ∧ s.calm ∧ s.sseq.retest = some { string := 0, step := .close, pulsed := true, timer := some 100000 } ∧
    s.due (some 100000) = true ∧ s.switchState 0 = .faulted ∧ s.present 0 = true ∧ s.has .switch 0 = true ∧
    (s.port .m).outstanding = some { code := 8, wait := .retest } ∧
    (retesting .firstOpen false).below 0 = true ∧
    ((retesting .firstOpen false).modMfe fun m => { m with below := m.below.set 0 false }).below 0 = false ∧
    s.feedback 0 ≠ true ∧ s.queued 0 = false ∧ (retesting .close false).feedback 0 ≠ true ∧
    ∀ q ∈ [true, false],
      ((retesting .secondOpen q).modSseq fun q => { q with feedback := q.feedback.set 0 true }).feedback 0 ≠ false := by
  decide
theorem hyp_PulseEndsGrantTheNext :
    let s := (inState .pendingClose .off false).modSseq fun q =>
      { q with pulses := [{ string := 5, mark := .toOpen, endsAt := 100000 }], queue := [{ string := 0, mark := .toClose }] }
    s.powered = true ∧ s.calm ∧ s.coilsRight ∧ s.nextGrant = some { string := 0, mark := .toClose } ∧
    (s.sseq.pulses.find? fun q => decide (q.string = 5) && decide (q.endsAt ≤ s.now))
      = some { string := 5, mark := .toOpen, endsAt := 100000 } ∧ base.nextGrant = none := by decide
theorem hyp_coil_queue_in_order :
    let s := (withString 1 (held .sup) .pendingOpen .off true none (inState .pendingClose .off false)).modSseq fun q =>
      { q with queue := [{ string := 0, mark := .toClose }, { string := 1, mark := .toOpen }] }
    s.closesOnlyFree ∧ s.entriesRight ∧ s.nextGrant = some { string := 1, mark := .toOpen } ∧
    (s.modMfe fun m => { m with below := m.below.set 1 false }).nextGrant = some { string := 0, mark := .toClose } := by
  refine ⟨?_, ?_, ?_, ?_⟩ <;> decide
theorem hyp_RampsStartInTurnAndEndClosed :
    let s := (inState .rampWait .off true).modSseq fun q =>
      { q with slot := some { startedAt := 0, freeAt := 100000 }, rampList := [0] }
    s.powered = true ∧ s.calm ∧ s.sseq.slot = some { startedAt := 0, freeAt := 100000 } ∧ s.sseq.rampList = [0] ∧
    0 < s.cfgNat .tSpace ∧
    (s.modSettings fun c => { c with values := c.values.set Setting.tSpace.slot 0 }).cfgNat .tSpace = 0 ∧
    s.due (s.sseq.slot.map RampSlot.freeAt) = true ∧ (inState .ramping .ramping true).switchState 0 = .ramping ∧
    (inState .ramping .ramping true).due ((inState .ramping .ramping true).sw 0).timer = true := by decide
theorem hyp_WaitsOfClosingAndOpeningStrings :
    (inState .pendingClose .off false).switchState 0 = .pendingClose ∧ (inState .pendingClose .off false).calm ∧
    (inState .pendingClose .off false).queued 0 = false ∧ (base.sw 0).dwell = .running 5000 ∧ 5000 ≤ base.now ∧
    base.switchState 0 = .opened ∧ base.nextGrant = none ∧
    (inState .interrupting .off true).switchState 0 = .interrupting ∧
    (inState .curtailWait .off true).switchState 0 = .curtailWait ∧
    (inState .curtailWait .off true).due ((inState .curtailWait .off true).sw 0).timer = true := by decide
theorem hyp_RecloseAndRouterTimersExpire :
    let r := { held .overcurrent with overcurrent := some { attempt := 1, auto := true } }
    let s := (base.modString 0 fun _ => r).modRcl 0 fun _ => { reclose := some 100000, stable := some 99000 }
    s.powered = true ∧ s.calm ∧ (s.str 0).exact ∧ s.due (s.rcl[0]).reclose = true ∧ s.due (s.rcl[0]).stable = true ∧
    s.switchState 0 = .opened ∧ ((s.str 0).take .overcurrent).holds = noHolds ∧
    (s.modEvr fun e => { e with holdOff := some 100000 }).due (some 100000) = true ∧
    ((s.modRing .s fun r => { r with delay := .running 100000 }).ring .s).delay = .running 100000 := by decide
theorem hyp_CommitsCompleteInTurn :
    writing.powered = true ∧ writing.cfs.writing = some { startedAt := 99995, image := .settings defaultSettings } ∧
    writing.cfs.queue = [{ record := .settings, waiters := [.s] }, { record := .holds, waiters := [.m] }] ∧
    99995 + 5 ≤ writing.now := by decide
theorem hyp_PeriodicReadingsAreJudged :
    let s := measured .periodic .routine base
    s.powered = true ∧ s.calm ∧ s.due (some 100000) = true ∧ base.due base.imon.gap = true ∧
    s.imon.inFlight = some { owner := .periodic, purpose := .routine, startedAt := 94000, endsAt := 100000 } ∧
    s.cfg .rTrip = 60 ∧ s.cfg .rClear = 120 ∧ s.stab.conditions.start = false ∧
    State.reset.stab.conditions.start = true := by decide
theorem hyp_ConfirmedLowReadingsAct :
    let s := measured .periodic .confirm oneClosed
    s.powered = true ∧ s.calm ∧ s.closesOnlyFree ∧ s.stab.conditions.start = false ∧
    s.imon.inFlight = some { owner := .periodic, purpose := .confirm, startedAt := 94000, endsAt := 100000 } ∧
    ((min 59 10000 : Nat) : Int) < s.cfg .rTrip ∧ s.cfg .rTrip ≤ s.cfg .rClear ∧ s.closedSet ≠ [] ∧
    base.closedSet = [] := by decide
theorem hyp_SearchReadingsAndTimersAreJudged :
    let s := measured .search .search (searching .probeMeasure)
    s.powered = true ∧ s.gsu.left = [] ∧ s.noReports ∧ s.cfg .rTrip < s.cfg .rClear ∧
    s.imon.inFlight = some { owner := .search, purpose := .search, startedAt := 94000, endsAt := 100000 } ∧
    (∃ i ∈ s.gsu.x, i ∉ s.gsu.k ∧ s.present i = true ∧ s.switchState i = .closed ∧ s.target i = true ∧
      s.feedback i = true) ∧
    (searching .probeSwitch).due (searching .probeSwitch).gsu.timer = true ∧ (searching .probeSwitch).othersOpen = true ∧
    (∃ i ∈ (searching .probeSwitch).gsu.measuringSet, (searching .probeSwitch).switchState i = .closed) := by decide
/-- A search that measures string 1. -/
def measuring (st : SearchState) : State := measured .search .search (searching st)
/-- The invariants that the search clauses ask for. -/
theorem hyp_search_invariants : ∀ st ∈ [SearchState.probeMeasure, .verifyMeasure],
    (measuring st).closesOnlyFree ∧ (measuring st).relaysClosed ∧ (measuring st).relaysOpen := by
  intro st h; simp at h
  rcases h with rfl | rfl <;> refine ⟨?_, ?_, ?_⟩ <;> decide
/-- The search clauses on low readings and on a HOLD, for a probe and a verification. -/
theorem hyp_search_measurements :
    ∀ st ∈ [SearchState.probeMeasure, .verifyMeasure], (measuring st).accepts .s ∧
      (measuring st).searchMeasuring = true ∧ 0 ∈ (measuring st).gsu.measuringSet ∧ (measuring st).gsu.f.length < 3 ∧
      (measuring st).gsu.restarts < 3 ∧ (measuring st).switchState 0 = .closed ∧ (measuring st).target 0 = true ∧
      (measuring st).feedback 0 = true ∧ 0 ∈ ((measuring st).modGsu fun g => { g with k := [0] }).gsu.k := by decide
/-- A bus check of the strings given, its measurement complete. -/
def search (p : List StringId) (s : State) : State :=
  measured .search .search (s.modGsu fun g => { g with state := .busCheck, p := p })
/-- The search clauses on a good bus check: two candidates, one, and none. -/
theorem hyp_good_bus_checks :
    (search [0, 1] base).closesOnlyFree ∧ (search [0, 1] base).relaysClosed ∧ (search [0, 1] base).relaysOpen ∧
    (search [0, 1] base).gsu.openSet = [0, 1] ∧ (search [0] base).gsu.openSet = [0] ∧
    (search [0] faulted).gsu.openSet = [0] ∧ (search [0] faulted).switchState 0 = .faulted ∧
    (search [0] faulted).relaysOpen ∧ (search [0] base).switchState 0 ≠ .faulted := by
  refine ⟨?_, ?_, ?_, ?_, ?_, ?_, ?_, ?_, ?_⟩ <;> decide
/-- String 2 on its way to OPEN, its timer due. -/
def leaving (st : SwitchState) (closed : Bool) (s : State) : State :=
  withString 1 (held .search) st .off closed (some 100000) s
/-- A search of string 1, OPEN, that waits for isolation. -/
def isolating : State := base.modGsu fun g => { g with state := .isolate, p := [0], c := [0] }
/-- String 2 waits in the coil queue behind two pulses, the first at its end. -/
def pulsing : State :=
  (leaving .pendingOpen false isolating).modSseq fun q => { q with
    queue := [{ string := 1, mark := .toOpen }]
    pulses := [{ string := 5, mark := .toOpen, endsAt := 100000 }, { string := 6, mark := .toOpen, endsAt := 100001 }] }
/-- The last string of the isolation: by feedback, at its deadline, by a grant. -/
theorem hyp_isolation_ends :
    let s := leaving .relayOpening true isolating
    s.powered = true ∧ s.gsu.left = [] ∧ s.noReports ∧ s.gsu.state = .isolate ∧ s.gsu.busChecked = false ∧
    s.present 1 = true ∧ s.released 1 = false ∧ s.target 1 = false ∧ s.feedback 1 = true ∧
    s.due (s.sw 1).timer = true ∧
    pulsing.nextGrant = some { string := 1, mark := .toOpen } ∧ pulsing.sseq.pulses.length = 2 := by decide
theorem hyp_isolation_of_the_others :
    ∀ j : StringId, j ≠ 1 → (leaving .relayOpening true isolating).switchState j = .opened := by decide
/-- The last string of a measurement: one that opens, and one that ends its ramp. -/
theorem hyp_measurements_start :
    ∀ st ∈ [SearchState.probeSwitch, .verifySwitch],
      (∀ j ∈ (leaving .relayOpening true (searching st)).gsu.measuringSet,
        (leaving .relayOpening true (searching st)).switchState j = .closed) ∧
      (leaving .relayOpening true (searching st)).gsu.measuringSet ≠ [] ∧
      (let s := withString 0 emptyRecord .ramping .ramping true (some 100000) (searching st)
       s.switchState 0 = .ramping ∧ s.due (s.sw 0).timer = true ∧ s.gsu.measuringSet = [0]) := by decide
theorem hyp_isolation_waits_on :
    let s := withString 2 (held .search) .interrupting .off true none (leaving .relayOpening true isolating)
    s.switchState 2 = .interrupting ∧ s.present 2 = true ∧ s.released 2 = false := by decide
/-- The ramp list, the targets and the states agree in the states that the witnesses above name. -/
theorem hyp_closesOnlyFree_of_single_strings :
    busChecked.closesOnlyFree ∧ base.closesOnlyFree ∧ probing.closesOnlyFree ∧ faulted.closesOnlyFree ∧
    oneClosed.closesOnlyFree ∧ (retesting .close true).closesOnlyFree ∧
    (inState .interrupting .off true).closesOnlyFree ∧ (inState .pendingOpen .off true).closesOnlyFree ∧
    (inState .relayClosing .off false).closesOnlyFree ∧ (inState .relayOpening .off true).closesOnlyFree ∧
    (inState .absent .off true).closesOnlyFree ∧ (inState .pendingClose .off false).closesOnlyFree ∧
    ((inState .relayClosing .off false).modString 0 fun _ => held .sup).closesOnlyFree := by
  refine ⟨?_, ?_, ?_, ?_, ?_, ?_, ?_, ?_, ?_, ?_, ?_, ?_, ?_⟩ <;> decide
theorem hyp_closesOnlyFree_in_a_search :
    (leaving .relayOpening true isolating).closesOnlyFree ∧ pulsing.closesOnlyFree ∧
    (searching .probeSwitch).closesOnlyFree ∧ (searching .verifySwitch).closesOnlyFree ∧
    (withString 0 emptyRecord .ramping .ramping true (some 100000) (searching .probeSwitch)).closesOnlyFree := by
  refine ⟨?_, ?_, ?_, ?_, ?_⟩ <;> decide
theorem hyp_holds_meet_open_relays :
    oneClosed.relaysOpen ∧ (inState .pendingClose .off false).relaysOpen := by
  refine ⟨?_, ?_⟩ <;> decide
/-- A probe in flight, with a scan at the cut temperature, or a hot one, to be taken up. -/
def heated (temperature : Int) : State :=
  (measuring .probeMeasure).modHanded fun h => { h with tsc := [scanOf 800 temperature 0] }
theorem hyp_shed_in_a_search :
    (heated 950).searchMeasuring = true ∧ (heated 950).gsu.state = .probeMeasure ∧ (heated 950).gsu.left = [] ∧
    (heated 950).noReports ∧ (heated 950).handed.tsc = [scanOf 800 950 0] ∧ (heated 950).gsu.restarts < 3 ∧
    (heated 950).victimOrder (scanOf 800 950 0) (heated 950).closedSet = [0] ∧ 0 ∈ (heated 950).gsu.measuringSet ∧
    (after .tscScanTakeUp (heated 950)).gsu.restarts = 1 ∧
    (after .tscScanTakeUp (heated 800)).gsu = (heated 800).gsu := by decide
theorem hyp_shed_in_a_search_invariants : (heated 950).closesOnlyFree ∧ (heated 950).stackRight := by
  refine ⟨?_, ?_⟩ <;> decide
/-- R9: a write of I_zero changes every indication before it moves a string, so the one free coil pulse goes to the
older entry of string 5 and not to string 2, whose crossing is delivered first. -/
theorem test_izero_is_written_for_all_strings_at_once :
    let s := (withString 1 (held .sup) .interrupting .off true none
        (withString 4 emptyRecord .absent .off true none base)).modSseq fun q => { q with
      queue := [{ string := 4, mark := .toOpen }], pulses := [{ string := 9, mark := .toOpen, endsAt := 100030 }] }
    let s := s.modMfe fun m => { m with
      fast := (m.fast.set 1 50).set 4 50, below := (m.below.set 1 false).set 4 false }
    let t := after (.writeSetting .s [0x27, 0, 0, 0, 0, 100]) s
    t.sseq.pulses.map Pulse.string = [9, 4] ∧ t.sseq.queue.map CoilEntry.string = [1] ∧
    t.switchState 1 = .pendingOpen := by decide
/-- R156: an exclusion that isolates every string closes ARRAY SAFE before the next release opens it again; the first
record of the three is the start-up's. -/
theorem test_exclusion_reports_array_safe :
    let s := after .stepTimerExpiry (((withString 0 emptyRecord .pendingClose .off false none
      ((searching .probeSwitch).modString 1 fun _ => held .search)).modFli
      fun f => { f with arraySafe := false }).modGsu fun g => { g with p := [0, 1, 2], c := [0, 1, 2], busChecked := true })
    s.gsu.e = [0] ∧ s.gsu.x = [1] ∧ s.fli.arraySafe = false ∧
    (((s.ring .s).records.filter fun x => x.kind = .arraySafe).map EventRecord.valueA) = [1, 1, 0] := by decide
theorem hyp_TheFireLoopOpensTheArray :
    let s := (searching .isolate).modFli fun f => { f with raw := .alarm, debounce := some 100000 }
    s.powered = true ∧ s.due s.fli.debounce = true ∧ s.searchActive = true ∧ s.stab.conditions.fire = false ∧
    s.fli.raw ≠ .normal ∧ acceptedAs s.fli.raw ≠ s.fli.accepted ∧ base.calm ∧ LoopClass.alarm ≠ base.fli.raw ∧
    (stringsWhere fun i => s.present i && !s.has .fire i) ≠ [] := by decide
theorem hyp_StartUpsAndTheLossOfSupply :
    base.powered = true ∧
    (base.modPorts fun q => { q with restartWait := true }).restartWaitOver = true ∧
    base.cfs.writing = none ∧ writing.cfs.writing.isSome = true ∧ restInputs.holdsAFails = false ∧
    restInputs.holdsBFails = false ∧ storedRetired.cfs.writing = none ∧
    storedRetired.cfs.holdCopies.latest.isSome = true ∧ storedRetired.cfs.settingsCopies.latest.isSome = true ∧
    (base.storeAtStart restInputs).read.settingsReplaced = true ∧
    (base.storeAtStart restInputs).read.holdsReplaced = true := by decide

end Sys2Proof.Tests
end

section
/-! SUPPORT. One report of a change of switch state, in one equation, and what the ends of a step take up. -/

namespace Sys2Proof.Machine

/-! ### The reports of a change of state (R76) -/

/-- What the reports of R76 may replace in a state, the record of an arriving string aside. -/
def ReportedOn (s t : State) : Prop :=
  ∃ a e r c l v, t = { s with arcd := a, seval := e, rcl := r, tsc := c, gsu := { s.gsu with left := l }, evr := v }

theorem ReportedOn.refl (s : State) : ReportedOn s s := ⟨_, _, _, _, _, _, rfl⟩

theorem ReportedOn.trans {s t u : State} (h : ReportedOn s t) (k : ReportedOn t u) : ReportedOn s u := by
  obtain ⟨a, e, r, c, l, v, rfl⟩ := h
  obtain ⟨a', e', r', c', l', v', rfl⟩ := k
  exact ⟨a', e', r', c', l', v', rfl⟩

theorem ReportedOn.ite {s t : State} (c : Prop) [Decidable c] (f : State → State) (hf : ∀ t, ReportedOn t (f t))
    (h : ReportedOn s t) : ReportedOn s (if c then f t else t) := by
  split
  · exact h.trans (hf t)
  · exact h

theorem State.connectedCheck_reported (s : State) : ReportedOn s s.connectedCheck := by
  obtain ⟨v, h⟩ := State.connectedCheck_eq s
  exact ⟨_, _, _, _, _, v, h⟩

/-- The search freezes an arrival by what it is told of the search, the presence and the records (R128). -/
theorem ReportedOn.freezeArrival {s t : State} (h : ReportedOn s t) (i : StringId) :
    ReportedOn { s with stab := (s.freezeArrival i).stab } (t.freezeArrival i) := by
  obtain ⟨a, e, r, c, l, v, rfl⟩ := h
  refine ⟨a, e, r, c, l, v, ?_⟩
  unfold State.freezeArrival
  by_cases hc : (s.searchActive && s.present i && !s.released i && !s.has .search i) = true
  · rw [if_pos hc]
    exact if_pos hc
  · rw [if_neg hc]
    exact if_neg hc

/-- The reports of a change of state replace what the blocks keep of strings, and the record of a string that
arrives in OPEN (R76, R128). -/
theorem State.report_eq (i : StringId) (old new : SwitchState) (s : State) :
    ∃ a e r c l v, s.report i old new =
      { s with arcd := a, seval := e, rcl := r, tsc := c, gsu := { s.gsu with left := l }, evr := v, reports := true,
               stab := if new = .opened then (s.freezeArrival i).stab else s.stab } := by
  have fin : ∀ {t u : State}, ReportedOn t u → ∃ a e r c l v, u.noteStates =
      { t with arcd := a, seval := e, rcl := r, tsc := c, gsu := { t.gsu with left := l }, evr := v,
               reports := true } := by
    rintro t _ ⟨a, e, r, c, l, v, rfl⟩
    exact ⟨a, e, r, c, l, v, rfl⟩
  unfold State.report
  have h1 := ReportedOn.ite (old = .ramping ∧ new ≠ .ramping) (State.modArcd fun a => a.rampEnd i s.now (s.cfgNat .tBlank))
    (fun _ => ⟨_, _, _, _, _, _, rfl⟩) (ReportedOn.refl s)
  have h2 := h1.ite (new = .ramping) (State.modArcd fun a => a.rampStart i) (fun _ => ⟨_, _, _, _, _, _, rfl⟩)
  have h3 := h2.ite (new = .interrupting) (State.modArcd fun a => { a with intervalBlank := true })
    (fun _ => ⟨_, _, _, _, _, _, rfl⟩)
  have h4 := h3.ite (old = .closed ∧ new ≠ .closed) (State.reportLeftClosed i) (fun _ => ⟨_, _, _, _, _, _, rfl⟩)
  have h5 := h4.ite (new = .closed ∧ old ≠ .closed) (State.reportEnteredClosed i) (fun _ => ⟨_, _, _, _, _, _, rfl⟩)
  have h6 := h5.ite (old = .relayOpening ∧ new = .opened)
    (State.modTsc fun t => { t with victim := if t.victim = some i then none else t.victim })
    (fun _ => ⟨_, _, _, _, _, _, rfl⟩)
  by_cases ho : new = .opened
  · have h7 := h6.freezeArrival i
    have h8 := h7.ite ((decide (old = .closed) != decide (new = .closed)) = true) State.connectedCheck
      State.connectedCheck_reported
    simp only [if_pos ho]
    subst ho
    exact fin h8
  · have h8 := h6.ite ((decide (old = .closed) != decide (new = .closed)) = true) State.connectedCheck
      State.connectedCheck_reported
    simp only [if_neg ho]
    exact fin h8

end Sys2Proof.Machine
end

section
/-! SUPPORT. The part of a state that the rules of closing speak of, its soundness, and what each small operation of
the Switch Sequencer does to it. -/

namespace Sys2Proof.Machine

/-! ### The view of the closing rules -/

/-- What the invariants of closing look at: targets, switches, the coil queue, the ramp list, and the units that wait
on a request of port M. -/
structure View where
  present : StringId → Bool
  holds : StringId → HoldSet
  state : StringId → SwitchState
  drive : StringId → Drive
  queue : List CoilEntry
  rampList : List StringId
  retest : Option Retest
  capture : Option Capture
  waiting : Option Outstanding

def State.view (s : State) : View :=
  { present := s.present, holds := fun i => (s.str i).holds, state := s.switchState
    drive := fun i => (s.sw i).drive, queue := s.sseq.queue, rampList := s.sseq.rampList
    retest := s.sseq.retest, capture := s.mfe.capture, waiting := (s.port .m).outstanding }

def View.target (v : View) (i : StringId) : Bool := v.present i && decide (v.holds i = noHolds)

/-- The states in which a string closes or is closed (R50). -/
@[reducible] def View.closes (v : View) (i : StringId) : Prop :=
  v.state i = .pendingClose ∨ v.state i = .rampWait ∨ v.state i = .ramping ∨ v.state i = .closed

/-- What the invariants of closing say of one string. -/
structure View.Fits (v : View) (i : StringId) : Prop where
  absent : v.present i = false → v.state i = .absent
  closing : v.closes i → v.target i = true
  drive : v.drive i ≠ .off → v.state i = .ramping ∨ v.state i = .closed
  ramp : i ∈ v.rampList → v.state i = .rampWait
  retest : ∀ r ∈ v.retest, r.string = i → v.state i = .faulted
  entry : ∀ e ∈ v.queue, e.string = i → e.mark = .toClose →
    v.state i = .pendingClose ∨ ∃ r ∈ v.retest, r.string = i ∧ r.step = .close ∧ r.pulsed = false

/-- What they say of no one string. -/
structure View.Shared (v : View) : Prop where
  nodup : v.rampList.Nodup
  retest : v.retest.isSome = true → ∃ o ∈ v.waiting, o.wait = .retest
  capture : v.capture.isSome = true → ∃ o ∈ v.waiting, o.wait = .capture

/-- The invariants of closing together. -/
structure View.Sound (v : View) : Prop where
  fits : ∀ i, v.Fits i
  shared : v.Shared

/-- The invariants of closing are those that the statements name. -/
theorem State.sound_iff (s : State) : s.view.Sound ↔ s.closesOnlyFree ∧ s.waitsRight ∧ s.entriesRight := by
  constructor
  · rintro ⟨hf, hn, hr, hc⟩
    exact ⟨⟨fun i => (hf i).absent, fun i => (hf i).closing, fun i => (hf i).drive, fun i => (hf i).ramp, hn,
      fun r h => (hf r.string).retest r h rfl⟩, ⟨hr, hc⟩, fun e he hm => (hf e.string).entry e he rfl hm⟩
  · rintro ⟨⟨ha, hc, hd, hl, hn, hr⟩, ⟨hw, hv⟩, he⟩
    exact ⟨fun i => ⟨ha i, hc i, hd i, hl i, fun r h e => e ▸ hr r h, fun e h k => k ▸ he e h⟩, hn, hw, hv⟩

/-! ### A string at work -/

/-- Nothing holds a string to its switch state: it may enter any other. -/
structure View.Loose (v : View) (i : StringId) : Prop where
  drive : v.drive i = .off
  ramp : i ∉ v.rampList
  retest : ∀ r ∈ v.retest, r.string ≠ i
  entry : ∀ e ∈ v.queue, e.string = i → e.mark ≠ .toClose

/-- The invariants hold but for what they say of one string, which is loose. -/
structure View.Clear (v : View) (i : StringId) : Prop where
  others : ∀ j, j ≠ i → v.Fits j
  loose : v.Loose i
  shared : v.Shared

/-- A view that differs from another in one string alone. -/
structure View.OffAgrees (v w : View) (i : StringId) : Prop where
  present : ∀ j, j ≠ i → w.present j = v.present j
  holds : ∀ j, j ≠ i → w.holds j = v.holds j
  state : ∀ j, j ≠ i → w.state j = v.state j
  drive : ∀ j, j ≠ i → w.drive j = v.drive j
  queue : ∀ e ∈ w.queue, e.string ≠ i → e ∈ v.queue
  ramp : ∀ j ∈ w.rampList, j ≠ i → j ∈ v.rampList
  retest : ∀ r : Retest, r.string ≠ i → (r ∈ w.retest ↔ r ∈ v.retest)

/-- The other strings fit as they did. -/
theorem View.Fits.of_offAgrees {v w : View} {i j : StringId} (h : v.OffAgrees w i) (hj : j ≠ i) (hf : v.Fits j) :
    w.Fits j := by
  have hs := h.state j hj
  refine ⟨?_, ?_, ?_, ?_, ?_, ?_⟩
  · rw [h.present j hj, hs]
    exact hf.absent
  · unfold View.closes View.target
    rw [hs, h.present j hj, h.holds j hj]
    exact hf.closing
  · rw [h.drive j hj, hs]
    exact hf.drive
  · rw [hs]
    exact fun m => hf.ramp (h.ramp j m hj)
  · rw [hs]
    exact fun r m e => hf.retest r ((h.retest r (e ▸ hj)).1 m) e
  · intro e he hi hm
    rw [hs]
    rcases hf.entry e (h.queue e he (hi ▸ hj)) hi hm with h1 | ⟨r, m, k, hr⟩
    · exact .inl h1
    · exact .inr ⟨r, (h.retest r (k ▸ hj)).2 m, k, hr⟩

/-- A change of the one string that is at work keeps the others' invariants. -/
theorem View.Clear.change {v w : View} {i : StringId} (h : v.Clear i) (ha : v.OffAgrees w i) (hl : w.Loose i)
    (hs : w.Shared) : w.Clear i :=
  ⟨fun j hj => (h.others j hj).of_offAgrees ha hj, hl, hs⟩

/-- A string at work comes to rest: in a state that its presence and its target allow. -/
theorem View.Clear.sound {v : View} {i : StringId} (h : v.Clear i) (hp : v.present i = false → v.state i = .absent)
    (hc : v.closes i → v.target i = true) : v.Sound := by
  refine ⟨fun j => ?_, h.shared⟩
  by_cases hj : j = i
  · subst hj
    obtain ⟨hd, hr, ht, he⟩ := h.loose
    exact ⟨hp, hc, fun k => absurd hd k, fun k => absurd k hr, fun r m k => absurd k (ht r m),
      fun e m k n => absurd n (he e m k)⟩
  · exact h.others j hj

/-- A string in a state that no rule of closing names is at work when its switch is off. -/
theorem View.Sound.clear {v : View} (h : v.Sound) (i : StringId)
    (hs : v.state i ≠ .pendingClose ∧ v.state i ≠ .rampWait ∧ v.state i ≠ .faulted)
    (hd : v.drive i = .off) : v.Clear i := by
  obtain ⟨hc, hr, hf⟩ := hs
  refine ⟨fun j _ => h.fits j, ⟨hd, fun k => hr ((h.fits i).ramp k), fun r m k => hf ((h.fits i).retest r m k), ?_⟩,
    h.shared⟩
  intro e m k n
  rcases (h.fits i).entry e m k n with h1 | ⟨r, h2, h3, -⟩
  · exact hc h1
  · exact hf ((h.fits i).retest r h2 h3)

/-- The switch of a string is off but in RAMPING and CLOSED. -/
theorem View.Sound.driveOff {v : View} (h : v.Sound) (i : StringId) (hs : v.state i ≠ .ramping ∧ v.state i ≠ .closed) :
    v.drive i = .off := by
  by_contra hd
  rcases (h.fits i).drive hd with k | k
  · exact hs.1 k
  · exact hs.2 k

theorem View.Sound.present {v : View} (h : v.Sound) {i : StringId} (hs : v.state i ≠ .absent) : v.present i = true := by
  by_contra hp
  exact hs ((h.fits i).absent (by simpa using hp))

/-! ### What the small operations do to the view -/

theorem State.view_modSwitch (i : StringId) (f : Switch → Switch) (s : State) :
    (s.modSwitch i f).view = { s.view with
      state := Function.update s.view.state i (f (s.sw i)).state
      drive := Function.update s.view.drive i (f (s.sw i)).drive } := by
  have hs : (s.modSwitch i f).switchState = Function.update s.switchState i (f (s.sw i)).state := by
    funext j
    by_cases hj : j = i <;> simp [State.switchState, State.sw_modSwitch, hj]
  have hd : (fun j => ((s.modSwitch i f).sw j).drive) =
      Function.update (fun j => (s.sw j).drive) i (f (s.sw i)).drive := by
    funext j
    by_cases hj : j = i <;> simp [State.sw_modSwitch, hj]
  unfold State.view
  rw [hs, hd]
  rfl

/-- A change of a switch that keeps its state and its drive. -/
theorem State.view_modSwitch_same (i : StringId) (f : Switch → Switch) (s : State)
    (h : ∀ w, (f w).state = w.state ∧ (f w).drive = w.drive) : (s.modSwitch i f).view = s.view := by
  rw [State.view_modSwitch, (h _).1, (h _).2]
  have hs : Function.update s.view.state i (s.sw i).state = s.view.state := Function.update_eq_self i _
  have hd : Function.update s.view.drive i (s.sw i).drive = s.view.drive :=
    Function.update_eq_self i (fun j => (s.sw j).drive)
  rw [hs, hd]

theorem State.view_drive (i : StringId) (d : Drive) (s : State) :
    (s.drive i d).view = { s.view with drive := Function.update s.view.drive i d } := by
  rw [State.drive, State.view_modSwitch]
  have hs : Function.update s.view.state i (s.sw i).state = s.view.state := Function.update_eq_self i _
  rw [hs]

theorem State.view_modString (i : StringId) (f : StringRecord → StringRecord) (s : State) :
    (s.modString i f).view = { s.view with holds := Function.update s.view.holds i (f (s.str i)).holds } := by
  have hh : (fun j => ((s.modString i f).str j).holds) =
      Function.update (fun j => (s.str j).holds) i (f (s.str i)).holds := by
    funext j
    by_cases hj : j = i <;> simp [State.str_modString, hj]
  unfold State.view
  rw [hh]
  rfl

/-- A change of a record that keeps its holds. -/
theorem State.view_modString_same (i : StringId) (f : StringRecord → StringRecord) (s : State)
    (h : ∀ r, (f r).holds = r.holds) : (s.modString i f).view = s.view := by
  rw [State.view_modString, h]
  have hh : Function.update s.view.holds i (s.str i).holds = s.view.holds :=
    Function.update_eq_self i (fun j => (s.str j).holds)
  rw [hh]

/-- A string enters a state: its state is new, and in OPEN its holds may be (R128). -/
theorem State.view_enter (i : StringId) (new : SwitchState) (timer : Option Nat) (s : State) :
    ∃ h, (s.enter i new timer).view = { s.view with
        state := Function.update s.view.state i new, holds := Function.update s.view.holds i h } ∧
      (new ≠ .opened → h = s.view.holds i) := by
  unfold State.enter
  obtain ⟨a, e, r, c, l, v, heq⟩ := State.report_eq i (s.switchState i) new
    ((s.modSwitch i fun w => { w with state := new, timer := timer }).modSseq fun q =>
      { q with curtail := allStrings.any fun j => decide ((q.switches[j]).state = .curtailWait) })
  have base : ((s.modSwitch i fun w => { w with state := new, timer := timer }).modSseq fun q =>
      { q with curtail := allStrings.any fun j => decide ((q.switches[j]).state = .curtailWait) }).view =
      { s.view with state := Function.update s.view.state i new } := by
    have h := State.view_modSwitch i (fun w => { w with state := new, timer := timer }) s
    have hd : Function.update s.view.drive i (s.sw i).drive = s.view.drive :=
      Function.update_eq_self i (fun j => (s.sw j).drive)
    rw [hd] at h
    exact h
  have hself : Function.update s.view.holds i (s.view.holds i) = s.view.holds := Function.update_eq_self i _
  simp only [] at heq ⊢
  rw [heq]
  generalize hu : ((s.modSwitch i fun w => { w with state := new, timer := timer }).modSseq fun q =>
      { q with curtail := allStrings.any fun j => decide ((q.switches[j]).state = .curtailWait) }) = u at *
  by_cases ho : new = .opened
  · by_cases hz : (u.searchActive && u.present i && !u.released i && !u.has .search i) = true
    · have hz' : u.freezeArrival i = u.modString i fun x => x.put .search := if_pos hz
      refine ⟨((u.str i).put .search).holds, ?_, fun k => absurd ho k⟩
      have hv := State.view_modString i (fun x => x.put .search) u
      rw [base] at hv
      rw [if_pos ho, hz']
      exact hv
    · have hz' : u.freezeArrival i = u := if_neg hz
      refine ⟨s.view.holds i, ?_, fun _ => rfl⟩
      rw [if_pos ho, hz', hself]
      exact base
  · refine ⟨s.view.holds i, ?_, fun _ => rfl⟩
    rw [if_neg ho, hself]
    exact base

theorem State.view_emitAt (time : Uptime) (k : EventKind) (i : Option StringId) (a b : Int) (s : State) :
    (s.emitAt time k i a b).view = s.view := by
  obtain ⟨r, h⟩ := State.emitAt_eq time k i a b s
  rw [h]; rfl

theorem State.view_emit (k : EventKind) (i : Option StringId) (a b : Int) (s : State) :
    (s.emit k i a b).view = s.view := State.view_emitAt _ k i a b s

theorem State.view_askCommit (r : StoreRecord) (w : List Port) (s : State) : (s.askCommit r w).view = s.view := rfl

theorem State.view_workArraySafe (s : State) : s.workArraySafe.view = s.view := by
  unfold State.workArraySafe
  simp only []
  split
  · rfl
  · rw [State.view_emit]; rfl

/-- An addition changes the holds of its string alone. -/
theorem State.view_putHold (h : Hold) (i : StringId) (s : State) :
    ∃ x, (s.putHold h i).view = { s.view with holds := Function.update s.view.holds i x } := by
  have same : Function.update s.view.holds i (s.str i).holds = s.view.holds :=
    Function.update_eq_self i (fun j => (s.str j).holds)
  unfold State.putHold
  split
  · exact ⟨(s.str i).holds, by rw [same]⟩
  · split
    · split
      · exact ⟨_, State.view_modString i (fun r => { r with faultKind := some _ }) s⟩
      · exact ⟨(s.str i).holds, by rw [same]⟩
    · cases h <;> exact ⟨_, State.view_modString i (fun r => r.put _) s⟩

/-! ### Coil queue and ramp list -/

theorem State.mem_joinQueue (i : StringId) (m : Mark) (s : State) (e : CoilEntry)
    (h : e ∈ (s.joinQueue i m).sseq.queue) : e ∈ s.sseq.queue ∨ e = { string := i, mark := m } := by
  unfold State.joinQueue at h
  split at h
  · exact .inl h
  · simpa using h

theorem State.view_joinQueue (i : StringId) (m : Mark) (s : State) :
    (s.joinQueue i m).view = { s.view with queue := (s.joinQueue i m).sseq.queue } := by
  unfold State.joinQueue
  split <;> rfl

end Sys2Proof.Machine
end

section
/-! SUPPORT. What the moving of strings leaves alone beside the blocks' own state: the clock, the settings, the stored
copies and the write in progress, the waiting commands, the last samples and the records handed over, and every port
that waits for nothing of the sequencer. -/

namespace Sys2Proof.Machine

/-! ### The ground of a state -/

/-- The part of a state that no block's work between two commands touches. -/
structure Ground where
  powered : Bool
  now : Nat
  settings : Settings
  settingsCopies : Copies Settings
  holdCopies : Copies HoldRecord
  writing : Option Write
  key : Key
  restartWait : Bool
  pending : List Instr
  samples : Option Samples
  handed : Handed

def State.ground (s : State) : Ground :=
  { powered := s.powered, now := s.now, settings := s.settings, settingsCopies := s.cfs.settingsCopies
    holdCopies := s.cfs.holdCopies, writing := s.cfs.writing, key := s.ports.key
    restartWait := s.ports.restartWait, pending := s.pending
    samples := s.mfe.samples, handed := s.handed }

/-- A port has no request outstanding that waits for a capture or a retest. -/
def PortState.NoUnit (q : PortState) : Prop := ∀ o ∈ q.outstanding, o.wait ≠ .capture ∧ o.wait ≠ .retest

theorem PortState.noUnit_of_none {q : PortState} (h : q.outstanding = none) : q.NoUnit := by
  simp [PortState.NoUnit, h]

/-- One state comes of another by work that keeps its ground and its ports; port M may lose the request of a capture or
of a retest. -/
structure Still (s t : State) : Prop where
  ground : t.ground = s.ground
  keeps : ∀ p, (p = .m → (s.port p).NoUnit) → t.port p = s.port p

theorem Still.refl (s : State) : Still s s := ⟨rfl, fun _ _ => rfl⟩

theorem Still.trans {s t u : State} (h : Still s t) (k : Still t u) : Still s u :=
  ⟨k.ground.trans h.ground, fun p hp => by
    have h1 := h.keeps p hp
    exact (k.keeps p fun e => h1 ▸ hp e).trans h1⟩

theorem Still.port {s t : State} (h : Still s t) (p : Port) (hp : p = .m → (s.port p).outstanding = none) :
    t.port p = s.port p := h.keeps p fun e => PortState.noUnit_of_none (hp e)

/-- Work that changes neither the ground nor a port. -/
theorem Still.quiet {s t u : State} (h : Still s t) (hg : u.ground = t.ground) (hp : u.ports = t.ports) : Still s u :=
  h.trans ⟨hg, fun p _ => by simp only [State.port, hp]⟩

theorem Still.settings {s t : State} (h : Still s t) : t.settings = s.settings := congrArg Ground.settings h.ground

theorem Still.samples {s t : State} (h : Still s t) : t.mfe.samples = s.mfe.samples := congrArg Ground.samples h.ground

theorem Still.handed {s t : State} (h : Still s t) : t.handed = s.handed := congrArg Ground.handed h.ground

theorem Still.now {s t : State} (h : Still s t) : t.now = s.now := congrArg Ground.now h.ground

theorem Still.present {s t : State} (h : Still s t) (i : StringId) : t.present i = s.present i := by
  simp only [State.present, State.strSet, h.settings]

theorem Still.cfg {s t : State} (h : Still s t) (k : Setting) : t.cfg k = s.cfg k := by
  simp only [State.cfg, h.settings]

theorem Still.cfgNat {s t : State} (h : Still s t) (k : Setting) : t.cfgNat k = s.cfgNat k := by
  simp only [State.cfgNat, h.cfg]

/-- What every application of an operation keeps still, its application to a list of strings keeps still. -/
theorem Still.forStrings {f : StringId → State → State} (hf : ∀ i s, Still s (f i s)) (xs : List StringId) {s t : State}
    (h : Still s t) : Still s (forStrings f xs t) := by
  induction xs generalizing t with
  | nil => exact h
  | cons i xs ih => exact ih (h.trans (hf i t))

/-! ### Events, commits and records -/

variable {s t : State}

theorem Still.emitAt (h : Still s t) (time : Uptime) (k : EventKind) (i : Option StringId) (a b : Int) :
    Still s (t.emitAt time k i a b) := by
  obtain ⟨r, e⟩ := State.emitAt_eq time k i a b t
  rw [e]
  exact h.quiet rfl rfl

theorem Still.emit (h : Still s t) (k : EventKind) (i : Option StringId) (a b : Int) : Still s (t.emit k i a b) :=
  h.emitAt _ k i a b

theorem Still.askCommit (h : Still s t) (r : StoreRecord) (w : List Port) : Still s (t.askCommit r w) := h.quiet rfl rfl

theorem Still.modSseq (h : Still s t) (f : Sseq → Sseq) : Still s (t.modSseq f) := h.quiet rfl rfl

theorem Still.modSwitch (h : Still s t) (i : StringId) (f : Switch → Switch) : Still s (t.modSwitch i f) :=
  h.quiet rfl rfl

theorem Still.modString (h : Still s t) (i : StringId) (f : StringRecord → StringRecord) : Still s (t.modString i f) :=
  h.quiet rfl rfl

theorem Still.endUnitWait (h : Still s t) {w : Wait} (hw : w = .capture ∨ w = .retest) : Still s (t.endUnitWait w) := by
  refine h.trans ?_
  unfold State.endUnitWait
  split
  · next o ho =>
    split
    · next hk =>
      unfold State.endOutstanding
      split
      · refine ⟨rfl, fun p hp => ?_⟩
        have hm : p ≠ .m := fun e => by
          subst e
          obtain ⟨h1, h2⟩ := hp rfl o ho
          rcases hw with rfl | rfl
          · exact h1 hk
          · exact h2 hk
        rw [State.port_reply, if_neg hm, State.port_modPort, if_neg hm]
      · exact Still.refl t
    · exact Still.refl t
  · exact Still.refl t

theorem Still.abandonCapture (h : Still s t) (i : StringId) : Still s (t.abandonCapture i) := by
  unfold State.abandonCapture
  split
  · split
    · exact Still.endUnitWait (h.quiet (u := t.modMfe _) rfl rfl) (.inl rfl)
    · exact h
  · exact h

theorem Still.putHold (h : Still s t) (x : Hold) (i : StringId) : Still s (t.putHold x i) := by
  obtain ⟨r, q, y, e⟩ := State.putHold_eq x i t
  rw [e]
  exact h.quiet rfl rfl

theorem Still.reportRemoval (h : Still s t) (k : HoldKind) (i : StringId) : Still s (t.reportRemoval k i) := by
  unfold State.reportRemoval
  split
  · exact h.quiet rfl rfl
  · exact h.quiet rfl rfl
  · exact h.abandonCapture i
  · exact h

theorem Still.takeHold (h : Still s t) (k : HoldKind) (i : StringId) : Still s (t.takeHold k i) := by
  unfold State.takeHold
  split
  · exact h
  · have k1 := h.modString i fun r => if t.freezes k i then (r.take k).put .search else r.take k
    simp only []
    split
    · exact (k1.askCommit .holds []).reportRemoval k i
    · exact k1.reportRemoval k i

theorem Still.workArraySafe (h : Still s t) : Still s t.workArraySafe := by
  unfold State.workArraySafe
  simp only []
  split
  · exact h
  · exact Still.emit (h.quiet (u := t.modFli _) rfl rfl) _ _ _ _

theorem Still.takeReports (h : Still s t) : Still s t.takeReports := by
  unfold State.takeReports
  split
  · unfold State.checkCapture
    have k : Still s (t.modReports fun _ => false).workArraySafe :=
      Still.workArraySafe (h.quiet (u := t.modReports _) rfl rfl)
    split
    · split
      · exact k
      · exact k.abandonCapture _
    · exact k
  · exact h

/-! ### The sequencer's operations -/

theorem Still.enter (h : Still s t) (i : StringId) (new : SwitchState) (timer : Option Nat) :
    Still s (t.enter i new timer) := by
  obtain ⟨a, e, r, c, l, v, heq⟩ := State.report_eq i (t.switchState i) new
    ((t.modSwitch i fun w => { w with state := new, timer := timer }).modSseq fun q =>
      { q with curtail := allStrings.any fun j => decide ((q.switches[j]).state = .curtailWait) })
  unfold State.enter
  simp only [] at heq ⊢
  rw [heq]
  exact h.quiet rfl rfl

theorem Still.joinQueue (h : Still s t) (i : StringId) (m : Mark) : Still s (t.joinQueue i m) := by
  unfold State.joinQueue
  split
  · exact h
  · exact h.modSseq _

theorem Still.drive (h : Still s t) (i : StringId) (d : Drive) : Still s (t.drive i d) := h.modSwitch i _

theorem Still.setTimer (h : Still s t) (i : StringId) (x : Option Nat) : Still s (t.setTimer i x) := h.modSwitch i _

theorem Still.startDwell (h : Still s t) (i : StringId) : Still s (t.startDwell i) := h.modSwitch i _

theorem Still.leaveQueue (h : Still s t) (i : StringId) : Still s (t.leaveQueue i) := h.modSseq _

theorem Still.leaveRampList (h : Still s t) (i : StringId) : Still s (t.leaveRampList i) := h.modSseq _

theorem Still.becomeFaulted (h : Still s t) (i : StringId) (kind : FaultKind) : Still s (t.becomeFaulted i kind) := by
  have k := ((((h.drive i .off).leaveQueue i).leaveRampList i).modSwitch i fun w => { w with dwell := .stopped }).enter
    i .faulted none
  unfold State.becomeFaulted
  exact (k.putHold (.switch kind) i).takeReports.emit _ _ _ _

theorem Still.replaceFault (h : Still s t) (i : StringId) (kind : FaultKind) : Still s (t.replaceFault i kind) :=
  (h.putHold _ i).takeReports.emit _ _ _ _

theorem Still.enterCurtailWait (h : Still s t) (i : StringId) : Still s (t.enterCurtailWait i) :=
  ((h.modSwitch i _).enter i _ _).emit _ _ _ _

theorem Still.pendingOpenQ (h : Still s t) (i : StringId) : Still s (t.pendingOpenQ i) := by
  have k := (h.enter i .pendingOpen none).joinQueue i .toOpen
  unfold State.pendingOpenQ
  simp only []
  split
  · exact k
  · exact k.enterCurtailWait i

theorem Still.interruptQ (h : Still s t) (i : StringId) : Still s (t.interruptQ i) := by
  have k := (h.drive i .off).enter i .interrupting (some ((t.drive i .off).after ((t.drive i .off).cfgNat .tInterrupt)))
  unfold State.interruptQ
  simp only []
  split
  · exact k.pendingOpenQ i
  · exact k

theorem Still.pendingCloseQ (h : Still s t) (i : StringId) : Still s (t.pendingCloseQ i) := by
  unfold State.pendingCloseQ
  exact (h.enter i _ _).modSwitch i _

theorem Still.joinIfReadyQ (h : Still s t) (i : StringId) : Still s (t.joinIfReadyQ i) := by
  unfold State.joinIfReadyQ
  split
  · exact h.joinQueue i _
  · exact h

theorem Still.testAndJoinQ (h : Still s t) (i : StringId) : Still s (t.testAndJoinQ i) := by
  unfold State.testAndJoinQ
  split
  · exact (h.modSwitch i _).joinIfReadyQ i
  · exact h

theorem Still.startRamp (h : Still s t) (i : StringId) : Still s (t.startRamp i) :=
  ((h.modSseq _).modSwitch i _).enter i _ _

theorem Still.rampStarts (n : Nat) (h : Still s t) : Still s (State.rampStarts n t) := by
  induction n generalizing t with
  | zero => exact h
  | succ n ih =>
    unfold State.rampStarts
    split
    · exact h
    · split
      · exact ih (h.startRamp _)
      · exact h

theorem Still.acceptClosedQ (h : Still s t) (i : StringId) : Still s (t.acceptClosedQ i) := by
  unfold State.acceptClosedQ
  split
  · exact Still.rampStarts _ ((h.enter i _ _).modSseq _)
  · exact h.pendingOpenQ i

theorem Still.acceptOpenQ (h : Still s t) (i : StringId) : Still s (t.acceptOpenQ i) := by
  have k := (((h.startDwell i).emit .stringIsolated (some i) 0 0).enter i .opened none).takeReports
  unfold State.acceptOpenQ
  simp only []
  split
  · exact k.pendingCloseQ i
  · exact k

theorem Still.setRetestMark (h : Still s t) (i : StringId) (b : Bool) : Still s (t.setRetestMark i b) := h.quiet rfl rfl

theorem Still.retestStepQ (h : Still s t) (i : StringId) (step : RetestStep) : Still s (t.retestStepQ i step) :=
  (h.modSseq _).joinQueue i _

theorem Still.endRetest (h : Still s t) (i : StringId) : Still s (t.endRetest i) := h.quiet rfl rfl

/-- The reply of a retest that has succeeded waits for the hold record's commit (R97). -/
theorem Still.deferRetest (h : Still s t) {code : Byte} (ho : (t.port .m).outstanding = some ⟨code, .retest⟩)
    (r : Wait) : Still s ((t.startWait .m code r).askCommit .holds [.m]) := by
  refine (h.trans (u := t.startWait .m code r) ⟨rfl, fun p hp => ?_⟩).askCommit _ _
  have hm : p ≠ .m := fun e => by
    subst e
    exact (hp rfl _ ho).2 rfl
  rw [State.startWait, State.port_modPort, if_neg hm]

theorem Still.retestSucceedsQ (h : Still s t) (i : StringId) : Still s (t.retestSucceedsQ i) := by
  have k := ((((h.takeHold .switch i).endRetest i).startDwell i).enter i .opened none).takeReports
  unfold State.retestSucceedsQ
  simp only []
  generalize ((((t.takeHold .switch i).endRetest i).startDwell i).enter i .opened none).takeReports = u at k ⊢
  split
  · next code ho =>
    have k1 := k.deferRetest ho (.commit .done [])
    split
    · exact k1.pendingCloseQ i
    · exact k1
  · split
    · exact k.pendingCloseQ i
    · exact k

theorem Still.retestFails (h : Still s t) (i : StringId) (kind : FaultKind) : Still s (t.retestFails i kind) :=
  ((Still.replaceFault (h.modSseq _) i kind).endRetest i).takeReports.endUnitWait (.inr rfl)

theorem Still.retestPassesQ (h : Still s t) (i : StringId) (step : RetestStep) : Still s (t.retestPassesQ i step) := by
  cases step
  · exact h.retestStepQ i _
  · exact h.retestStepQ i _
  · exact h.retestSucceedsQ i

theorem Still.grant (h : Still s t) (e : CoilEntry) : Still s (t.grant e) := by
  have k : Still s ((t.leaveQueue e.string).modSseq fun q => { q with
      pulses := q.pulses ++ [{ string := e.string, mark := e.mark,
                               endsAt := (t.leaveQueue e.string).after ((t.leaveQueue e.string).cfgNat .tCoil) }] }) :=
    h.quiet rfl rfl
  unfold State.grant
  simp only []
  split
  · split
    · exact Still.acceptClosedQ (k.enter _ _ _) _
    · exact k.enter _ _ _
  · split
    · exact k.enter _ _ _
    · exact Still.acceptOpenQ (k.enter _ _ _) _
  · exact k.modSwitch _ _
  · split
    · split
      · exact Still.retestPassesQ (k.modSseq _) _ _
      · exact k.modSseq _
    · exact k
  · exact k

theorem Still.grants (n : Nat) (h : Still s t) : Still s (State.grants n t) := by
  induction n generalizing t with
  | zero => exact h
  | succ n ih =>
    unfold State.grants
    split
    · split
      · exact ih (h.grant _)
      · exact h
    · exact h

theorem Still.arbiter (h : Still s t) : Still s t.arbiter := Still.grants _ h

theorem Still.targetTurnsOpen (h : Still s t) (i : StringId) : Still s (t.targetTurnsOpen i) := by
  unfold State.targetTurnsOpen
  split
  · exact Still.enter (h.modSseq _) _ _ _
  · exact (Still.pendingOpenQ (h.modSseq _) i).arbiter
  · exact (h.interruptQ i).arbiter
  · exact (h.interruptQ i).arbiter
  · exact h

theorem Still.targetTurnsClosed (h : Still s t) (i : StringId) : Still s (t.targetTurnsClosed i) := by
  unfold State.targetTurnsClosed
  split
  · exact ((h.pendingCloseQ i).joinIfReadyQ i).arbiter
  · exact h

theorem Still.addHold (h : Still s t) (x : Hold) (i : StringId) : Still s (t.addHold x i) := by
  unfold State.addHold
  simp only []
  split
  · exact (h.putHold x i).targetTurnsOpen i
  · exact h.putHold x i

theorem Still.removeHold (h : Still s t) (k : HoldKind) (i : StringId) : Still s (t.removeHold k i) := by
  unfold State.removeHold
  simp only []
  split
  · exact (h.takeHold k i).targetTurnsClosed i
  · exact h.takeHold k i

theorem Still.faultedFeedback (h : Still s t) (i : StringId) (closed : Bool) : Still s (t.faultedFeedback i closed) := by
  unfold State.faultedFeedback
  split
  · next r _ =>
    split
    · split
      · split
        · exact (h.retestPassesQ i r.step).arbiter
        · exact h
      · split
        · exact h
        · split
          · exact h.retestFails i _
          · exact h
        · split
          · exact h
          · exact h.retestFails i _
    · split
      · exact h.replaceFault i _
      · exact h
  · split
    · exact h.replaceFault i _
    · exact h

theorem Still.feedbackClosed (h : Still s t) (i : StringId) : Still s (t.feedbackClosed i) := by
  have k := h.modSseq fun q => { q with feedback := q.feedback.set i true }
  unfold State.feedbackClosed
  simp only []
  split
  · exact (k.acceptClosedQ i).arbiter
  · exact k.becomeFaulted i _
  · exact k.becomeFaulted i _
  · exact k.faultedFeedback i _
  · exact k

theorem Still.feedbackOpen (h : Still s t) (i : StringId) : Still s (t.feedbackOpen i) := by
  have k := h.modSseq fun q => { q with feedback := q.feedback.set i false }
  unfold State.feedbackOpen
  simp only []
  split
  · exact (k.acceptOpenQ i).arbiter
  iterate 6 exact k.becomeFaulted i _
  · exact k.faultedFeedback i _
  · exact k.setTimer i _
  · exact k

theorem Still.fellBelow (h : Still s t) (i : StringId) : Still s (t.fellBelow i) := by
  unfold State.fellBelow
  split
  · exact (h.pendingOpenQ i).arbiter
  · exact (h.pendingOpenQ i).arbiter
  · split
    · exact h.arbiter
    · exact h

theorem Still.cross (h : Still s t) (i : StringId) : Still s (t.cross i) := by
  unfold State.cross State.reachedIZero
  split
  · exact h.fellBelow i
  · split
    · exact h.enterCurtailWait i
    · exact h

theorem Still.compareFast (h : Still s t) (xs : List StringId) : Still s (t.compareFast xs) :=
  Still.forStrings (fun i u => (Still.refl u).cross i) _ (h.quiet (u := t.modMfe _) rfl rfl)

theorem Still.readFast (h : Still s t) (i : StringId) (n : Nat) : Still s (t.readFast i n) :=
  Still.compareFast (h.quiet (u := t.modMfe _) rfl rfl) _

theorem Still.pulseEnds (h : Still s t) (i : StringId) : Still s (t.pulseEnds i) := by
  unfold State.pulseEnds
  split
  · exact (h.modSseq _).arbiter
  · exact h

end Sys2Proof.Machine
end

section
/-! SUPPORT. The sequencer's operations keep the invariants of closing: a string at work is clear of them until it
comes to rest in a state that they allow (R77 to R99). -/

namespace Sys2Proof.Machine

/-! ### Changes of a view -/

theorem View.OffAgrees.of_update {v : View} {i : StringId} (x : SwitchState) (y : HoldSet) (d : Drive)
    (q : List CoilEntry) (l : List StringId) (hq : ∀ e ∈ q, e.string ≠ i → e ∈ v.queue)
    (hl : ∀ j ∈ l, j ≠ i → j ∈ v.rampList) :
    v.OffAgrees { v with state := Function.update v.state i x, holds := Function.update v.holds i y
                         drive := Function.update v.drive i d, queue := q, rampList := l } i :=
  ⟨fun _ _ => rfl, fun _ h => Function.update_of_ne h _ _, fun _ h => Function.update_of_ne h _ _,
    fun _ h => Function.update_of_ne h _ _, hq, hl, fun _ _ => Iff.rfl⟩

/-- A string at work may take any state, and its holds may change. -/
theorem View.Clear.setState {v : View} {i : StringId} (h : v.Clear i) (x : SwitchState) (y : HoldSet) :
    View.Clear { v with state := Function.update v.state i x, holds := Function.update v.holds i y } i := by
  have hd : Function.update v.drive i (v.drive i) = v.drive := Function.update_eq_self i _
  have ha := View.OffAgrees.of_update (v := v) (i := i) x y (v.drive i) v.queue v.rampList (fun _ m _ => m)
    (fun _ m _ => m)
  rw [hd] at ha
  exact h.change ha ⟨h.loose.drive, h.loose.ramp, h.loose.retest, h.loose.entry⟩ ⟨h.shared.nodup, h.shared.retest,
    h.shared.capture⟩

theorem View.Clear.setHolds {v : View} {i : StringId} (h : v.Clear i) (y : HoldSet) :
    View.Clear { v with holds := Function.update v.holds i y } i := by
  have hs : Function.update v.state i (v.state i) = v.state := Function.update_eq_self i _
  have k := h.setState (v.state i) y
  rwa [hs] at k

/-- The string's target does not matter to the invariants while its state is not one that closes. -/
theorem View.Sound.setHolds {v : View} (h : v.Sound) (i : StringId) (y : HoldSet) (hc : ¬v.closes i) :
    View.Sound { v with holds := Function.update v.holds i y } := by
  refine ⟨fun j => ?_, h.shared.nodup, h.shared.retest, h.shared.capture⟩
  have f := h.fits j
  by_cases hj : j = i
  · subst hj
    exact ⟨f.absent, fun k => absurd k hc, f.drive, f.ramp, f.retest, f.entry⟩
  · refine ⟨f.absent, fun k => ?_, f.drive, f.ramp, f.retest, f.entry⟩
    have e : Function.update v.holds i y j = v.holds j := Function.update_of_ne hj _ _
    have ht := f.closing k
    unfold View.target at ht ⊢
    simp only [e]
    exact ht

/-- A sound view stays so when a string's switch is turned off and it leaves the queue and the ramp list, and the
string is then at work, if it is under no retest. -/
theorem View.Sound.release {v : View} (h : v.Sound) (i : StringId) (hf : v.state i ≠ .faulted) (y : HoldSet)
    (d : Drive) (q : List CoilEntry) (l : List StringId) (hd : d = .off)
    (hq : q.Sublist v.queue) (hl : l.Sublist v.rampList)
    (hqi : v.state i = .pendingClose → ∀ e ∈ q, e.string ≠ i) (hli : v.state i = .rampWait → i ∉ l) :
    View.Clear { v with holds := Function.update v.holds i y, drive := Function.update v.drive i d
                        queue := q, rampList := l } i := by
  have hs : Function.update v.state i (v.state i) = v.state := Function.update_eq_self i _
  have ha := View.OffAgrees.of_update (v := v) (i := i) (v.state i) y d q l (fun _ m _ => hq.subset m)
    (fun _ m _ => hl.subset m)
  rw [hs] at ha
  refine ⟨fun j hj => (h.fits j).of_offAgrees ha hj, ⟨?_, ?_, ?_, ?_⟩, ?_⟩
  · simpa using hd
  · intro m
    exact hli ((h.fits i).ramp (hl.subset m)) m
  · intro r m k
    exact hf ((h.fits i).retest r m k)
  · intro e m k n
    rcases (h.fits i).entry e (hq.subset m) k n with h1 | ⟨r, h2, h3, -⟩
    · exact hqi h1 e m k
    · exact hf ((h.fits i).retest r h2 h3)
  · exact ⟨h.shared.nodup.sublist hl, h.shared.retest, h.shared.capture⟩

/-! ### Captures and replies -/

/-- A capture may have been abandoned, and its request with it (R16). -/
def View.Abandons (v w : View) : Prop :=
  w = v ∨ ∃ o, w = { v with capture := none, waiting := o } ∧
    (o = v.waiting ∨ o = none ∧ ∃ x ∈ v.waiting, x.wait = .capture)

theorem View.Shared.abandons {v w : View} (h : v.Shared) (k : v.Abandons w) : w.Shared := by
  rcases k with rfl | ⟨o, rfl, ho⟩
  · exact h
  · refine ⟨h.nodup, fun hr => ?_, fun hc => by simp at hc⟩
    rcases ho with rfl | ⟨-, x, hx, hw⟩
    · exact h.retest hr
    · obtain ⟨y, hy, hy'⟩ := h.retest hr
      rw [Option.mem_def] at hx hy
      rw [hx] at hy
      cases hy
      simp [hw] at hy'

theorem View.Abandons.fits {v w : View} (k : v.Abandons w) {j : StringId} (h : v.Fits j) : w.Fits j := by
  rcases k with rfl | ⟨o, rfl, -⟩
  · exact h
  · exact ⟨h.absent, h.closing, h.drive, h.ramp, h.retest, h.entry⟩

theorem View.Abandons.loose {v w : View} (k : v.Abandons w) {j : StringId} (h : v.Loose j) : w.Loose j := by
  rcases k with rfl | ⟨o, rfl, -⟩
  · exact h
  · exact ⟨h.drive, h.ramp, h.retest, h.entry⟩

theorem View.Sound.abandons {v w : View} (h : v.Sound) (k : v.Abandons w) : w.Sound :=
  ⟨fun i => k.fits (h.fits i), h.shared.abandons k⟩

theorem View.Clear.abandons {v w : View} {i : StringId} (h : v.Clear i) (k : v.Abandons w) : w.Clear i :=
  ⟨fun j hj => k.fits (h.others j hj), k.loose h.loose, h.shared.abandons k⟩

/-- The end of a capture's or a retest's request clears it from port M, if it is the one that waits. -/
theorem State.view_endUnitWait (w : Wait) (s : State) :
    (s.endUnitWait w).view = s.view ∨
    (s.endUnitWait w).view = { s.view with waiting := none } ∧ ∃ o ∈ s.view.waiting, o.wait = w := by
  unfold State.endUnitWait
  split
  · next o ho =>
    split
    · next hw =>
      refine .inr ⟨?_, o, ho, hw⟩
      simp only [State.endOutstanding, ho]
      rfl
    · exact .inl rfl
  · exact .inl rfl

theorem State.view_abandonCapture (i : StringId) (s : State) : s.view.Abandons (s.abandonCapture i).view := by
  unfold State.abandonCapture
  split
  · split
    · rcases State.view_endUnitWait .capture (s.modMfe fun m => { m with capture := none }) with h | ⟨h, hw⟩
      · exact .inr ⟨s.view.waiting, h, .inl rfl⟩
      · exact .inr ⟨none, h, .inr ⟨rfl, hw⟩⟩
    · exact .inl rfl
  · exact .inl rfl

theorem State.view_takeReports (s : State) : s.view.Abandons s.takeReports.view := by
  unfold State.takeReports
  split
  · have h : (s.modReports fun _ => false).workArraySafe.view = s.view := State.view_workArraySafe _
    rw [← h]
    unfold State.checkCapture
    split
    · split
      · exact .inl rfl
      · exact State.view_abandonCapture _ _
    · exact .inl rfl
  · exact .inl rfl

theorem View.Abandons.state {v w : View} (k : v.Abandons w) : w.state = v.state := by
  rcases k with rfl | ⟨o, rfl, -⟩ <;> rfl

theorem View.Abandons.retest {v w : View} (k : v.Abandons w) : w.retest = v.retest := by
  rcases k with rfl | ⟨o, rfl, -⟩ <;> rfl

/-! ### A string at work goes on -/

variable {s : State} {i : StringId}

theorem State.present_view (s : State) (i : StringId) : s.view.present i = s.present i := rfl

theorem View.Clear.enter (h : s.view.Clear i) (new : SwitchState) (timer : Option Nat) :
    (s.enter i new timer).view.Clear i := by
  obtain ⟨y, e, -⟩ := State.view_enter i new timer s
  rw [e]
  exact h.setState new y

theorem State.switchState_enter (i j : StringId) (new : SwitchState) (timer : Option Nat) (s : State) :
    (s.enter i new timer).switchState j = if j = i then new else s.switchState j := by
  simp only [State.switchState, State.sw_enter]
  split <;> rfl

theorem View.Clear.emit (h : s.view.Clear i) (k : EventKind) (x : Option StringId) (a b : Int) :
    (s.emit k x a b).view.Clear i := by
  rwa [State.view_emit]

theorem View.Sound.emit (h : s.view.Sound) (k : EventKind) (x : Option StringId) (a b : Int) :
    (s.emit k x a b).view.Sound := by
  rwa [State.view_emit]

theorem View.Clear.takeReports (h : s.view.Clear i) : s.takeReports.view.Clear i :=
  h.abandons s.view_takeReports

theorem View.Sound.takeReports (h : s.view.Sound) : s.takeReports.view.Sound := h.abandons s.view_takeReports

theorem View.Clear.putHold (h : s.view.Clear i) (x : Hold) : (s.putHold x i).view.Clear i := by
  obtain ⟨y, e⟩ := State.view_putHold x i s
  rw [e]
  exact h.setHolds y

theorem View.Clear.joinOpen (h : s.view.Clear i) : (s.joinQueue i .toOpen).view.Clear i := by
  have mem : ∀ e ∈ (s.joinQueue i .toOpen).sseq.queue, e ∈ s.sseq.queue ∨ e = { string := i, mark := .toOpen } :=
    fun e => State.mem_joinQueue i .toOpen s e
  rw [State.view_joinQueue]
  refine h.change ⟨fun _ _ => rfl, fun _ _ => rfl, fun _ _ => rfl, fun _ _ => rfl, fun e m k => ?_, fun _ m _ => m,
    fun _ _ => Iff.rfl⟩ ⟨h.loose.drive, h.loose.ramp, h.loose.retest, fun e m k => ?_⟩
    ⟨h.shared.nodup, h.shared.retest, h.shared.capture⟩
  · rcases mem e m with h1 | rfl
    · exact h1
    · exact absurd rfl k
  · rcases mem e m with h1 | rfl
    · exact h.loose.entry e h1 k
    · simp

/-- A string at work that is PRESENT rests in any state but those that close. -/
theorem View.Clear.rest (h : s.view.Clear i) (hp : s.present i = true) (hc : ¬s.view.closes i) : s.view.Sound :=
  h.sound (fun k => by rw [State.present_view, hp] at k; cases k) fun k => absurd k hc

theorem View.Clear.enterCurtailWait (h : s.view.Clear i) : (s.enterCurtailWait i).view.Clear i := by
  unfold State.enterCurtailWait
  have k : (s.modSwitch i fun w => { w with periods := 0 }).view.Clear i := by
    rw [State.view_modSwitch_same]
    · exact h
    · exact fun _ => ⟨rfl, rfl⟩
  exact (k.enter .curtailWait _).emit _ _ _ _

theorem State.switchState_emit (k : EventKind) (x : Option StringId) (a b : Int) (s : State) (j : StringId) :
    (s.emit k x a b).switchState j = s.switchState j := congrFun (congrArg View.state (State.view_emit k x a b s)) j

theorem State.switchState_joinQueue (i : StringId) (m : Mark) (s : State) (j : StringId) :
    (s.joinQueue i m).switchState j = s.switchState j := by
  have := congrFun (congrArg View.state (State.view_joinQueue i m s)) j
  exact this

theorem State.switchState_takeReports (s : State) (j : StringId) : s.takeReports.switchState j = s.switchState j :=
  congrFun s.view_takeReports.state j

theorem State.switchState_putHold (x : Hold) (i : StringId) (s : State) (j : StringId) :
    (s.putHold x i).switchState j = s.switchState j := by
  obtain ⟨y, e⟩ := State.view_putHold x i s
  have h : (s.putHold x i).view.state = s.view.state := by rw [e]
  exact congrFun h j

theorem State.switchState_enterCurtailWait (i j : StringId) (s : State) :
    (s.enterCurtailWait i).switchState j = if j = i then .curtailWait else s.switchState j := by
  unfold State.enterCurtailWait
  rw [State.switchState_emit, State.switchState_enter]
  by_cases hj : j = i <;> simp [hj, State.switchState, State.sw_modSwitch]

/-- A string at work goes to PENDING_OPEN, or to CURTAIL_WAIT under current (R87, R89). -/
theorem State.switchState_pendingOpenQ (i j : StringId) (s : State) :
    (s.pendingOpenQ i).switchState j = if j = i then
      (if ((s.enter i .pendingOpen none).joinQueue i .toOpen).below i then .pendingOpen else .curtailWait)
      else s.switchState j := by
  unfold State.pendingOpenQ
  simp only []
  split
  · rw [State.switchState_joinQueue, State.switchState_enter]
  · rw [State.switchState_enterCurtailWait, State.switchState_joinQueue, State.switchState_enter]
    by_cases hj : j = i <;> simp [hj]

theorem View.Clear.pendingOpenQ (h : s.view.Clear i) (hp : s.present i = true) : (s.pendingOpenQ i).view.Sound := by
  have hs := State.switchState_pendingOpenQ i i s
  refine View.Clear.rest (i := i) ?_ (((Still.refl s).pendingOpenQ i).present i ▸ hp) ?_
  · unfold State.pendingOpenQ
    simp only []
    split
    · exact (h.enter .pendingOpen none).joinOpen
    · exact (h.enter .pendingOpen none).joinOpen.enterCurtailWait
  · rw [if_pos rfl] at hs
    intro k
    unfold View.closes at k
    rw [show (s.pendingOpenQ i).view.state i = (s.pendingOpenQ i).switchState i from rfl, hs] at k
    split at k <;> simp at k

/-- A string at work that is PRESENT enters a state that does not close. -/
theorem View.Clear.enterRest (h : s.view.Clear i) (hp : s.present i = true) (new : SwitchState) (timer : Option Nat)
    (hn : new ≠ .pendingClose ∧ new ≠ .rampWait ∧ new ≠ .ramping ∧ new ≠ .closed) :
    (s.enter i new timer).view.Sound := by
  refine (h.enter new timer).rest (((Still.refl s).enter i new timer).present i ▸ hp) ?_
  intro k
  unfold View.closes at k
  rw [show (s.enter i new timer).view.state i = (s.enter i new timer).switchState i from rfl,
    State.switchState_enter, if_pos rfl] at k
  simp [hn] at k

theorem State.target_view (s : State) (i : StringId) : s.view.target i = s.target i := rfl

/-- A string's target does not change as it enters a state other than OPEN. -/
theorem State.target_enter (i j : StringId) (new : SwitchState) (timer : Option Nat) (s : State) (hn : new ≠ .opened) :
    (s.enter i new timer).target j = s.target j := by
  obtain ⟨y, e, hy⟩ := State.view_enter i new timer s
  rw [hy hn, Function.update_eq_self] at e
  rw [← State.target_view, e]
  rfl

/-- A string at work whose target is CLOSED enters a state that closes. -/
theorem View.Clear.enterClosing (h : s.view.Clear i) (ht : s.target i = true) (new : SwitchState) (timer : Option Nat)
    (hn : new ≠ .opened) : (s.enter i new timer).view.Sound := by
  refine (h.enter new timer).sound (fun k => ?_) fun _ => ?_
  · rw [State.present_view, ((Still.refl s).enter i new timer).present i] at k
    simp [State.target, k] at ht
  · rw [State.target_view, State.target_enter _ _ _ _ _ hn, ht]

theorem View.Clear.pendingCloseQ (h : s.view.Clear i) (ht : s.target i = true) : (s.pendingCloseQ i).view.Sound := by
  unfold State.pendingCloseQ
  simp only []
  rw [State.view_modSwitch_same]
  · exact h.enterClosing ht .pendingClose _ (by simp)
  · exact fun _ => ⟨rfl, rfl⟩

theorem View.Sound.joinClose (h : s.view.Sound) (hs : s.switchState i = .pendingClose) :
    (s.joinQueue i .toClose).view.Sound := by
  rw [State.view_joinQueue]
  refine ⟨fun j => ?_, h.shared.nodup, h.shared.retest, h.shared.capture⟩
  have f := h.fits j
  refine ⟨f.absent, f.closing, f.drive, f.ramp, f.retest, fun e m k n => ?_⟩
  rcases State.mem_joinQueue i .toClose s e m with h1 | rfl
  · exact f.entry e h1 k n
  · subst k
    exact .inl hs

theorem View.Sound.joinIfReadyQ (h : s.view.Sound) (i : StringId) : (s.joinIfReadyQ i).view.Sound := by
  unfold State.joinIfReadyQ
  split
  · next hs => exact h.joinClose hs.1
  · exact h

theorem View.Sound.testAndJoinQ (h : s.view.Sound) (i : StringId) : (s.testAndJoinQ i).view.Sound := by
  unfold State.testAndJoinQ
  split
  · refine View.Sound.joinIfReadyQ ?_ i
    rw [State.view_modSwitch_same]
    · exact h
    · exact fun _ => ⟨rfl, rfl⟩
  · exact h

/-! ### Ramps (R82) -/

theorem View.Sound.startRamp (h : s.view.Sound) {rest : List StringId} (hl : s.sseq.rampList = i :: rest) :
    (s.startRamp i).view.Sound := by
  have hi : s.view.state i = .rampWait := (h.fits i).ramp (by rw [show s.view.rampList = _ from hl]; simp)
  have ht : s.target i = true := (h.fits i).closing (.inr (.inl hi))
  have hd : s.view.drive i = .off := h.driveOff i (by simp [hi])
  have hn : i ∉ rest := by
    have := h.shared.nodup
    rw [show s.view.rampList = _ from hl] at this
    simp at this
    exact this.1
  have base : (s.modSseq fun q => { q with
      rampList := q.rampList.drop 1
      slot := some { startedAt := s.now, freeAt := s.after (s.cfgNat .tSpace) } }).view =
      { s.view with rampList := rest } := by
    simp only [State.view, State.modSseq, hl]
    rfl
  unfold State.startRamp
  simp only []
  generalize s.modSseq (fun q => { q with
    rampList := q.rampList.drop 1
    slot := some { startedAt := s.now, freeAt := s.after (s.cfgNat .tSpace) } }) = u at base ⊢
  generalize htm : some (u.after (u.cfgNat .tRamp)) = tm
  obtain ⟨y, e, hy⟩ := State.view_enter i .ramping tm (u.drive i .ramping)
  rw [hy (by simp), Function.update_eq_self, State.view_drive, base] at e
  rw [e]
  have ha : s.view.OffAgrees { s.view with
      rampList := rest, drive := Function.update s.view.drive i .ramping
      state := Function.update s.view.state i .ramping } i :=
    ⟨fun _ _ => rfl, fun _ _ => rfl, fun _ k => Function.update_of_ne k _ _, fun _ k => Function.update_of_ne k _ _,
      fun _ m _ => m, fun j m _ => by rw [show s.view.rampList = _ from hl]; simp [m], fun _ _ => Iff.rfl⟩
  refine ⟨fun j => ?_, ?_, h.shared.retest, h.shared.capture⟩
  · by_cases hj : j = i
    · subst hj
      have f := h.fits j
      have hst : Function.update s.view.state j .ramping j = .ramping := Function.update_self ..
      refine ⟨fun k => ?_, fun _ => ht, fun _ => .inl hst, fun m => absurd m hn, fun r m k => ?_, fun x m k n => ?_⟩
      · have := f.absent k
        simp [hi] at this
      · have := f.retest r m k
        simp [hi] at this
      · rcases f.entry x m k n with h1 | ⟨r, m', k', -⟩
        · simp [hi] at h1
        · have := f.retest r m' k'
          simp [hi] at this
    · exact (h.fits j).of_offAgrees ha hj
  · have := h.shared.nodup
    rw [show s.view.rampList = _ from hl] at this
    exact (List.nodup_cons.1 this).2

theorem View.Sound.rampStarts (n : Nat) {s : State} (h : s.view.Sound) : (State.rampStarts n s).view.Sound := by
  induction n generalizing s with
  | zero => exact h
  | succ n ih =>
    unfold State.rampStarts
    split
    · exact h
    · next hl =>
      split
      · exact ih (h.startRamp hl)
      · exact h

theorem View.Clear.acceptClosedQ (h : s.view.Clear i) (hp : s.present i = true) : (s.acceptClosedQ i).view.Sound := by
  unfold State.acceptClosedQ
  split
  · next ht =>
    refine View.Sound.rampStarts _ ?_
    have k := h.enter .rampWait none
    have ks := h.enterClosing ht .rampWait none (by simp)
    have hs : (s.enter i .rampWait none).view.state i = .rampWait := by
      rw [show (s.enter i .rampWait none).view.state i = (s.enter i .rampWait none).switchState i from rfl,
        State.switchState_enter, if_pos rfl]
    refine ⟨fun j => ?_, ?_, ks.shared.retest, ks.shared.capture⟩
    · have f := ks.fits j
      refine ⟨f.absent, f.closing, f.drive, fun m => ?_, f.retest, f.entry⟩
      rcases List.mem_append.1 m with h1 | h1
      · exact f.ramp h1
      · rw [List.mem_singleton.1 h1]
        exact hs
    · exact List.Nodup.append ks.shared.nodup (List.nodup_singleton i) 
        (List.disjoint_singleton.2 k.loose.ramp)
  · exact h.pendingOpenQ hp

/-! ### Arrival in OPEN (R89) -/

theorem View.Clear.startDwell (h : s.view.Clear i) : (s.startDwell i).view.Clear i := by
  unfold State.startDwell
  rw [State.view_modSwitch_same]
  · exact h
  · exact fun _ => ⟨rfl, rfl⟩

/-- A string at work that has arrived in OPEN rests there, or goes to PENDING_CLOSE where its target is CLOSED. -/
theorem View.Clear.arrive (h : s.view.Clear i) (hp : s.present i = true) (hs : s.switchState i = .opened) :
    (if s.target i then s.pendingCloseQ i else s).view.Sound := by
  split
  · next ht => exact h.pendingCloseQ ht
  · refine h.rest hp fun c => ?_
    unfold View.closes at c
    rw [show s.view.state i = _ from hs] at c
    simp at c

theorem View.Clear.acceptOpenQ (h : s.view.Clear i) (hp : s.present i = true) : (s.acceptOpenQ i).view.Sound := by
  have k := ((h.startDwell.emit .stringIsolated (some i) 0 0).enter .opened none).takeReports
  have w := ((((Still.refl s).startDwell i).emit .stringIsolated (some i) 0 0).enter i .opened none).takeReports
  have hs := State.switchState_enter i i .opened none ((s.startDwell i).emit .stringIsolated (some i) 0 0)
  rw [if_pos rfl, ← State.switchState_takeReports] at hs
  exact k.arrive ((w.present i).trans hp) hs

end Sys2Proof.Machine
end

section
/-! SUPPORT. The retest, the Coil Arbiter, faults and changed targets keep the invariants of closing (R50, R90 to
R98). -/

namespace Sys2Proof.Machine

variable {s : State} {i : StringId}

/-! ### Leaving the queue and the ramp list -/

theorem State.view_leaveQueue (i : StringId) (s : State) :
    (s.leaveQueue i).view = { s.view with queue := s.view.queue.filter fun e => e.string != i } := rfl

theorem State.view_leaveRampList (i : StringId) (s : State) :
    (s.leaveRampList i).view = { s.view with rampList := s.view.rampList.filter fun j => j != i } := rfl

theorem View.Sound.leaveQueue (h : s.view.Sound) (i : StringId) : (s.leaveQueue i).view.Sound := by
  refine ⟨fun j => ?_, h.shared.nodup, h.shared.retest, h.shared.capture⟩
  have f := h.fits j
  exact ⟨f.absent, f.closing, f.drive, f.ramp, f.retest, fun e m k n => f.entry e (List.mem_filter.1 m).1 k n⟩

/-- No entry of a string is left when it has left the queue. -/
theorem not_mem_filter_string (q : List CoilEntry) (i : StringId) :
    ∀ e ∈ q.filter fun e => e.string != i, e.string ≠ i := by
  intro e m
  simpa using (List.mem_filter.1 m).2

/-- A string that leaves the queue with its switch off is at work, but under a retest and in RAMP_WAIT. -/
theorem View.Sound.leaveQueue_clear {v : View} (h : v.Sound) (i : StringId) (y : HoldSet)
    (hs : v.state i ≠ .faulted ∧ v.state i ≠ .rampWait) (hd : v.drive i = .off) :
    View.Clear { v with holds := Function.update v.holds i y, queue := v.queue.filter fun e => e.string != i } i := by
  have hd' : Function.update v.drive i .off = v.drive := hd ▸ Function.update_eq_self i _
  have k := h.release i hs.1 y .off (v.queue.filter fun e => e.string != i) v.rampList rfl List.filter_sublist
    (List.Sublist.refl _) (fun _ => not_mem_filter_string _ _) (fun m => absurd m hs.2)
  rwa [hd'] at k

/-! ### Faults (R90, R91) -/

theorem View.Sound.becomeFaulted (h : s.view.Sound) (hf : s.switchState i ≠ .faulted) (hp : s.present i = true)
    (kind : FaultKind) : (s.becomeFaulted i kind).view.Sound := by
  have hh : Function.update s.view.holds i (s.view.holds i) = s.view.holds := Function.update_eq_self i _
  have k := h.release i hf (s.view.holds i) .off (s.view.queue.filter fun e => e.string != i)
    (s.view.rampList.filter fun j => j != i) rfl List.filter_sublist List.filter_sublist
    (fun _ => not_mem_filter_string _ _) (fun _ m => by simp at m)
  rw [hh] at k
  have base : ((((s.drive i .off).leaveQueue i).leaveRampList i).modSwitch i fun w => { w with dwell := .stopped }).view
      = { s.view with drive := Function.update s.view.drive i .off
                      queue := s.view.queue.filter fun e => e.string != i
                      rampList := s.view.rampList.filter fun j => j != i } := by
    rw [State.view_modSwitch_same]
    · rw [State.view_leaveRampList, State.view_leaveQueue, State.view_drive]
    · exact fun _ => ⟨rfl, rfl⟩
  rw [← base] at k
  have w := ((((Still.refl s).drive i .off).leaveQueue i).leaveRampList i).modSwitch i
    fun w => { w with dwell := .stopped }
  have k' := ((k.enter .faulted none).putHold (.switch kind)).takeReports
  have w' := ((w.enter i .faulted none).putHold (.switch kind) i).takeReports
  unfold State.becomeFaulted
  refine View.Sound.emit (k'.rest ((w'.present i).trans hp) fun c => ?_) _ _ _ _
  unfold View.closes at c
  rw [show View.state _ i = State.switchState _ i from rfl, State.switchState_takeReports, State.switchState_putHold,
    State.switchState_enter, if_pos rfl] at c
  simp at c

theorem View.Sound.replaceFault (h : s.view.Sound) (hf : s.switchState i = .faulted) (kind : FaultKind) :
    (s.replaceFault i kind).view.Sound := by
  obtain ⟨y, e⟩ := State.view_putHold (.switch kind) i s
  have k := h.setHolds i y (by unfold View.closes; rw [show s.view.state i = _ from hf]; simp)
  rw [← e] at k
  unfold State.replaceFault
  exact k.takeReports.emit _ _ _ _

/-! ### The retest (R96 to R98) -/

/-- A string is under a retest whose step has been granted: but for the retest it is at work. -/
structure View.Tests (v : View) (i : StringId) : Prop where
  clear : View.Clear { v with retest := none } i
  faulted : v.state i = .faulted
  present : v.present i = true
  waits : ∃ o ∈ v.waiting, o.wait = .retest

theorem View.Sound.tests {v : View} (h : v.Sound) {r : Retest} (hr : v.retest = some r)
    (hg : r.pulsed = true ∨ r.step ≠ .close) : v.Tests r.string := by
  have mem : r ∈ v.retest := hr
  have hf := (h.fits r.string).retest r mem rfl
  have off := h.driveOff r.string (by simp [hf])
  have hw := h.shared.retest (by simp [hr])
  refine ⟨⟨fun j hj => ?_, ⟨off, fun m => ?_, fun _ m => by simp at m, fun e m k n => ?_⟩, ?_⟩, hf,
    h.present (by simp [hf]), hw⟩
  · have f := h.fits j
    refine ⟨f.absent, f.closing, f.drive, f.ramp, fun _ m => by simp at m, fun e m k n => ?_⟩
    rcases f.entry e m k n with h1 | ⟨r', m', k', -⟩
    · exact .inl h1
    · rw [hr] at m'
      cases m'
      exact absurd k'.symm hj
  · have := (h.fits r.string).ramp m
    simp [hf] at this
  · rcases (h.fits r.string).entry e m k n with h1 | ⟨r', m', -, hs, hp⟩
    · simp [hf] at h1
    · rw [hr] at m'
      cases m'
      rcases hg with hg | hg
      · simp [hg] at hp
      · exact hg hs
  · exact ⟨h.shared.nodup, fun m => by simp at m, h.shared.capture⟩

/-- A step of a retest begins: its entry joins the queue. -/
theorem View.Tests.beginStep (h : s.view.Tests i) (step : RetestStep) (timer : Option Nat) :
    ((s.modSseq fun q => { q with
      retest := some { string := i, step := step, pulsed := false, timer := timer } }).joinQueue i step.mark).view.Sound
    := by
  rw [State.view_joinQueue]
  obtain ⟨hc, hf, hp, hw⟩ := h
  refine ⟨fun j => ?_, hc.shared.nodup, fun _ => hw, hc.shared.capture⟩
  have mem := State.mem_joinQueue i step.mark (s.modSseq fun q => { q with
    retest := some { string := i, step := step, pulsed := false, timer := timer } })
  by_cases hj : j = i
  · subst hj
    refine ⟨fun k => ?_, fun k => ?_, fun k => absurd hc.loose.drive k, fun k => absurd k hc.loose.ramp, fun _ _ _ => hf,
      fun e m k n => ?_⟩
    · change s.view.present j = false at k
      rw [hp] at k
      cases k
    · change s.view.closes j at k
      unfold View.closes at k
      simp [hf] at k
    · rcases mem e m with h1 | rfl
      · exact absurd n (hc.loose.entry e h1 k)
      · refine .inr ⟨_, rfl, rfl, ?_, rfl⟩
        cases step <;> simp [RetestStep.mark] at n ⊢
  · have f := hc.others j hj
    refine ⟨f.absent, f.closing, f.drive, f.ramp, fun r m k => ?_, fun e m k n => ?_⟩
    · cases m
      exact absurd k.symm hj
    · rcases mem e m with h1 | rfl
      · rcases f.entry e h1 k n with h2 | ⟨_, m', -⟩
        · exact .inl h2
        · simp at m'
      · exact absurd k.symm hj

theorem View.Tests.retestStepQ (h : s.view.Tests i) (step : RetestStep) : (s.retestStepQ i step).view.Sound :=
  h.beginStep step _

theorem State.view_endRetest (i : StringId) (s : State) :
    (s.endRetest i).view = { s.view with retest := none, queue := s.view.queue.filter fun e => e.string != i } := rfl

theorem View.Tests.endRetest (h : s.view.Tests i) : (s.endRetest i).view.Clear i := by
  rw [State.view_endRetest]
  refine h.clear.change ⟨fun _ _ => rfl, fun _ _ => rfl, fun _ _ => rfl, fun _ _ => rfl,
    fun _ m _ => (List.mem_filter.1 m).1, fun _ m _ => m, fun _ _ => Iff.rfl⟩
    ⟨h.clear.loose.drive, h.clear.loose.ramp, h.clear.loose.retest,
      fun e m k => absurd k (not_mem_filter_string _ _ e m)⟩ ?_
  exact ⟨h.clear.shared.nodup, h.clear.shared.retest, h.clear.shared.capture⟩

/-- The retest of a string ends, and the string stays FAULTED. -/
theorem View.Sound.endRetest (h : s.view.Sound) (hr : ∀ r ∈ s.sseq.retest, r.string = i) :
    (s.endRetest i).view.Sound := by
  rw [State.view_endRetest]
  refine ⟨fun j => ?_, h.shared.nodup, fun m => by simp at m, h.shared.capture⟩
  have f := h.fits j
  refine ⟨f.absent, f.closing, f.drive, f.ramp, fun _ m => by simp at m, fun e m k n => ?_⟩
  obtain ⟨m1, m2⟩ := List.mem_filter.1 m
  rcases f.entry e m1 k n with h1 | ⟨r, m', k', -⟩
  · exact .inl h1
  · simp [k, ← k', hr r m'] at m2

/-- The removal of a hold changes the holds of its string and may abandon a capture (R16, R43). -/
theorem State.view_takeHold (k : HoldKind) (i : StringId) (s : State) :
    ∃ y, View.Abandons { s.view with holds := Function.update s.view.holds i y } (s.takeHold k i).view := by
  have same : Function.update s.view.holds i (s.str i).holds = s.view.holds :=
    Function.update_eq_self i (fun j => (s.str j).holds)
  have rep : ∀ t : State, t.view.Abandons (t.reportRemoval k i).view := by
    intro t
    unfold State.reportRemoval
    split
    · exact .inl rfl
    · exact .inl rfl
    · exact State.view_abandonCapture i t
    · exact .inl rfl
  unfold State.takeHold
  split
  · exact ⟨(s.str i).holds, .inl (by rw [same])⟩
  · have e := State.view_modString i (fun r => if s.freezes k i then (r.take k).put .search else r.take k) s
    refine ⟨(if s.freezes k i then ((s.str i).take k).put .search else (s.str i).take k).holds, ?_⟩
    rw [← e]
    simp only []
    generalize s.modString i (fun r => if s.freezes k i then (r.take k).put .search else r.take k) = u
    split
    · exact rep (u.askCommit .holds [])
    · exact rep u

theorem State.switchState_takeHold (k : HoldKind) (i j : StringId) (s : State) :
    (s.takeHold k i).switchState j = s.switchState j := by
  obtain ⟨y, e⟩ := State.view_takeHold k i s
  exact congrFun e.state j

theorem View.Tests.takeSwitch (h : s.view.Tests i) : (s.takeHold .switch i).view.Tests i := by
  obtain ⟨y, e⟩ := State.view_takeHold .switch i s
  have hc : View.Clear { s.view with retest := none, holds := Function.update s.view.holds i y } i := h.clear.setHolds y
  have base : View.Tests { s.view with holds := Function.update s.view.holds i y } i :=
    ⟨hc, h.faulted, h.present, h.waits⟩
  rcases e with e | ⟨o, e, ho⟩
  · rw [e]
    exact base
  · rw [e]
    obtain ⟨x, hx, hw⟩ := h.waits
    have ho' : o = s.view.waiting := by
      rcases ho with rfl | ⟨-, z, hz, hz'⟩
      · rfl
      · change z ∈ s.view.waiting at hz
        rw [Option.mem_def] at hx hz
        rw [hx] at hz
        cases hz
        simp [hw] at hz'
    subst ho'
    exact ⟨hc.abandons (.inr ⟨s.view.waiting, rfl, .inl rfl⟩), h.faulted, h.present, h.waits⟩

/-- The reply of a retest that has succeeded is deferred, no retest being left. -/
theorem View.Clear.deferRetest (h : s.view.Clear i) (hr : s.sseq.retest = none) {code : Byte}
    (ho : (s.port .m).outstanding = some { code := code, wait := .retest }) :
    ((s.startWait .m code (.commit .done [])).askCommit .holds [.m]).view.Clear i := by
  have e : ((s.startWait .m code (.commit .done [])).askCommit .holds [.m]).view =
      { s.view with waiting := some { code := code, wait := .commit .done [] } } := rfl
  rw [e]
  refine ⟨fun j hj => ?_, ⟨h.loose.drive, h.loose.ramp, h.loose.retest, h.loose.entry⟩, h.shared.nodup, ?_, ?_⟩
  · have f := h.others j hj
    exact ⟨f.absent, f.closing, f.drive, f.ramp, f.retest, f.entry⟩
  · intro m
    simp [State.view, hr] at m
  · intro m
    obtain ⟨o, mo, wo⟩ := h.shared.capture m
    rw [show s.view.waiting = _ from ho] at mo
    cases mo
    simp at wo

theorem View.Tests.retestSucceedsQ (h : s.view.Tests i) : (s.retestSucceedsQ i).view.Sound := by
  have k := (h.takeSwitch.endRetest.startDwell.enter .opened none).takeReports
  have w := (((((Still.refl s).takeHold .switch i).endRetest i).startDwell i).enter i .opened none).takeReports
  have hs := State.switchState_enter i i .opened none (((s.takeHold .switch i).endRetest i).startDwell i)
  rw [if_pos rfl, ← State.switchState_takeReports] at hs
  have hr : ((((s.takeHold .switch i).endRetest i).startDwell i).enter i .opened none).takeReports.sseq.retest
      = none := by
    have e1 := (State.view_takeReports ((((s.takeHold .switch i).endRetest i).startDwell i).enter i .opened none)).retest
    obtain ⟨y, e2, -⟩ := State.view_enter i .opened none (((s.takeHold .switch i).endRetest i).startDwell i)
    rw [e2] at e1
    exact e1
  have hp := (w.present i).trans h.present
  unfold State.retestSucceedsQ
  simp only []
  generalize ((((s.takeHold .switch i).endRetest i).startDwell i).enter i .opened none).takeReports = u at k w hs hr hp ⊢
  split
  · next code ho => exact (k.deferRetest hr ho).arrive hp hs
  · exact k.arrive hp hs

theorem View.Tests.retestPassesQ (h : s.view.Tests i) (step : RetestStep) : (s.retestPassesQ i step).view.Sound := by
  cases step
  · exact h.retestStepQ _
  · exact h.retestStepQ _
  · exact h.retestSucceedsQ

/-- The end of a retest's request, no retest being left. -/
theorem View.Sound.endRetestWait (h : s.view.Sound) (hr : s.sseq.retest = none) :
    (s.endUnitWait .retest).view.Sound := by
  rcases State.view_endUnitWait .retest s with e | ⟨e, o, ho, hw⟩
  · rwa [e]
  · rw [e]
    refine ⟨fun j => ?_, h.shared.nodup, fun m => ?_, fun m => ?_⟩
    · have f := h.fits j
      exact ⟨f.absent, f.closing, f.drive, f.ramp, f.retest, f.entry⟩
    · simp [State.view, hr] at m
    · obtain ⟨o', mo, wo⟩ := h.shared.capture m
      rw [Option.mem_def] at ho mo
      rw [ho] at mo
      cases mo
      simp [hw] at wo

/-- A retest that ends early or fails leaves its string FAULTED, and port M gets STATE (R96, R98). -/
theorem View.Sound.retestEnds (h : s.view.Sound) (hr : ∀ r ∈ s.sseq.retest, r.string = i) :
    ((s.endRetest i).takeReports.endUnitWait .retest).view.Sound := by
  have e := (State.view_takeReports (s.endRetest i)).retest
  exact (h.endRetest hr).takeReports.endRetestWait e

theorem State.retest_replaceFault (i : StringId) (kind : FaultKind) (s : State) :
    (s.replaceFault i kind).sseq.retest = s.sseq.retest := by
  obtain ⟨y, e⟩ := State.view_putHold (.switch kind) i s
  have e1 := (State.view_takeReports (s.putHold (.switch kind) i)).retest
  rw [e] at e1
  unfold State.replaceFault
  exact (congrArg View.retest (State.view_emit _ _ _ _ _)).trans e1

theorem View.Sound.retestFails (h : s.view.Sound) (hr : ∀ r ∈ s.sseq.retest, r.string = i)
    (hf : s.switchState i = .faulted) (kind : FaultKind) : (s.retestFails i kind).view.Sound := by
  unfold State.retestFails
  refine View.Sound.retestEnds ((h.leaveQueue i).replaceFault hf kind) ?_
  rw [State.retest_replaceFault]
  exact hr

/-! ### The Coil Arbiter (R92, R93) -/

/-- A grantable entry of a FAULTED string is that of the retest's step. -/
theorem State.grantable_faulted {e : CoilEntry} (hg : s.grantable e = true)
    (hf : s.switchState e.string = .faulted) {r : Retest} (hr : s.sseq.retest = some r) : r.string = e.string := by
  have hw : s.retestWaits e.string e.mark = true := by
    unfold State.grantable at hg
    split at hg <;> rename_i hm <;> rw [hm] <;> simp [hf] at hg
    · exact hg.2
    · exact hg
  unfold State.retestWaits at hw
  rw [hr] at hw
  simp at hw
  exact hw.1.1

/-- The granted step of a retest has its pulse: the view with the entry gone and the step marked. -/
theorem View.Sound.pulse {v : View} (h : v.Sound) {r r' : Retest} (hr : v.retest = some r) (hs : r'.string = r.string) :
    View.Sound { v with retest := some r', queue := v.queue.filter fun e => e.string != r.string } := by
  refine ⟨fun j => ?_, h.shared.nodup, fun _ => h.shared.retest (by simp [hr]), h.shared.capture⟩
  have f := h.fits j
  refine ⟨f.absent, f.closing, f.drive, f.ramp, fun x m k => ?_, fun e m k n => ?_⟩
  · cases m
    exact f.retest r hr (hs ▸ k)
  · obtain ⟨m1, m2⟩ := List.mem_filter.1 m
    rcases f.entry e m1 k n with h1 | ⟨x, mx, kx, -⟩
    · exact .inl h1
    · rw [hr] at mx
      cases mx
      simp [k, kx] at m2

/-- The first half of a grant: the entry leaves the queue and its pulse starts. -/
def State.pulseStarts (e : CoilEntry) (s : State) : State :=
  (s.leaveQueue e.string).modSseq fun q => { q with
    pulses := q.pulses ++ [{ string := e.string, mark := e.mark, endsAt := s.after (s.cfgNat .tCoil) }] }

/-- The second half of a grant: the string goes on by its state. -/
def State.goesOn (i : StringId) (s : State) : State :=
  match s.switchState i with
  | .pendingClose =>
    let s := s.enter i .relayClosing (some (s.after (s.cfgNat .tConfirm)))
    if s.feedback i then s.acceptClosedQ i else s
  | .pendingOpen =>
    let s := s.enter i .relayOpening (some (s.after (s.cfgNat .tConfirm)))
    if s.feedback i then s else s.acceptOpenQ i
  | .absent => s.setTimer i (if s.feedback i then some (s.after (s.cfgNat .tConfirm)) else none)
  | .faulted =>
    match s.sseq.retest with
    | some r =>
      let t := s.modSseq fun q => { q with
        retest := some { r with pulsed := true, timer := some (s.after (s.cfgNat .tConfirm)) } }
      if r.step.mark.shown (t.feedback i) then t.retestPassesQ i r.step else t
    | none => s
  | _ => s

theorem State.grant_eq (e : CoilEntry) (s : State) : s.grant e = (s.pulseStarts e).goesOn e.string := rfl

theorem State.view_pulseStarts (e : CoilEntry) (s : State) :
    (s.pulseStarts e).view = { s.view with queue := s.view.queue.filter fun x => x.string != e.string } := rfl

theorem Still.pulseStarts (e : CoilEntry) (s : State) : Still s (s.pulseStarts e) :=
  ((Still.refl s).leaveQueue _).modSseq _

theorem View.Sound.stepGranted {v : View} (h : v.Sound) {r : Retest} (hr : v.retest = some r) {u : State}
    (e : u.view = { v with queue := v.queue.filter fun x => x.string != r.string }) (timer : Option Nat) :
    (u.modSseq fun q => { q with retest := some { r with pulsed := true, timer := timer } }).view.Sound ∧
    (u.modSseq fun q => { q with retest := some { r with pulsed := true, timer := timer } }).view.Tests r.string := by
  have k : View.Sound { u.view with retest := some { r with pulsed := true, timer := timer } } := by
    rw [e]
    exact h.pulse (r' := { r with pulsed := true, timer := timer }) hr rfl
  exact ⟨k, k.tests (r := { r with pulsed := true, timer := timer }) rfl (.inl rfl)⟩

theorem View.Sound.grant (h : s.view.Sound) {e : CoilEntry} (hg : s.grantable e = true) : (s.grant e).view.Sound := by
  have hh : Function.update s.view.holds e.string (s.view.holds e.string) = s.view.holds :=
    Function.update_eq_self _ _
  have clear (hs : s.switchState e.string ≠ .faulted ∧ s.switchState e.string ≠ .rampWait)
      (hd : s.view.drive e.string = .off) := h.leaveQueue_clear e.string (s.view.holds e.string) hs hd
  rw [hh] at clear
  have sound := h.leaveQueue e.string
  have still := Still.pulseStarts e s
  have view := State.view_pulseStarts e s
  rw [State.grant_eq]
  generalize s.pulseStarts e = u at still view ⊢
  have state : u.switchState e.string = s.switchState e.string := congrFun (congrArg View.state view) _
  rw [State.view_leaveQueue, ← view] at sound
  unfold State.goesOn
  simp only []
  split
  · next hs =>
    rw [state] at hs
    have k : u.view.Clear e.string := by
      rw [view]
      exact clear (by simp [hs]) (h.driveOff _ (by simp [State.view, hs]))
    have hp : u.present e.string = true := (still.present _).trans (h.present (by simp [State.view, hs]))
    split
    · exact (k.enter _ _).acceptClosedQ ((((Still.refl u).enter _ _ _).present _).trans hp)
    · exact k.enterRest hp _ _ (by simp)
  · next hs =>
    rw [state] at hs
    have k : u.view.Clear e.string := by
      rw [view]
      exact clear (by simp [hs]) (h.driveOff _ (by simp [State.view, hs]))
    have hp : u.present e.string = true := (still.present _).trans (h.present (by simp [State.view, hs]))
    split
    · exact k.enterRest hp _ _ (by simp)
    · exact (k.enter _ _).acceptOpenQ ((((Still.refl u).enter _ _ _).present _).trans hp)
  · unfold State.setTimer
    rw [State.view_modSwitch_same]
    · exact sound
    · exact fun _ => ⟨rfl, rfl⟩
  · next hs =>
    rw [state] at hs
    split
    · next r hr =>
      have hr' : s.view.retest = some r := (congrArg View.retest view).symm.trans hr
      have hi := State.grantable_faulted hg hs hr'
      have k := h.stepGranted hr' (u := u) (by rw [view, hi]) (some (u.after (u.cfgNat .tConfirm)))
      rw [← hi]
      split
      · exact k.2.retestPassesQ r.step
      · exact k.1
    · exact sound
  · exact sound

theorem View.Sound.grants (n : Nat) {s : State} (h : s.view.Sound) : (State.grants n s).view.Sound := by
  induction n generalizing s with
  | zero => exact h
  | succ n ih =>
    unfold State.grants
    split
    · split
      · next e he => exact ih (h.grant (s.nextGrant_mem e he).2)
      · exact h
    · exact h

theorem View.Sound.arbiter (h : s.view.Sound) : s.arbiter.view.Sound := h.grants _

/-! ### Changed targets (R50, R78, R84 to R86) -/

theorem View.Clear.interruptQ (hc : (s.drive i .off).view.Clear i) (hp : s.present i = true) :
    (s.interruptQ i).view.Sound := by
  have k := hc.enter .interrupting (some ((s.drive i .off).after ((s.drive i .off).cfgNat .tInterrupt)))
  have w := ((Still.refl s).drive i .off).enter i .interrupting
    (some ((s.drive i .off).after ((s.drive i .off).cfgNat .tInterrupt)))
  unfold State.interruptQ
  simp only []
  split
  · exact k.pendingOpenQ ((w.present i).trans hp)
  · exact hc.enterRest ((((Still.refl s).drive i .off).present i).trans hp) _ _ (by simp)

/-- A sound state in which one string's holds have changed is sound again when its target's opening has been taken up
by the sequencer. -/
theorem View.Sound.targetTurnsOpen {v : View} (h : v.Sound) {y : HoldSet}
    (e : s.view = { v with holds := Function.update v.holds i y }) : (s.targetTurnsOpen i).view.Sound := by
  have state : s.switchState i = v.state i := congrFun (congrArg View.state e) i
  have hp (hs : s.switchState i ≠ .absent) : s.present i = true :=
    (congrFun (congrArg View.present e) i).trans (h.present (state ▸ hs))
  have off (hs : s.switchState i = .ramping ∨ s.switchState i = .closed) : (s.drive i .off).view.Clear i := by
    rw [State.view_drive, e]
    rw [state] at hs
    exact h.release i (by rcases hs with hs | hs <;> simp [hs]) y .off v.queue v.rampList rfl (List.Sublist.refl _)
      (List.Sublist.refl _) (fun k => by simp [k] at hs) (fun k => by simp [k] at hs)
  unfold State.targetTurnsOpen
  split
  · next hs =>
    have hs' : v.state i = .pendingClose := state ▸ hs
    have k : (s.leaveQueue i).view.Clear i := by
      rw [State.view_leaveQueue, e]
      exact h.leaveQueue_clear i y (by simp [hs']) (h.driveOff i (by simp [hs']))
    exact k.enterRest ((((Still.refl s).leaveQueue i).present i).trans (hp (by simp [hs]))) _ _ (by simp)
  · next hs =>
    have hs' : v.state i = .rampWait := state ▸ hs
    have hd : Function.update v.drive i .off = v.drive :=
      (h.driveOff i (by simp [hs'])) ▸ Function.update_eq_self i _
    have k : (s.leaveRampList i).view.Clear i := by
      have := h.release i (by simp [hs']) y .off v.queue (v.rampList.filter fun j => j != i) rfl (List.Sublist.refl _)
        List.filter_sublist (fun k => by simp [hs'] at k) (fun _ m => by simp at m)
      rw [hd] at this
      rw [State.view_leaveRampList, e]
      exact this
    exact (k.pendingOpenQ ((((Still.refl s).leaveRampList i).present i).trans (hp (by simp [hs])))).arbiter
  · next hs => exact ((off (.inl hs)).interruptQ (hp (by simp [hs]))).arbiter
  · next hs => exact ((off (.inr hs)).interruptQ (hp (by simp [hs]))).arbiter
  · next h1 h2 h3 h4 =>
    rw [e]
    exact h.setHolds i y fun c => by
      unfold View.closes at c
      rw [← state] at c
      rcases c with c | c | c | c
      · exact h1 c
      · exact h2 c
      · exact h3 c
      · exact h4 c

theorem View.Sound.targetTurnsClosed (h : s.view.Sound) (ht : s.target i = true) :
    (s.targetTurnsClosed i).view.Sound := by
  unfold State.targetTurnsClosed
  split
  · next hs =>
    have k := h.clear i (by simp [State.view, hs]) (h.driveOff i (by simp [State.view, hs]))
    exact ((k.pendingCloseQ ht).joinIfReadyQ i).arbiter
  · exact h

theorem View.Sound.addHold (h : s.view.Sound) (x : Hold) (i : StringId) : (s.addHold x i).view.Sound := by
  obtain ⟨y, e⟩ := State.view_putHold x i s
  unfold State.addHold
  simp only []
  split
  · exact h.targetTurnsOpen e
  · next hc =>
    by_cases ht : s.target i = true
    · have ht' : (s.putHold x i).view.target i = true := by
        rw [State.target_view]
        by_contra hn
        exact hc ⟨ht, by simpa using hn⟩
      rw [e] at ht' ⊢
      refine ⟨fun j => ?_, h.shared.nodup, h.shared.retest, h.shared.capture⟩
      have f := h.fits j
      by_cases hj : j = i
      · subst hj
        exact ⟨f.absent, fun _ => ht', f.drive, f.ramp, f.retest, f.entry⟩
      · have ha : s.view.OffAgrees { s.view with holds := Function.update s.view.holds i y } i :=
          ⟨fun _ _ => rfl, fun _ k => Function.update_of_ne k _ _, fun _ _ => rfl, fun _ _ => rfl,
            fun _ m _ => m, fun _ m _ => m, fun _ _ => Iff.rfl⟩
        exact f.of_offAgrees ha hj
    · rw [e]
      exact h.setHolds i y fun c => ht ((h.fits i).closing c)

theorem View.Sound.takeHold (h : s.view.Sound) (k : HoldKind) (i : StringId) : (s.takeHold k i).view.Sound := by
  by_cases hk : s.has k i = true
  · obtain ⟨y, e⟩ := State.view_takeHold k i s
    refine (h.setHolds i y fun c => ?_).abandons e
    have ht : s.target i = true := (h.fits i).closing c
    simp only [State.target, Bool.and_eq_true, decide_eq_true_eq] at ht
    rw [State.has, ht.2] at hk
    simp [noHolds] at hk
  · rw [State.takeHold_none k i s (by simpa using hk)]
    exact h

theorem View.Sound.removeHold (h : s.view.Sound) (k : HoldKind) (i : StringId) : (s.removeHold k i).view.Sound := by
  unfold State.removeHold
  simp only []
  split
  · next hc => exact (h.takeHold k i).targetTurnsClosed hc.2
  · exact h.takeHold k i

/-! ### Feedback and crossings (R81, R86 to R91) -/

theorem View.Sound.faultedFeedback (h : s.view.Sound) (hf : s.switchState i = .faulted) (closed : Bool) :
    (s.faultedFeedback i closed).view.Sound := by
  unfold State.faultedFeedback
  split
  · next r hr =>
    have one : r.string = i → ∀ x ∈ s.sseq.retest, x.string = i := by
      intro hi x m
      rw [hr] at m
      cases m
      exact hi
    split
    · next hi =>
      split
      · next hp =>
        split
        · have t := h.tests (r := r) hr (.inl hp)
          rw [hi] at t
          exact (t.retestPassesQ r.step).arbiter
        · exact h
      · split
        · exact h
        · split
          · exact h.retestFails (one hi) hf _
          · exact h
        · split
          · exact h
          · exact h.retestFails (one hi) hf _
    · split
      · exact h.replaceFault hf _
      · exact h
  · split
    · exact h.replaceFault hf _
    · exact h

theorem View.Sound.feedbackClosed (h : s.view.Sound) (i : StringId) : (s.feedbackClosed i).view.Sound := by
  have k : (s.modSseq fun q => { q with feedback := q.feedback.set i true }).view.Sound := h
  unfold State.feedbackClosed
  simp only []
  generalize s.modSseq (fun q => { q with feedback := q.feedback.set i true }) = u at k ⊢
  split
  · next hs =>
    have c := k.clear i (by simp [State.view, hs]) (k.driveOff i (by simp [State.view, hs]))
    exact (c.acceptClosedQ (k.present (by simp [State.view, hs]))).arbiter
  · next hs => exact k.becomeFaulted (by simp [hs]) (k.present (by simp [State.view, hs])) _
  · next hs => exact k.becomeFaulted (by simp [hs]) (k.present (by simp [State.view, hs])) _
  · next hs => exact k.faultedFeedback hs _
  · exact k

theorem View.Sound.setTimer (h : s.view.Sound) (i : StringId) (x : Option Nat) : (s.setTimer i x).view.Sound := by
  unfold State.setTimer
  rw [State.view_modSwitch_same]
  · exact h
  · exact fun _ => ⟨rfl, rfl⟩

theorem View.Sound.feedbackOpen (h : s.view.Sound) (i : StringId) : (s.feedbackOpen i).view.Sound := by
  have k : (s.modSseq fun q => { q with feedback := q.feedback.set i false }).view.Sound := h
  unfold State.feedbackOpen
  simp only []
  generalize s.modSseq (fun q => { q with feedback := q.feedback.set i false }) = u at k ⊢
  have fault {st : SwitchState} (hs : u.switchState i = st) (h1 : st ≠ .faulted) (h2 : st ≠ .absent) :
      (u.becomeFaulted i .lostClosed).view.Sound :=
    k.becomeFaulted (hs ▸ h1) (k.present (by rw [show u.view.state i = _ from hs]; exact h2)) _
  split
  · next hs =>
    have c := k.clear i (by simp [State.view, hs]) (k.driveOff i (by simp [State.view, hs]))
    exact (c.acceptOpenQ (k.present (by simp [State.view, hs]))).arbiter
  · next hs => exact fault hs (by simp) (by simp)
  · next hs => exact fault hs (by simp) (by simp)
  · next hs => exact fault hs (by simp) (by simp)
  · next hs => exact fault hs (by simp) (by simp)
  · next hs => exact fault hs (by simp) (by simp)
  · next hs => exact fault hs (by simp) (by simp)
  · next hs => exact k.faultedFeedback hs _
  · exact k.setTimer i _
  · exact k

theorem View.Sound.cross (h : s.view.Sound) (i : StringId) : (s.cross i).view.Sound := by
  have clear {st : SwitchState} (hs : s.switchState i = st)
      (hn : st ≠ .pendingClose ∧ st ≠ .rampWait ∧ st ≠ .faulted ∧ st ≠ .ramping ∧ st ≠ .closed) :
      s.view.Clear i :=
    h.clear i (by rw [show s.view.state i = _ from hs]; exact ⟨hn.1, hn.2.1, hn.2.2.1⟩)
      (h.driveOff i (by rw [show s.view.state i = _ from hs]; exact hn.2.2.2))
  unfold State.cross State.fellBelow State.reachedIZero
  split
  · split
    · next hs =>
      exact ((clear hs (by simp)).pendingOpenQ (h.present (by simp [State.view, hs]))).arbiter
    · next hs =>
      exact ((clear hs (by simp)).pendingOpenQ (h.present (by simp [State.view, hs]))).arbiter
    · split
      · exact h.arbiter
      · exact h
  · split
    · next hs =>
      refine (clear hs (by simp)).enterCurtailWait.rest ?_ ?_
      · rw [((Still.refl s).enterCurtailWait i).present i]
        exact h.present (by simp [State.view, hs])
      · intro c
        unfold View.closes at c
        rw [show View.state _ i = State.switchState _ i from rfl, State.switchState_enterCurtailWait, if_pos rfl] at c
        simp at c
    · exact h

theorem View.Sound.forStrings {f : StringId → State → State} (hf : ∀ i s, s.view.Sound → (f i s).view.Sound)
    (xs : List StringId) {s : State} (h : s.view.Sound) : (Machine.forStrings f xs s).view.Sound := by
  induction xs generalizing s with
  | nil => exact h
  | cons i xs ih => exact ih (hf i s h)

theorem View.Sound.compareFast (h : s.view.Sound) (xs : List StringId) : (s.compareFast xs).view.Sound :=
  View.Sound.forStrings (fun i _ k => k.cross i) _ (s := s.modMfe _) h

theorem View.Sound.pulseEnds (h : s.view.Sound) (i : StringId) : (s.pulseEnds i).view.Sound := by
  unfold State.pulseEnds
  split
  · exact View.Sound.arbiter (s := s.modSseq _) h
  · exact h

end Sys2Proof.Machine
end

section
/-! SUPPORT. What the blocks do between commands keeps the ground of the state and the invariants of closing: one walk
through the search, the scan's takers and the array conditions (chapters 2, 3 and 5 to 7). -/

namespace Sys2Proof.Machine

/-- One state comes of another by work that keeps its ground and the invariants of closing. -/
structure Keeps (s t : State) : Prop where
  still : Still s t
  sound : s.view.Sound → t.view.Sound

theorem Keeps.refl (s : State) : Keeps s s := ⟨Still.refl s, id⟩

theorem Keeps.trans {s t u : State} (h : Keeps s t) (k : Keeps t u) : Keeps s u :=
  ⟨h.still.trans k.still, fun x => k.sound (h.sound x)⟩

variable {s t : State}

/-- Work that the ground, the ports and the view do not show. -/
theorem Keeps.quiet {u : State} (h : Keeps s t) (hg : u.ground = t.ground) (hp : u.ports = t.ports)
    (hv : u.view = t.view) : Keeps s u :=
  ⟨h.still.quiet hg hp, fun x => hv ▸ h.sound x⟩

/-- A choice between two works that keep is one. -/
theorem Keeps.ite {c : Prop} [Decidable c] {a b : State} (ha : Keeps s a) (hb : Keeps s b) :
    Keeps s (if c then a else b) := by
  split
  · exact ha
  · exact hb

theorem Keeps.modImon (h : Keeps s t) (f : Imon → Imon) : Keeps s (t.modImon f) := h.quiet rfl rfl rfl
theorem Keeps.modGsu (h : Keeps s t) (f : Gsu → Gsu) : Keeps s (t.modGsu f) := h.quiet rfl rfl rfl
theorem Keeps.modTsc (h : Keeps s t) (f : Tsc → Tsc) : Keeps s (t.modTsc f) := h.quiet rfl rfl rfl
theorem Keeps.modRcl (h : Keeps s t) (i : StringId) (f : RecloseTimers → RecloseTimers) : Keeps s (t.modRcl i f) :=
  h.quiet rfl rfl rfl
theorem Keeps.modSeval (h : Keeps s t) (f : Seval → Seval) : Keeps s (t.modSeval f) := h.quiet rfl rfl rfl
theorem Keeps.modEval (h : Keeps s t) (i : StringId) (f : EvalString → EvalString) : Keeps s (t.modEval i f) :=
  h.quiet rfl rfl rfl
theorem Keeps.modArcd (h : Keeps s t) (f : Arcd → Arcd) : Keeps s (t.modArcd f) := h.quiet rfl rfl rfl
theorem Keeps.modFli (h : Keeps s t) (f : Fli → Fli) : Keeps s (t.modFli f) := h.quiet rfl rfl rfl

theorem Keeps.setConditions (h : Keeps s t) (f : Conditions → Conditions) :
    Keeps s (t.modStab fun x => { x with conditions := f x.conditions }) := h.quiet rfl rfl rfl

theorem Keeps.modString (h : Keeps s t) (i : StringId) (f : StringRecord → StringRecord)
    (hf : ∀ r, (f r).holds = r.holds) : Keeps s (t.modString i f) :=
  h.quiet rfl rfl (State.view_modString_same i f t hf)

theorem Keeps.emitAt (h : Keeps s t) (time : Uptime) (k : EventKind) (i : Option StringId) (a b : Int) :
    Keeps s (t.emitAt time k i a b) :=
  ⟨h.still.emitAt time k i a b, fun x => by rw [State.view_emitAt]; exact h.sound x⟩

theorem Keeps.emit (h : Keeps s t) (k : EventKind) (i : Option StringId) (a b : Int) : Keeps s (t.emit k i a b) :=
  h.emitAt _ k i a b

theorem Keeps.askCommit (h : Keeps s t) (r : StoreRecord) (w : List Port) : Keeps s (t.askCommit r w) :=
  h.quiet rfl rfl rfl

theorem Keeps.takeReports (h : Keeps s t) : Keeps s t.takeReports :=
  ⟨h.still.takeReports, fun x => (h.sound x).takeReports⟩

theorem Keeps.addHold (h : Keeps s t) (x : Hold) (i : StringId) : Keeps s (t.addHold x i) :=
  ⟨h.still.addHold x i, fun k => (h.sound k).addHold x i⟩

theorem Keeps.removeHold (h : Keeps s t) (k : HoldKind) (i : StringId) : Keeps s (t.removeHold k i) :=
  ⟨h.still.removeHold k i, fun x => (h.sound x).removeHold k i⟩

theorem Keeps.arbiter (h : Keeps s t) : Keeps s t.arbiter := ⟨h.still.arbiter, fun x => (h.sound x).arbiter⟩

theorem Keeps.testAndJoinQ (h : Keeps s t) (i : StringId) : Keeps s (t.testAndJoinQ i) :=
  ⟨h.still.testAndJoinQ i, fun x => (h.sound x).testAndJoinQ i⟩

theorem Keeps.forStrings {f : StringId → State → State} (hf : ∀ i s, Keeps s (f i s)) (xs : List StringId)
    (h : Keeps s t) : Keeps s (Machine.forStrings f xs t) := by
  induction xs generalizing t with
  | nil => exact h
  | cons i xs ih => exact ih (h.trans (hf i t))

theorem Keeps.addHolds (h : Keeps s t) (x : Hold) (xs : List StringId) : Keeps s (t.addHolds x xs) :=
  h.forStrings (fun i u => (Keeps.refl u).addHold x i) xs

theorem Keeps.removeHolds (h : Keeps s t) (k : HoldKind) (xs : List StringId) : Keeps s (t.removeHolds k xs) :=
  h.forStrings (fun i u => (Keeps.refl u).removeHold k i) xs

theorem Keeps.emitHoldChanged (h : Keeps s t) (k : HoldKind) (added : Bool) (cause : ChangeCause)
    (changed : List StringId) : Keeps s (t.emitHoldChanged k added cause changed) := by
  unfold State.emitHoldChanged
  split
  · exact h
  · exact h.emit _ _ _ _

theorem Keeps.takeUpOvercurrent (h : Keeps s t) (i : StringId) (current : Int) (time : Uptime) :
    Keeps s (t.takeUpOvercurrent i current time) := by
  unfold State.takeUpOvercurrent
  refine Keeps.emitAt (Keeps.modString (h.modRcl i _) i _ fun _ => ?_) _ _ _ _ _
  rfl

theorem Keeps.addOvercurrent (h : Keeps s t) (i : StringId) (current : Int) (time : Uptime) :
    Keeps s (t.addOvercurrent i current time) := by
  unfold State.addOvercurrent
  split
  · exact (h.addHold _ i).takeReports.takeUpOvercurrent i current time
  · exact h

theorem Keeps.recloseExpires (h : Keeps s t) (i : StringId) : Keeps s (t.recloseExpires i) :=
  (h.modRcl i _).removeHold _ i

theorem Keeps.stableExpires (h : Keeps s t) (i : StringId) : Keeps s (t.stableExpires i) :=
  (h.modRcl i _).modString i _ fun _ => rfl

/-! ### The Insulation Monitor and the Ground Search Unit (chapter 6) -/

theorem Keeps.startMeasurement (h : Keeps s t) (o : Owner) (p : Purpose) : Keeps s (t.startMeasurement o p) :=
  h.modImon _

theorem Keeps.startGap (h : Keeps s t) : Keeps s t.startGap := by
  unfold State.startGap
  split
  · exact h.startMeasurement _ _
  · exact h.modImon _

theorem Keeps.endSearch (h : Keeps s t) (r : SearchResult) (detail : GroundDetail) (held : List StringId) :
    Keeps s (t.endSearch r detail held) := by
  have k (u : State) (hu : Keeps s u) : Keeps s (u.startMeasurement .periodic .routine) := hu.startMeasurement _ _
  unfold State.endSearch
  refine Keeps.ite (Keeps.modImon (k _ ?_) _) (k _ ?_) <;>
    exact ((((((h.addHolds (.ground detail) held).takeReports.modGsu _).modImon _).modGsu _).removeHolds _
      _).takeReports).emit _ _ _ _

theorem Keeps.abortSearch (h : Keeps s t) : Keeps s t.abortSearch := by
  unfold State.abortSearch
  split
  · exact h.endSearch _ _ _
  · exact h

theorem Keeps.startStepTimer (h : Keeps s t) : Keeps s t.startStepTimer := h.modGsu _

theorem Keeps.searchMeasure (h : Keeps s t) (st : SearchState) : Keeps s (t.searchMeasure st) :=
  (h.modGsu _).startMeasurement _ _

theorem Keeps.verify (h : Keeps s t) : Keeps s t.verify := by
  unfold State.verify
  simp only []
  split
  · exact Keeps.endSearch (h.modGsu _) _ _ _
  · exact (Keeps.removeHolds ((h.modGsu _).modGsu _) _ _).startStepTimer

theorem Keeps.locate (h : Keeps s t) (i : StringId) : Keeps s (t.locate i) :=
  (((h.addHold _ i).takeReports.removeHold _ i).takeReports.modGsu _).verify

theorem Keeps.narrowSteps (n : Nat) (h : Keeps s t) : Keeps s (State.narrowSteps n t) := by
  induction n generalizing t with
  | zero => exact h
  | succ n ih =>
    unfold State.narrowSteps
    simp only []
    split
    · split
      · exact Keeps.endSearch (h.modGsu _) _ _ _
      · exact Keeps.locate (h.modGsu _) _
      · exact ih (h.modGsu _)
    · exact (Keeps.removeHolds ((h.modGsu _).modGsu _) _ _).startStepTimer

theorem Keeps.goOn (h : Keeps s t) : Keeps s t.goOn := by
  unfold State.goOn
  split
  · exact h.endSearch _ _ _
  · exact h.locate _
  · exact h.narrowSteps _

theorem Keeps.goOnVerifying (h : Keeps s t) : Keeps s t.goOnVerifying := by
  unfold State.goOnVerifying
  split
  · exact h.endSearch _ _ _
  · exact h

theorem Keeps.excludeAndGoOn (h : Keeps s t) (xs : List StringId) : Keeps s (t.excludeAndGoOn xs) := by
  have k := ((h.modGsu fun g => g.exclude xs).addHolds .search xs).takeReports
  unfold State.excludeAndGoOn
  simp only []
  split
  · split
    · exact k.goOn
    · exact k
  · exact k.goOnVerifying
  · exact k

theorem Keeps.abandonSearchMeasurement (h : Keeps s t) : Keeps s t.abandonSearchMeasurement := h.modImon _

theorem Keeps.discard (h : Keeps s t) (leavers : List StringId) : Keeps s (t.discard leavers) := by
  have k := ((h.abandonSearchMeasurement.modGsu fun g =>
    { g.exclude (leavers.filter fun i => t.gsu.measuringSet.contains i && !t.gsu.k.contains i) with
      state := g.state.again }).addHolds .search
    (leavers.filter fun i => t.gsu.measuringSet.contains i && !t.gsu.k.contains i)).takeReports
  unfold State.discard
  simp only []
  split
  · exact k.endSearch _ _ _
  · split
    · split
      · exact (k.modGsu _).goOn
      · exact (k.modGsu _).startStepTimer
    · split
      · exact (k.modGsu _).endSearch _ _ _
      · exact (k.modGsu _).startStepTimer
    · exact k.modGsu _

theorem Keeps.repeatMeasurement (h : Keeps s t) : Keeps s t.repeatMeasurement := by
  unfold State.repeatMeasurement
  split
  · exact h.endSearch _ _ _
  · exact (h.modGsu _).searchMeasure _

theorem Keeps.startSearch (h : Keeps s t) (cause : Nat) : Keeps s (t.startSearch cause) := by
  have k (n : Int) := ((h.modGsu fun _ => { idleGsu with p := t.closedSet, state := .isolate }).modImon
    fun m => { m with inFlight := none, gap := none }).emit .searchStarted none cause n
  unfold State.startSearch
  simp only []
  split
  · exact (k _).endSearch _ _ _
  · exact ((k _).addHolds _ _).takeReports

theorem Keeps.judgeSearch (h : Keeps s t) (reading : Nat) : Keeps s (t.judgeSearch reading) := by
  unfold State.judgeSearch
  simp only []
  split
  · split
    · exact (h.modGsu _).goOn
    · split
      · exact h.endSearch _ _ _
      · exact h.repeatMeasurement
  · split
    · exact (h.modGsu _).addHolds _ _
    · split
      · exact (h.modGsu _).goOn
      · exact h.repeatMeasurement
  · split
    · exact h.endSearch _ _ _
    · split
      · split
        · exact (h.modGsu _).addHolds _ _
        · exact h.endSearch _ _ _
      · exact h.repeatMeasurement
  · exact h

theorem Keeps.searchMeasured (h : Keeps s t) (reading : Nat) : Keeps s (t.searchMeasured reading) :=
  (h.modImon _).judgeSearch reading

theorem Keeps.stepTimerExpires (h : Keeps s t) : Keeps s t.stepTimerExpires := (h.modGsu _).excludeAndGoOn _

theorem Keeps.takeUpLeavers (h : Keeps s t) : Keeps s t.takeUpLeavers := by
  have k := h.modGsu fun g => { g with left := [] }
  unfold State.takeUpLeavers
  simp only []
  split
  iterate 3
    · split
      · exact k.discard _
      · exact k
  iterate 2
    · split
      · exact k.excludeAndGoOn _
      · exact k
  · exact k

theorem Keeps.of_some {a u : State} (hu : some a = some u) (ha : Keeps s a) : Keeps s u := Option.some.inj hu ▸ ha

theorem Keeps.searchProgress (h : Keeps s t) {u : State} (hu : t.searchProgress = some u) : Keeps s u := by
  unfold State.searchProgress at hu
  split at hu
  · exact .of_some hu h.takeUpLeavers
  · split at hu
    · split at hu
      · exact .of_some hu (Keeps.ite h.goOn (h.searchMeasure _))
      · exact absurd hu (by simp)
    · split at hu
      · exact .of_some hu h.goOn
      · split at hu
        · exact .of_some hu (h.searchMeasure _)
        · exact absurd hu (by simp)
    · split at hu
      · exact .of_some hu (h.endSearch _ _ _)
      · split at hu
        · exact .of_some hu (h.searchMeasure _)
        · exact absurd hu (by simp)
    · exact absurd hu (by simp)

theorem Keeps.settle (h : Keeps s t) : Keeps s t.settle := by
  have steps (n : Nat) : ∀ t : State, Keeps s t → Keeps s (State.settleSteps n t) := by
    induction n with
    | zero => exact fun t h => h
    | succ n ih =>
      intro t h
      unfold State.settleSteps
      split
      · next u hu => exact ih _ (h.searchProgress hu).takeReports
      · exact h
  exact steps settleLimit t h

/-! ### The String Evaluator (chapter 2) -/

theorem Keeps.judgeDeficit (h : Keeps s t) (r : ScanRecord) (i : StringId) : Keeps s (t.judgeDeficit r i) := by
  unfold State.judgeDeficit
  split
  · exact h.modEval i _
  · simp only []
    split
    · exact ((h.modEval i _).modEval i _).emitAt _ _ _ _ _
    · split
      · exact ((h.modEval i _).modEval i _).emitAt _ _ _ _ _
      · exact h.modEval i _

theorem Keeps.countDwells (h : Keeps s t) (r : ScanRecord) (i : StringId) : Keeps s (t.countDwells r i) := by
  unfold State.countDwells
  split
  · exact h.modEval i _
  · exact h

theorem Keeps.trip (h : Keeps s t) (r : ScanRecord) (dwell : StringId → Nat × Nat) (i : StringId) :
    Keeps s (t.trip r dwell i) := by
  have k : Keeps s (if 0 < (dwell i).1 ∧ t.cfgNat .nRev ≤ (dwell i).1 then
      ((t.addHold .reverse i).takeReports.modEval i fun e => { e with reverseDwell := 0 }).emitAt r.completion
        .reverseTrip (some i) (r.sample i).current (dwell i).1
    else t) := by
    split
    · exact ((h.addHold _ i).takeReports.modEval i _).emitAt _ _ _ _ _
    · exact h
  unfold State.trip
  simp only []
  generalize (if 0 < (dwell i).1 ∧ t.cfgNat .nRev ≤ (dwell i).1 then
      ((t.addHold .reverse i).takeReports.modEval i fun e => { e with reverseDwell := 0 }).emitAt r.completion
        .reverseTrip (some i) (r.sample i).current (dwell i).1
    else t) = u at k ⊢
  split
  · exact (k.addOvercurrent i _ _).modEval i _
  · exact k

theorem Keeps.evaluate (h : Keeps s t) (r : ScanRecord) : Keeps s (t.evaluate r) := by
  unfold State.evaluate
  simp only []
  refine Keeps.forStrings (fun i u => (Keeps.refl u).modEval i _) _ ?_
  refine Keeps.forStrings (fun i u => ?_) _ ?_
  · split
    · exact (Keeps.refl u).trip r _ i
    · exact Keeps.refl u
  · exact Keeps.forStrings (fun i u => ((Keeps.refl u).judgeDeficit r i).countDwells r i) _ (h.modSeval _)

/-! ### The Thermal Shed Controller (section 5.2) -/

theorem Keeps.shed (h : Keeps s t) (r : ScanRecord) (total : Nat) (i : StringId) : Keeps s (t.shed r total i) :=
  ((h.addHold _ i).takeReports.modTsc _).emitAt _ _ _ _ _

theorem Keeps.shedOne (h : Keeps s t) (r : ScanRecord) (total : Nat) (i : StringId) : Keeps s (t.shedOne r total i) := by
  unfold State.shedOne
  exact (h.shed r total i).modTsc _

theorem Keeps.fullShed (h : Keeps s t) (r : ScanRecord) (total : Nat) (victims : List StringId) :
    Keeps s (t.fullShed r total victims) := by
  unfold State.fullShed
  exact (h.forStrings (fun i u => (Keeps.refl u).shed r total i) victims).modTsc _

theorem Keeps.restore (h : Keeps s t) (r : ScanRecord) : Keeps s (t.restore r) := by
  unfold State.restore
  split
  · exact h
  · simp only []
    refine Keeps.emitAt ?_ _ _ _ _ _
    split
    · exact (((h.modTsc _).removeHold _ _).takeReports).modTsc _
    · exact ((h.modTsc _).removeHold _ _).takeReports

theorem Keeps.shedWork (h : Keeps s t) (r : ScanRecord) : Keeps s (t.shedWork r) := by
  have restored (c : Prop) [Decidable c] (u : State) (k : Keeps s u) : Keeps s (if c then u.restore r else u) :=
    (k.restore r).ite k
  have k (f g j : Tsc → Tsc) (c : Prop) [Decidable c] :
      Keeps s (if c then ((t.modTsc f).modTsc g).modTsc j else (t.modTsc f).modTsc g) :=
    (((h.modTsc f).modTsc g).modTsc j).ite ((h.modTsc f).modTsc g)
  unfold State.shedWork
  simp only []
  generalize t.victimOrder r _ = victims
  cases victims with
  | nil => exact Keeps.ite ((h.modTsc _).fullShed r _ _) (restored _ _ (k _ _ _ _))
  | cons top rest =>
    exact Keeps.ite ((h.modTsc _).fullShed r _ _)
      (Keeps.ite ((k _ _ _ _).shedOne r _ top) (restored _ _ (k _ _ _ _)))

/-! ### Array conditions, arc, fire and insulation (R47, chapters 6 and 7) -/

theorem Keeps.standArc (h : Keeps s t) : Keeps s t.standArc := by
  unfold State.standArc
  split
  · exact h
  · exact (Keeps.addHolds (h.setConditions fun c => { c with arc := true }) _ _).takeReports.abortSearch

theorem Keeps.standFire (h : Keeps s t) : Keeps s t.standFire := by
  unfold State.standFire
  split
  · exact h
  · exact ((Keeps.addHolds (h.setConditions fun c => { c with fire := true }) _ _).emitHoldChanged _ _ _
      _).takeReports.abortSearch

theorem Keeps.clearStart (h : Keeps s t) : Keeps s t.clearStart := by
  unfold State.clearStart
  exact Keeps.removeHolds (h.setConditions fun c => { c with start := false }) _ _

theorem Keeps.clearStore (h : Keeps s t) : Keeps s t.clearStore := by
  unfold State.clearStore
  exact Keeps.removeHolds (h.setConditions fun c => { c with store := false }) _ _

theorem Keeps.clearArc (h : Keeps s t) : Keeps s t.clearArc := by
  unfold State.clearArc
  exact (Keeps.removeHolds (h.setConditions fun c => { c with arc := false }) _ _).modArcd _

theorem Keeps.clearFire (h : Keeps s t) (p : Port) : Keeps s (t.clearFire p) := by
  unfold State.clearFire
  exact (Keeps.removeHolds (h.setConditions fun c => { c with fire := false }) _ _).emitHoldChanged _ _ _ _

theorem Keeps.judgeArc (h : Keeps s t) (r : ScanRecord) : Keeps s (t.judgeArc r) := by
  unfold State.judgeArc
  simp only []
  split
  · exact ((h.modArcd _).standArc.modArcd _).emitAt _ _ _ _ _
  · exact h.modArcd _

theorem Keeps.acceptLoop (h : Keeps s t) : Keeps s t.acceptLoop := by
  unfold State.acceptLoop
  simp only []
  split
  · exact h.modFli _
  · refine Keeps.emit ?_ _ _ _ _
    split
    · exact (h.modFli _).standFire
    · exact h.modFli _

theorem Keeps.lowReading (h : Keeps s t) (reading : Nat) (a : LowAction) (report : Bool) :
    Keeps s (t.lowReading reading a report) := by
  unfold State.lowReading
  simp only []
  split
  · exact (h.emit _ _ _ _).modImon _
  · exact h.modImon _

theorem Keeps.groundClosed (h : Keeps s t) (reading : Nat) (detail : GroundDetail) (a : LowAction) :
    Keeps s (t.groundClosed reading detail a) :=
  ((h.addHolds _ _).takeReports.lowReading _ _ _).startGap

theorem Keeps.confirmedLow (h : Keeps s t) (reading : Nat) : Keeps s (t.confirmedLow reading) := by
  unfold State.confirmedLow
  split
  · exact h.groundClosed _ _ _
  · split
    · exact h.groundClosed _ _ _
    · exact (h.startSearch 0).lowReading _ _ _

theorem Keeps.judgePeriodic (h : Keeps s t) (reading : Nat) (purpose : Purpose) :
    Keeps s (t.judgePeriodic reading purpose) := by
  unfold State.judgePeriodic
  simp only []
  split
  · split
    · exact h.clearStart.startGap
    · split
      · refine Keeps.startGap ?_
        split
        · exact h
        · exact h.lowReading _ _ _
      · exact h.startGap
  · split
    · split
      · exact h.confirmedLow _
      · exact h.startMeasurement _ _
    · exact h.startGap

theorem Keeps.periodicMeasured (h : Keeps s t) (reading : Nat) (purpose : Purpose) :
    Keeps s (t.periodicMeasured reading purpose) :=
  (h.modImon _).judgePeriodic reading purpose

/-! ### The rest of the sequencer's events -/

theorem Keeps.becomeFaulted (h : Keeps s t) (i : StringId) (kind : FaultKind)
    (hs : t.switchState i ≠ .faulted ∧ t.switchState i ≠ .absent) : Keeps s (t.becomeFaulted i kind) :=
  ⟨h.still.becomeFaulted i kind, fun x => (h.sound x).becomeFaulted hs.1 ((h.sound x).present hs.2) kind⟩

theorem Keeps.feedbackClosed (h : Keeps s t) (i : StringId) : Keeps s (t.feedbackClosed i) :=
  ⟨h.still.feedbackClosed i, fun x => (h.sound x).feedbackClosed i⟩

theorem Keeps.feedbackOpen (h : Keeps s t) (i : StringId) : Keeps s (t.feedbackOpen i) :=
  ⟨h.still.feedbackOpen i, fun x => (h.sound x).feedbackOpen i⟩

theorem Keeps.compareFast (h : Keeps s t) (xs : List StringId) : Keeps s (t.compareFast xs) :=
  ⟨h.still.compareFast xs, fun x => (h.sound x).compareFast xs⟩

theorem Keeps.readFast (h : Keeps s t) (i : StringId) (n : Nat) : Keeps s (t.readFast i n) :=
  Keeps.compareFast (h.quiet (u := t.modMfe _) rfl rfl rfl) _

theorem Keeps.pulseEnds (h : Keeps s t) (i : StringId) : Keeps s (t.pulseEnds i) :=
  ⟨h.still.pulseEnds i, fun x => (h.sound x).pulseEnds i⟩

theorem Keeps.setTimer (h : Keeps s t) (i : StringId) (x : Option Nat) : Keeps s (t.setTimer i x) :=
  ⟨h.still.setTimer i x, fun k => (h.sound k).setTimer i x⟩

theorem Keeps.rampTest (h : Keeps s t) : Keeps s t.rampTest :=
  ⟨h.still.rampStarts _, fun x => (h.sound x).rampStarts _⟩

theorem Keeps.modSwitch (h : Keeps s t) (i : StringId) (f : Switch → Switch)
    (hf : ∀ w, (f w).state = w.state ∧ (f w).drive = w.drive) : Keeps s (t.modSwitch i f) :=
  h.quiet rfl rfl (State.view_modSwitch_same i f t hf)

theorem Keeps.dwellPasses (h : Keeps s t) (i : StringId) : Keeps s (t.dwellPasses i) := by
  unfold State.dwellPasses
  refine ((h.modSwitch i _ ?_).testAndJoinQ i).arbiter
  exact fun _ => ⟨rfl, rfl⟩

theorem Keeps.qualTimesOut (h : Keeps s t) (i : StringId) : Keeps s (t.qualTimesOut i) := by
  unfold State.qualTimesOut
  simp only []
  split
  · exact h.setTimer i none
  · exact (h.setTimer i none).emit _ _ _ _

theorem Keeps.curtailPeriodEnds (h : Keeps s t) (i : StringId) : Keeps s (t.curtailPeriodEnds i) := by
  unfold State.curtailPeriodEnds
  refine (h.modSwitch i _ ?_).emit _ _ _ _
  exact fun _ => ⟨rfl, rfl⟩

/-- A ramp's end takes its string from RAMPING to CLOSED (R83). -/
theorem Keeps.rampEnds (h : Keeps s t) (i : StringId) (hs : t.switchState i = .ramping) : Keeps s (t.rampEnds i) := by
  refine ⟨((h.still.drive i .on).emit _ _ _ _).enter i _ _, fun x => ?_⟩
  have k := h.sound x
  have f := k.fits i
  have hi : t.view.state i = .ramping := hs
  obtain ⟨y, e, hy⟩ := State.view_enter i .closed none ((t.drive i .on).emit .stringConnected (some i) 0 0)
  rw [hy (by simp), Function.update_eq_self, State.view_emit, State.view_drive] at e
  have e' : (t.rampEnds i).view = { t.view with
      drive := Function.update t.view.drive i .on, state := Function.update t.view.state i .closed } := e
  rw [e']
  refine ⟨fun j => ?_, k.shared.nodup, k.shared.retest, k.shared.capture⟩
  by_cases hj : j = i
  · subst hj
    have hst : Function.update t.view.state j .closed j = .closed := Function.update_self ..
    refine ⟨fun a => ?_, fun _ => f.closing (.inr (.inr (.inl hi))), fun _ => .inr hst, fun m => ?_, fun r m a => ?_,
      fun x m a n => ?_⟩
    · have := f.absent a
      simp [hi] at this
    · have := f.ramp m
      simp [hi] at this
    · have := f.retest r m a
      simp [hi] at this
    · rcases f.entry x m a n with h1 | ⟨r, m', a', -⟩
      · simp [hi] at h1
      · have := f.retest r m' a'
        simp [hi] at this
  · have ha : t.view.OffAgrees { t.view with
        drive := Function.update t.view.drive i .on, state := Function.update t.view.state i .closed } i :=
      ⟨fun _ _ => rfl, fun _ _ => rfl, fun _ a => Function.update_of_ne a _ _, fun _ a => Function.update_of_ne a _ _,
        fun _ m _ => m, fun _ m _ => m, fun _ _ => Iff.rfl⟩
    exact (k.fits j).of_offAgrees ha hj

/-- A string in INTERRUPTING comes to CURTAIL_WAIT (R87). -/
theorem Keeps.enterCurtailWait (h : Keeps s t) (i : StringId) (hs : t.switchState i = .interrupting) :
    Keeps s (t.enterCurtailWait i) := by
  refine ⟨h.still.enterCurtailWait i, fun x => ?_⟩
  have k := h.sound x
  have c := k.clear i (by simp [State.view, hs]) (k.driveOff i (by simp [State.view, hs]))
  refine c.enterCurtailWait.rest ?_ fun m => ?_
  · rw [((Still.refl t).enterCurtailWait i).present i]
    exact k.present (by simp [State.view, hs])
  · unfold View.closes at m
    rw [show View.state _ i = State.switchState _ i from rfl, State.switchState_enterCurtailWait, if_pos rfl] at m
    simp at m

end Sys2Proof.Machine
end

section
/-! SUPPORT. Settings in range: what a write puts in force, in the terms of section 11.2, and that every write leaves the
settings in range (R1, R167, R168). -/

namespace Sys2Proof.Machine

/-! ### One value of the table -/

/-- The value of a whole setting. -/
def Settings.value (c : Settings) (k : Setting) : Int := c.values[k.slot]

/-- The settings with one whole setting's value replaced. -/
def Settings.put (c : Settings) (k : Setting) (x : Int) : Settings := { c with values := c.values.set k.slot x }

theorem Setting.slot_val (k : Setting) : k.slot.val = k.ctorIdx := by cases k <;> rfl

/-- No two settings share a place. -/
theorem Setting.slot_inj {a b : Setting} (h : a.slot = b.slot) : a = b := by
  have e : a.ctorIdx = b.ctorIdx := by rw [← Setting.slot_val, ← Setting.slot_val, h]
  rw [← Setting.ofNat_ctorIdx a, ← Setting.ofNat_ctorIdx b, e]

theorem Settings.value_put (c : Settings) (k d : Setting) (x : Int) :
    (c.put k x).value d = if d = k then x else c.value d := by
  unfold Settings.value Settings.put
  by_cases h : d = k
  · subst h
    simp
  · have hv : k.slot.val ≠ d.slot.val := fun e => h (Setting.slot_inj (Fin.ext e.symm))
    simp [h, hv]

theorem State.cfg_value (s : State) (k : Setting) : s.cfg k = s.settings.value k := rfl

/-- What each setting's own row of section 11.2 says of its value. -/
structure Setting.Permits (k : Setting) (x : Int) : Prop where
  least : k.limits.1 ≤ x
  most : x ≤ k.limits.2
  address : k = .addrS ∨ k = .addrV → x ≠ 165
  period : k = .tScan → x ∈ [50, 100, 200, 400]
  baud : k = .baudS ∨ k = .baudV → x ∈ [19200, 38400, 115200]

/-- The per-string settings in range. -/
@[reducible] def StringSettings.inRange (c : StringSettings) : Prop :=
  -65536 ≤ c.offset ∧ c.offset ≤ 65535 ∧ 1 ≤ c.gain ∧ c.gain ≤ 65535 ∧ c.rank ≤ 15

/-- Settings in range: each row, the three dependent settings, and the strings. -/
theorem Settings.inRange_iff (c : Settings) :
    c.inRange ↔ (∀ k : Setting, k.Permits (c.value k)) ∧ c.value .tCoil ≤ c.value .tConfirm ∧
      c.value .rTrip + 10 ≤ c.value .rClear ∧ c.value .tKnee + 50 ≤ c.value .tCut ∧
      ∀ i : StringId, (c.strings[i]).inRange := by
  constructor
  · rintro ⟨hl, h1, h2, h3, ha, hv, hp, hs, hw, hi⟩
    refine ⟨fun k => ⟨(hl k).1, (hl k).2, ?_, ?_, ?_⟩, h1, h2, h3, hi⟩
    · rintro (rfl | rfl) <;> assumption
    · rintro rfl; exact hp
    · rintro (rfl | rfl) <;> assumption
  · rintro ⟨hk, h1, h2, h3, hi⟩
    exact ⟨fun k => ⟨(hk k).least, (hk k).most⟩, h1, h2, h3, (hk .addrS).address (.inl rfl),
      (hk .addrV).address (.inr rfl), (hk .tScan).period rfl, (hk .baudS).baud (.inl rfl), (hk .baudV).baud (.inr rfl), hi⟩

/-- A change of one string's settings, in range, keeps the settings in range. -/
theorem Settings.inRange_string {c : Settings} (h : c.inRange) (i : StringId) (x : StringSettings) (hx : x.inRange) :
    Settings.inRange { c with strings := c.strings.set i x } := by
  obtain ⟨hk, h1, h2, h3, hi⟩ := c.inRange_iff.1 h
  refine (Settings.inRange_iff _).2 ⟨hk, h1, h2, h3, fun j => ?_⟩
  by_cases hj : j = i
  · subst hj
    simpa using hx
  · have hv : i.val ≠ j.val := fun e => hj (Fin.ext e.symm)
    simpa [hv] using hi j

/-- The routing table has no range. -/
theorem Settings.inRange_routes {c : Settings} (h : c.inRange) (r : Vector (PerPort Bool) 22) :
    Settings.inRange { c with routes := r } := h

theorem defaultSettings_inRange : defaultSettings.inRange := by
  refine (Settings.inRange_iff _).2 ⟨fun k => ?_, by decide, by decide, by decide, fun i => ?_⟩
  · cases k <;> exact ⟨by decide, by decide, by decide, by decide, by decide⟩
  · simp only [defaultSettings, Fin.getElem_fin, Vector.getElem_replicate]
    decide

/-! ### What a write puts in force (R167) -/

/-- A value clamped to a range lies in it. -/
theorem clampInt_mem {lo hi : Int} (h : lo ≤ hi) (x : Int) : lo ≤ clampInt lo hi x ∧ clampInt lo hi x ≤ hi := by
  unfold clampInt
  omega

/-- The greatest value of three or four not above `x`, in steps. -/
theorem permitted_cons (b v : Int) (vs : List Int) (x : Int) :
    permitted b (v :: vs) x = permitted (if v ≤ x then v else b) vs x := rfl

theorem permitted_nil (b x : Int) : permitted b [] x = b := rfl

/-- The greatest permitted value not above `x`, or the least of all (R1, R167). -/
theorem permitted_spec {b : Int} {vs : List Int} (hs : (b :: vs).Pairwise (· < ·)) (x : Int) :
    permitted b vs x ∈ b :: vs ∧ (permitted b vs x ≤ x ∨ permitted b vs x = b) ∧
    ∀ z ∈ b :: vs, z ≤ x → z ≤ permitted b vs x := by
  induction vs generalizing b with
  | nil => simp [permitted_nil]
  | cons v vs ih =>
    rw [permitted_cons]
    obtain ⟨hb, hv⟩ := List.pairwise_cons.1 hs
    have hbv := hb v List.mem_cons_self
    split
    · next hx =>
      obtain ⟨m, l, g⟩ := ih hv
      refine ⟨List.mem_cons_of_mem _ m, .inl ?_, ?_⟩
      · rcases l with l | l <;> omega
      · intro z hz hzx
        rcases List.mem_cons.1 hz with rfl | hz
        · have := g v List.mem_cons_self hx
          omega
        · exact g z hz hzx
    · next hx =>
      have hs' : (b :: vs).Pairwise (· < ·) :=
        List.pairwise_cons.2 ⟨fun z hz => hb z (List.mem_cons_of_mem _ hz), (List.pairwise_cons.1 hv).2⟩
      obtain ⟨m, l, g⟩ := ih hs'
      refine ⟨?_, l, ?_⟩
      · rcases List.mem_cons.1 m with e | m
        · rw [e]; exact List.mem_cons_self
        · exact List.mem_cons_of_mem _ (List.mem_cons_of_mem _ m)
      · intro z hz hzx
        rcases List.mem_cons.1 hz with rfl | hz
        · exact g z List.mem_cons_self hzx
        · rcases List.mem_cons.1 hz with rfl | hz
          · exact absurd hzx hx
          · exact g z (List.mem_cons_of_mem _ hz) hzx

/-- The least value that a partner in force leaves a dependent setting (R168). -/
@[reducible] def Settings.Leaves (c : Settings) (k : Setting) (x : Int) : Prop :=
  (k = .tConfirm → c.value .tCoil ≤ x) ∧ (k = .rClear → c.value .rTrip + 10 ≤ x) ∧
  (k = .tCut → c.value .tKnee + 50 ≤ x)

/-- The value that a write gives a whole setting is one that its row permits, and that its partner leaves it. -/
theorem State.settingValue_permits {s : State} (hs : s.settings.inRange) {k : Setting} {x y : Int}
    (h : s.settingValue k x = some y) : k.Permits y ∧ s.settings.Leaves k y := by
  obtain ⟨hk, -⟩ := s.settings.inRange_iff.1 hs
  have coil := hk .tCoil
  have trip := hk .rTrip
  have knee := hk .tKnee
  have general {lo hi : Int} (hl : k.limits = (lo, hi)) (hlh : lo ≤ hi) (hy : y = clampInt lo hi x)
      (ha : k ≠ .addrS ∧ k ≠ .addrV ∧ k ≠ .tScan ∧ k ≠ .baudS ∧ k ≠ .baudV)
      (hd : k ≠ .tConfirm ∧ k ≠ .rClear ∧ k ≠ .tCut) : k.Permits y ∧ s.settings.Leaves k y := by
    obtain ⟨h1, h2⟩ := clampInt_mem hlh x
    refine ⟨⟨by rw [hl, hy]; exact h1, by rw [hl, hy]; exact h2, ?_, ?_, ?_⟩, ?_⟩ <;> simp [ha, hd, Settings.Leaves]
  cases k
  case tScan =>
    cases h
    have m := (permitted_spec (b := 50) (vs := [100, 200, 400]) (by simp) x).1
    generalize Machine.permitted 50 [100, 200, 400] x = y at m
    refine ⟨⟨?_, ?_, by simp, fun _ => m, by simp⟩, by simp [Settings.Leaves]⟩ <;>
      · simp [Setting.limits] at m ⊢
        omega
  case baudS | baudV =>
    cases h
    have m := (permitted_spec (b := 19200) (vs := [38400, 115200]) (by simp) x).1
    generalize Machine.permitted 19200 [38400, 115200] x = y at m
    refine ⟨⟨?_, ?_, by simp, by simp, fun _ => m⟩, by simp [Settings.Leaves]⟩ <;>
      · simp [Setting.limits] at m ⊢
        omega
  case addrS | addrV =>
    cases h
    have m := clampInt_mem (lo := 1) (hi := 247) (by decide) x
    refine ⟨⟨?_, ?_, fun _ => ?_, by simp, by simp⟩, by simp [Settings.Leaves]⟩
    · simp only [Setting.limits]
      split <;> omega
    · simp only [Setting.limits]
      split <;> omega
    · split <;> omega
  case searchEnable =>
    simp only [State.settingValue] at h
    split at h <;> cases h
    refine ⟨⟨?_, ?_, by simp, by simp, by simp⟩, by simp [Settings.Leaves]⟩ <;>
      · simp only [Setting.limits]
        omega
  case tConfirm =>
    cases h
    have l := coil.least
    have u := coil.most
    have m := clampInt_mem (lo := s.cfg .tCoil) (hi := 200) (by rw [State.cfg_value]; simp [Setting.limits] at u; omega) x
    rw [State.cfg_value] at m ⊢
    simp only [Setting.limits] at l
    refine ⟨⟨?_, m.2, by simp, by simp, by simp⟩, fun _ => m.1, by simp, by simp⟩
    simp only [Setting.limits]
    omega
  case rClear =>
    cases h
    have l := trip.least
    have u := trip.most
    have m := clampInt_mem (lo := s.cfg .rTrip + 10) (hi := 9000)
      (by rw [State.cfg_value]; simp [Setting.limits] at u; omega) x
    rw [State.cfg_value] at m ⊢
    simp only [Setting.limits] at l
    refine ⟨⟨?_, m.2, by simp, by simp, by simp⟩, by simp, fun _ => m.1, by simp⟩
    simp only [Setting.limits]
    omega
  case tCut =>
    cases h
    have l := knee.least
    have u := knee.most
    have m := clampInt_mem (lo := s.cfg .tKnee + 50) (hi := 1500)
      (by rw [State.cfg_value]; simp [Setting.limits] at u; omega) x
    rw [State.cfg_value] at m ⊢
    simp only [Setting.limits] at l
    refine ⟨⟨?_, m.2, by simp, by simp, by simp⟩, by simp, by simp, fun _ => m.1⟩
    simp only [Setting.limits]
    omega
  all_goals
    cases h
    exact general rfl (by decide) rfl (by decide) (by decide)

/-- The settings after a whole setting is written: its value, and its dependent setting raised (R168). -/
def Settings.written (c : Settings) (k : Setting) (x : Int) : Settings :=
  match dependentOf k x with
  | some (d, least) => if (c.put k x).value d < least then (c.put k x).put d least else c.put k x
  | none => c.put k x

theorem State.putValue_settings (k : Setting) (x : Int) (s : State) :
    (s.putValue k x).settings = s.settings.put k x := rfl

/-- A write of a whole setting leaves the rest of the state alone, but for the fast comparisons. -/
theorem State.raiseDependent_eq (k : Setting) (x : Int) (s : State) :
    (s.putValue k x).raiseDependent k x = { s with settings := s.settings.written k x } := by
  unfold State.raiseDependent Settings.written
  rcases hd : dependentOf k x with _ | ⟨d, least⟩
  · rfl
  · simp only []
    rw [State.cfg_value, State.putValue_settings]
    split <;> rfl

/-- The dependent setting of each partner. -/
theorem dependentOf_cases {k d : Setting} {x least : Int} (h : dependentOf k x = some (d, least)) :
    (k = .tCoil ∧ d = .tConfirm ∧ least = x) ∨ (k = .rTrip ∧ d = .rClear ∧ least = x + 10) ∨
    (k = .tKnee ∧ d = .tCut ∧ least = x + 50) := by
  cases k <;> simp [dependentOf] at h <;> obtain ⟨rfl, rfl⟩ := h <;> simp

theorem dependentOf_ne {k d : Setting} {x least : Int} (h : dependentOf k x = some (d, least)) : d ≠ k := by
  rcases dependentOf_cases h with ⟨rfl, rfl, -⟩ | ⟨rfl, rfl, -⟩ | ⟨rfl, rfl, -⟩ <;> simp

/-- Every value after a write. -/
theorem Settings.value_written (c : Settings) (k e : Setting) (x : Int) :
    (c.written k x).value e = if e = k then x else
      match dependentOf k x with
      | some (d, least) => if e = d then max (c.value d) least else c.value e
      | none => c.value e := by
  unfold Settings.written
  rcases hd : dependentOf k x with _ | ⟨d, least⟩
  · exact Settings.value_put _ _ _ _
  · have hne := dependentOf_ne hd
    simp only [Settings.value_put, if_neg hne]
    split
    · next hlt =>
      rw [Settings.value_put, Settings.value_put]
      by_cases h1 : e = d
      · subst h1
        simp only [if_true, if_neg hne]
        omega
      · simp only [if_neg h1]
    · next hlt =>
      rw [Settings.value_put]
      by_cases h1 : e = d
      · subst h1
        simp only [if_true, if_neg hne]
        omega
      · simp only [if_neg h1]

theorem Settings.written_strings (c : Settings) (k : Setting) (x : Int) : (c.written k x).strings = c.strings := by
  unfold Settings.written
  split
  · split <;> rfl
  · rfl

theorem Settings.written_routes (c : Settings) (k : Setting) (x : Int) : (c.written k x).routes = c.routes := by
  unfold Settings.written
  split
  · split <;> rfl
  · rfl

/-- No setting depends on a partner, and each dependent setting has one partner (R168). -/
theorem dependentOf_apart {j k d e : Setting} {x y m l : Int} (h : dependentOf j x = some (d, m))
    (hk : dependentOf k y = some (e, l)) : d ≠ k ∧ (d = e → j = k) := by
  rcases dependentOf_cases h with ⟨rfl, rfl, -⟩ | ⟨rfl, rfl, -⟩ | ⟨rfl, rfl, -⟩ <;>
    rcases dependentOf_cases hk with ⟨rfl, rfl, -⟩ | ⟨rfl, rfl, -⟩ | ⟨rfl, rfl, -⟩ <;> decide

/-- A dependent setting stays above its partner (R168). -/
theorem Settings.above_written {c : Settings} {k low high : Setting} {x a : Int}
    (hd : ∀ y, dependentOf low y = some (high, y + a)) (h : c.value low + a ≤ c.value high)
    (hl : k = high → c.value low + a ≤ x) : (c.written k x).value low + a ≤ (c.written k x).value high := by
  rw [Settings.value_written, Settings.value_written]
  by_cases h1 : low = k
  · subst h1
    simp only [if_true, if_neg (dependentOf_ne (hd x)), hd]
    exact Int.le_max_right _ _
  · rw [if_neg h1]
    rcases hk : dependentOf k x with _ | ⟨d, m⟩
    · simp only []
      split
      · next e => exact hl e.symm
      · exact h
    · obtain ⟨hne, one⟩ := dependentOf_apart hk (hd 0)
      simp only [if_neg hne.symm, if_neg fun e : high = d => h1 (one e.symm).symm]
      split
      · next e => exact hl e.symm
      · exact h

/-- A write of a permitted value leaves the settings in range. -/
theorem Settings.inRange_written {c : Settings} (h : c.inRange) {k : Setting} {x : Int} (hk : k.Permits x)
    (hl : c.Leaves k x) : (c.written k x).inRange := by
  obtain ⟨hp, h1, h2, h3, hi⟩ := c.inRange_iff.1 h
  obtain ⟨l1, l2, l3⟩ := hl
  have value := fun e => c.value_written k e x
  refine (Settings.inRange_iff _).2 ⟨fun e => ?_, ?_, ?_, ?_, ?_⟩
  · rw [value]
    split
    · next he => exact he ▸ hk
    · rcases hd : dependentOf k x with _ | ⟨d, least⟩
      · exact hp e
      · simp only []
        split
        · next he =>
          subst he
          have l := hk.least
          have m := hk.most
          have a := (hp e).least
          have b := (hp e).most
          rcases dependentOf_cases hd with ⟨rfl, rfl, rfl⟩ | ⟨rfl, rfl, rfl⟩ | ⟨rfl, rfl, rfl⟩ <;>
            simp only [Setting.limits] at l m a b <;>
            refine ⟨?_, ?_, by simp, by simp, by simp⟩ <;>
            · simp only [Setting.limits]
              omega
        · exact hp e
  · have above := Settings.above_written (k := k) (x := x) (low := .tCoil) (a := 0) (c := c)
      (fun y => by rw [Int.add_zero]; rfl) (by rwa [Int.add_zero]) (by rwa [Int.add_zero])
    rwa [Int.add_zero] at above
  · exact Settings.above_written (fun _ => rfl) h2 l2
  · exact Settings.above_written (fun _ => rfl) h3 l3
  · rw [Settings.written_strings]
    exact hi

end Sys2Proof.Machine
end

section
/-! SUPPORT. Every command keeps the invariants of closing and the settings in range: the ends of a command, the
requests, and the commands of each family. -/

namespace Sys2Proof.Machine

/-- One state comes of another by work that keeps the invariants of closing and the settings in range, in force and in
store. -/
structure Goes (s t : State) : Prop where
  sound : s.view.Sound → t.view.Sound
  settings : s.settingsRight → t.settingsRight

theorem Goes.refl (s : State) : Goes s s := ⟨id, id⟩

theorem Goes.trans {s t u : State} (h : Goes s t) (k : Goes t u) : Goes s u :=
  ⟨fun x => k.sound (h.sound x), fun x => k.settings (h.settings x)⟩

/-- The settings in range are a matter of the ground. -/
theorem State.settingsRight_of_ground {s t : State} (h : t.ground = s.ground) (k : s.settingsRight) :
    t.settingsRight := by
  have h1 : t.settings = s.settings := congrArg Ground.settings h
  have h2 : t.cfs.settingsCopies = s.cfs.settingsCopies := congrArg Ground.settingsCopies h
  have h3 : t.cfs.writing = s.cfs.writing := congrArg Ground.writing h
  unfold State.settingsRight
  rw [h1, h2, h3]
  exact k

variable {s t : State}

theorem Keeps.goes (h : Keeps s t) : Goes s t := ⟨h.sound, State.settingsRight_of_ground h.still.ground⟩

/-- What is handed over is nothing of closing and no setting (R2). -/
theorem Goes.modHanded (h : Goes s t) (f : Handed → Handed) : Goes s (t.modHanded f) := h.trans ⟨id, id⟩

/-- Work that the ground and the view do not show. -/
theorem Goes.quiet {u : State} (h : Goes s t) (hg : u.ground = t.ground) (hv : u.view = t.view) : Goes s u :=
  h.trans ⟨fun x => hv ▸ x, State.settingsRight_of_ground hg⟩

theorem Goes.ite {c : Prop} [Decidable c] {a b : State} (ha : Goes s a) (hb : Goes s b) : Goes s (if c then a else b) := by
  split
  · exact ha
  · exact hb

/-! ### The end of a step -/

theorem Goes.beginWrite (h : Goes s t) : Goes s t.beginWrite := by
  refine h.trans ⟨fun x => ?_, fun x => ?_⟩
  · obtain ⟨w, e⟩ := State.beginWrite_eq t
    rw [e]
    exact x
  · unfold State.beginWrite
    split
    · next e _ _ hq =>
      obtain ⟨h1, h2, h3, -⟩ := x
      refine ⟨h1, h2, h3, fun w hw c hc => ?_⟩
      cases hw
      cases hr : e.record
      · simp only [State.image, hr, WriteImage.settings?] at hc
        cases hc
        exact h1
      · simp [State.image, hr, WriteImage.settings?] at hc
    · exact x

theorem Goes.finish (h : Goes s t) : Goes s t.finish :=
  (h.trans (Keeps.refl t).takeReports.settle.goes).beginWrite

theorem Keeps.finish (h : Keeps s t) : Goes s t.finish := h.goes.finish

/-! ### Replies and waits (R161, R163) -/

/-- A change of a port that keeps its outstanding request. -/
theorem State.view_modPort (p : Port) (f : PortState → PortState) (s : State)
    (h : (f (s.port p)).outstanding = (s.port p).outstanding) : (s.modPort p f).view = s.view := by
  have hw : ((s.modPort p f).port .m).outstanding = (s.port .m).outstanding := by
    rw [State.port_modPort]
    split
    · next e => subst e; exact h
    · rfl
  unfold State.view
  rw [hw]
  rfl

theorem Goes.modPort (h : Goes s t) (p : Port) (f : PortState → PortState)
    (hf : ∀ q, (f q).outstanding = q.outstanding) : Goes s (t.modPort p f) :=
  h.quiet rfl (State.view_modPort p f t (hf _))

theorem Goes.reply (h : Goes s t) (p : Port) (code : Byte) (r : Result) (body : List Byte) :
    Goes s (t.reply p code r body) := h.modPort p _ fun _ => rfl

/-- A wait for commits begins on a port that has no request outstanding. -/
theorem Goes.startCommitWait (h : Goes s t) (p : Port) (code : Byte) (r : Result) (body : List Byte)
    (ho : (t.port p).outstanding = none) : Goes s (t.startWait p code (.commit r body)) := by
  refine h.trans ⟨fun x => ?_, State.settingsRight_of_ground rfl⟩
  by_cases hp : p = .m
  · subst hp
    have hr : t.view.retest = none := by
      by_contra hn
      obtain ⟨o, m, -⟩ := x.shared.retest (Option.isSome_iff_ne_none.2 hn)
      rw [show t.view.waiting = none from ho] at m
      cases m
    have hc : t.view.capture = none := by
      by_contra hn
      obtain ⟨o, m, -⟩ := x.shared.capture (Option.isSome_iff_ne_none.2 hn)
      rw [show t.view.waiting = none from ho] at m
      cases m
    have e : (t.startWait .m code (.commit r body)).view = { t.view with waiting := some ⟨code, .commit r body⟩ } := rfl
    rw [e]
    refine ⟨fun j => ?_, x.shared.nodup, fun m => by simp [hr] at m, fun m => by simp [hc] at m⟩
    have f := x.fits j
    exact ⟨f.absent, f.closing, f.drive, f.ramp, f.retest, f.entry⟩
  · have e : (t.startWait p code (.commit r body)).view = t.view := by
      have hw : ((t.startWait p code (.commit r body)).port .m) = t.port .m := by
        rw [State.startWait, State.port_modPort, if_neg fun e => hp e.symm]
      unfold State.view
      rw [hw]
      rfl
    rw [e]
    exact x

theorem askAll_eq (p : Port) (rs : List StoreRecord) (s : State) :
    ∃ q, askAll p rs s = { s with cfs := { s.cfs with queue := q } } := by
  induction rs generalizing s with
  | nil => exact ⟨_, rfl⟩
  | cons r rs ih =>
    obtain ⟨q, h⟩ := ih (s.askCommit r [p])
    exact ⟨q, h⟩

theorem Goes.askAll (h : Goes s t) (p : Port) (rs : List StoreRecord) : Goes s (Machine.askAll p rs t) := by
  obtain ⟨q, e⟩ := askAll_eq p rs t
  rw [e]
  exact h.quiet rfl rfl

theorem Goes.conclude (h : Goes s t) (p : Port) (q : RequestCode) (waits : List StoreRecord) (r : Result)
    (body : List Byte) (ho : (t.port p).outstanding = none) : Goes s (t.conclude p q waits r body) := by
  have k := (Keeps.refl t).takeReports.settle
  have ho' : (t.takeReports.settle.port p).outstanding = none := by
    rw [k.still.port p fun e => e ▸ ho]
    exact ho
  unfold State.conclude
  exact Goes.ite (((h.trans k.goes).reply p _ r body).beginWrite)
    ((((h.trans k.goes).startCommitWait p _ r body ho').askAll p waits).beginWrite)

/-- A request that took effect by work that keeps ends as every request does. -/
theorem Keeps.conclude (h : Keeps s t) (p : Port) (q : RequestCode) (waits : List StoreRecord) (r : Result)
    (body : List Byte) (ho : (s.port p).outstanding = none) : Goes s (t.conclude p q waits r body) := by
  refine h.goes.conclude p q waits r body ?_
  rw [h.still.port p fun e => e ▸ ho, ho]

/-- A request is taken: refused with a reply, or left to its owner with no request outstanding (R162). -/
theorem Goes.serve (q : RequestCode) (p : Port) (payload : List Byte) (owner : State → State) (s : State)
    (h : ∀ u : State, (u.port p).outstanding = none → u.permitted q p payload = true → Goes u (owner u)) :
    Goes s (s.serve q p payload owner) := by
  have k : Goes s (s.modPort p fun t => t.heard s.now .idle) := (Goes.refl s).modPort p _ fun _ => rfl
  unfold State.serve
  refine Goes.ite (Goes.refl s) ?_
  simp only []
  split
  · exact k.reply p _ _ _
  · next hb =>
    refine Goes.ite (k.reply p _ _ _) ?_
    split
    · exact k.reply p _ _ _
    · next hp =>
      refine k.trans (h _ ?_ (by simpa using hp))
      simp only [State.busy, Bool.or_eq_true, not_or, Bool.not_eq_true, Option.isSome_eq_false_iff,
        Option.isNone_iff_eq_none] at hb
      exact hb.1

/-! ### Requests on the String Table (chapter 3) -/

/-- A list request acts on strings that have passed their checks, or is refused with a reply. -/
theorem Goes.tableReply (h : Goes s t) (p : Port) (q : RequestCode) (r : Result) (v : Byte) :
    Goes s (t.tableReply p q r v) := h.reply p _ r [v]

theorem Goes.holdRequest (p : Port) (payload : List Byte) (ho : (s.port p).outstanding = none) :
    Goes s (s.holdRequest p payload) := by
  unfold State.holdRequest
  refine Goes.ite ((Goes.refl s).tableReply p _ _ _) ?_
  simp only []
  split
  · exact (Goes.refl s).tableReply p _ _ _
  · exact (((Keeps.refl s).addHolds _ _).emitHoldChanged _ _ _ _).conclude p _ _ _ _ ho

theorem Goes.releaseRequest (p : Port) (payload : List Byte) (ho : (s.port p).outstanding = none) :
    Goes s (s.releaseRequest p payload) := by
  unfold State.releaseRequest
  refine Goes.ite ((Goes.refl s).tableReply p _ _ _) ?_
  simp only []
  split
  · exact (Goes.refl s).tableReply p _ _ _
  · exact (((Keeps.refl s).removeHolds _ _).emitHoldChanged _ _ _ _).conclude p _ _ _ _ ho

theorem Keeps.acknowledgeStrings (kind : AckKind) (strings : List StringId) (s : State) :
    Keeps s (s.acknowledgeStrings kind strings) := by
  have k := (Keeps.refl s).removeHolds kind.holdKind strings
  unfold State.acknowledgeStrings
  simp only []
  split
  · refine k.forStrings (fun i u => (Keeps.refl u).modString i _ ?_) strings
    exact fun _ => rfl
  · exact k

theorem Goes.acknowledgeListed (kind : AckKind) (p : Port) (payload : List Byte) (ho : (s.port p).outstanding = none) :
    Goes s (s.acknowledgeListed kind p payload) := by
  unfold State.acknowledgeListed
  refine Goes.ite ((Goes.refl s).tableReply p _ _ _) ?_
  split
  · exact (Goes.refl s).tableReply p _ _ _
  · exact (Keeps.acknowledgeStrings kind _ s).conclude p _ _ _ _ ho

theorem Goes.acknowledgeArc (p : Port) (payload : List Byte) (ho : (s.port p).outstanding = none) :
    Goes s (s.acknowledgeArc p payload) := by
  unfold State.acknowledgeArc
  exact Goes.ite ((Goes.refl s).tableReply p _ _ _) (Goes.ite ((Goes.refl s).tableReply p _ _ _)
    ((Keeps.refl s).clearArc.conclude p _ _ _ _ ho))

theorem Goes.acknowledgeStore (p : Port) (payload : List Byte) (ho : (s.port p).outstanding = none) :
    Goes s (s.acknowledgeStore p payload) := by
  unfold State.acknowledgeStore
  exact Goes.ite ((Goes.refl s).tableReply p _ _ _) (Goes.ite ((Goes.refl s).tableReply p _ _ _)
    ((Keeps.refl s).clearStore.conclude p _ _ _ _ ho))

theorem Goes.serveAck (kind : AckKind) (p : Port) (payload : List Byte) (owner : State → State) (s : State)
    (h : ∀ u : State, (u.port p).outstanding = none → Goes u (owner u)) : Goes s (s.serveAck kind p payload owner) := by
  unfold State.serveAck
  exact Goes.ite (Goes.refl s) (Goes.serve _ p payload owner s fun u hu _ => h u hu)

theorem Goes.retireRequest (p : Port) (payload : List Byte) (ho : (s.port p).outstanding = none) :
    Goes s (s.retireRequest p payload) := by
  unfold State.retireRequest
  refine Goes.ite ((Goes.refl s).tableReply p _ _ _) ?_
  split
  · exact (Goes.refl s).tableReply p _ _ _
  · exact Goes.ite ((Goes.refl s).tableReply p _ _ _) (((Keeps.refl s).addHold _ _).conclude p _ _ _ _ ho)
  · exact Goes.refl s

/-! ### SET PRESENCE (R68 to R70) -/

/-- A string's presence may change while it is at work. -/
theorem View.Clear.setPresent {i : StringId} (h : s.view.Clear i) (b : Bool) :
    (s.modStringSettings i fun c => { c with present := b }).view.Clear i := by
  have others (j : StringId) (hj : j ≠ i) :
      (s.modStringSettings i fun c => { c with present := b }).present j = s.present j := by
    simp only [State.present, State.strSet_modStringSettings, if_neg hj]
  exact h.change ⟨others, fun _ _ => rfl, fun _ _ => rfl, fun _ _ => rfl, fun _ m _ => m, fun _ m _ => m,
    fun _ _ => Iff.rfl⟩ ⟨h.loose.drive, h.loose.ramp, h.loose.retest, h.loose.entry⟩
    ⟨h.shared.nodup, h.shared.retest, h.shared.capture⟩

theorem View.Clear.takeAll {i : StringId} (ks : List HoldKind) {s : State} (h : s.view.Clear i) :
    (State.takeAll i ks s).view.Clear i := by
  induction ks generalizing s with
  | nil => exact h
  | cons k ks ih =>
    obtain ⟨y, e⟩ := State.view_takeHold k i s
    exact ih ((h.setHolds y).abandons e)

theorem Still.takeAll (i : StringId) (ks : List HoldKind) (h : Still s t) : Still s (State.takeAll i ks t) := by
  induction ks generalizing t with
  | nil => exact h
  | cons k ks ih => exact ih (h.takeHold k i)

theorem Keeps.emitLost (i : StringId) (held : HoldKind → Bool) (ks : List HoldKind) (h : Keeps s t) :
    Keeps s (State.emitLost i held ks t) := by
  induction ks generalizing t with
  | nil => exact h
  | cons k ks ih => exact ih (Keeps.ite (h.emitHoldChanged _ _ _ _) h)

theorem Keeps.searchLoses (h : Keeps s t) (i : StringId) : Keeps s (t.searchLoses i) := by
  unfold State.searchLoses
  exact Keeps.ite (h.modGsu _) h

theorem Keeps.forgetEval (h : Keeps s t) (i : StringId) : Keeps s (t.forgetEval i) := by
  unfold State.forgetEval
  exact Keeps.ite ((h.modEval i _).emit _ _ _ _) (h.modEval i _)

theorem State.view_searchLoses (i : StringId) (s : State) : (s.searchLoses i).view = s.view := by
  unfold State.searchLoses
  split <;> rfl

theorem State.view_forgetEval (i : StringId) (s : State) : (s.forgetEval i).view = s.view := by
  unfold State.forgetEval
  simp only []
  split
  · rw [State.view_emit]; rfl
  · rfl

/-- What making a string ABSENT does before the sequencer takes the change: presence, holds, counters and dwell go
(R69). -/
def State.stripped (i : StringId) (s : State) : State :=
  ((((State.takeAll i allHoldKinds ((s.modStringSettings i fun c => { c with present := false }).askCommit .settings
    [])).searchLoses i).modString i fun r => { r with overcurrentCount := 0 }).forgetEval i).modSwitch i
    fun w => { w with dwell := .stopped }

theorem Still.stripped (i : StringId) (s : State) :
    Still (s.modStringSettings i fun c => { c with present := false }) (s.stripped i) := by
  have k := ((Still.refl (s.modStringSettings i fun c => { c with present := false })).askCommit .settings []).takeAll i
    allHoldKinds
  unfold State.stripped
  generalize State.takeAll i allHoldKinds _ = u at k ⊢
  exact k.trans (((((Keeps.refl u).searchLoses i).still.modString i _).trans ((Keeps.refl _).forgetEval i).still).modSwitch i
    _)

theorem View.Clear.stripped {i : StringId} (h : s.view.Clear i) : (s.stripped i).view.Clear i := by
  have k := View.Clear.takeAll allHoldKinds (s := (s.modStringSettings i fun c =>
    { c with present := false }).askCommit .settings []) (h.setPresent false)
  unfold State.stripped
  generalize State.takeAll i allHoldKinds _ = u at k ⊢
  rw [State.view_modSwitch_same, State.view_forgetEval, State.view_modString_same, State.view_searchLoses]
  · exact k
  · exact fun _ => rfl
  · exact fun _ => ⟨rfl, rfl⟩

theorem State.makeAbsent_eq (i : StringId) (s : State) : ∃ held f, s.makeAbsent i =
    (State.emitLost i held [.sup, .inv, .svc, .fire]
      (((s.stripped i).enter i .absent none).modTsc f).takeReports).askCommit .holds [] := ⟨_, _, rfl⟩

/-- A string in OPEN is made ABSENT (R69). -/
theorem Goes.makeAbsent (i : StringId) (hs : s.switchState i = .opened) :
    Goes s (s.makeAbsent i) ∧ ∀ p, (s.port p).outstanding = none → ((s.makeAbsent i).port p).outstanding = none := by
  obtain ⟨held, f, e⟩ := State.makeAbsent_eq i s
  have last := (Keeps.emitLost i held [.sup, .inv, .svc, .fire]
    ((Keeps.refl ((s.stripped i).enter i .absent none)).modTsc f).takeReports).askCommit .holds []
  have whole := ((Still.stripped i s).enter i .absent none).trans last.still
  rw [e]
  refine ⟨⟨fun x => last.sound ?_, fun x => ?_⟩, fun p hp => ?_⟩
  · have c := x.clear i (by simp [State.view, hs]) (x.driveOff i (by simp [State.view, hs]))
    have hst : ((s.stripped i).enter i .absent none).view.state i = .absent := by
      rw [show View.state _ i = State.switchState _ i from rfl, State.switchState_enter, if_pos rfl]
    exact (c.stripped.enter .absent none).sound (fun _ => hst) fun m => by
      unfold View.closes at m
      simp [hst] at m
  · refine State.settingsRight_of_ground whole.ground ⟨?_, x.2⟩
    obtain ⟨-, -, -, -, hi⟩ := s.settings.inRange_iff.1 x.1
    exact Settings.inRange_string x.1 i _ (hi i)
  · exact (whole.port p fun e => e ▸ hp) ▸ hp

theorem View.Sound.putHold {i : StringId} (h : s.view.Sound) (x : Hold) (hs : s.switchState i = .absent) :
    (s.putHold x i).view.Sound := by
  obtain ⟨y, e⟩ := State.view_putHold x i s
  rw [e]
  exact h.setHolds i y fun c => by
    unfold View.closes at c
    simp [State.view, hs] at c

/-- The holds of the conditions that stand go on a string in ABSENT (R70). -/
theorem State.addConditions_keeps (i : StringId) (s : State) :
    Still s (s.addConditions i) ∧ (∀ j, (s.addConditions i).switchState j = s.switchState j) ∧
    (s.switchState i = .absent → s.view.Sound → (s.addConditions i).view.Sound) := by
  have one (c : Bool) (x : Hold) (u : State) (h : Still s u ∧ (∀ j, u.switchState j = s.switchState j) ∧
      (s.switchState i = .absent → s.view.Sound → u.view.Sound)) :
      Still s (if c then u.putHold x i else u) ∧
      (∀ j, (if c then u.putHold x i else u).switchState j = s.switchState j) ∧
      (s.switchState i = .absent → s.view.Sound → (if c then u.putHold x i else u).view.Sound) := by
    obtain ⟨h1, h2, h3⟩ := h
    split
    · exact ⟨h1.putHold x i, fun j => (State.switchState_putHold x i u j).trans (h2 j),
        fun hs hv => (h3 hs hv).putHold x ((h2 i).trans hs)⟩
    · exact ⟨h1, h2, h3⟩
  unfold State.addConditions
  simp only []
  exact one _ _ _ (one _ _ _ (one _ _ _ (one _ _ _ ⟨Still.refl s, fun _ => rfl, fun _ h => h⟩)))

/-- A PRESENT string goes from ABSENT to OPEN, or is FAULTED where its relay shows closed (R70, R99). -/
theorem Keeps.openFromAbsent (i : StringId) (hs : s.switchState i = .absent) (hp : s.present i = true) :
    Keeps s (s.openFromAbsent i) := by
  have still := ((Still.refl s).leaveQueue i).setTimer i none
  have clear (x : s.view.Sound) : ((s.leaveQueue i).setTimer i none).view.Clear i := by
    have k := x.leaveQueue_clear i (s.view.holds i) (by simp [State.view, hs]) (x.driveOff i (by simp [State.view, hs]))
    rw [Function.update_eq_self] at k
    unfold State.setTimer
    rw [State.view_modSwitch_same]
    · exact k
    · exact fun _ => ⟨rfl, rfl⟩
  have hp' := (still.present i).trans hp
  unfold State.openFromAbsent
  simp only []
  generalize (s.leaveQueue i).setTimer i none = u at still clear hp' ⊢
  refine Keeps.ite ⟨(still.enter i _ _).becomeFaulted i _, fun x => ?_⟩ ⟨(still.startDwell i).enter i _ _, fun x => ?_⟩
  · have k := (clear x).enterRest hp' .opened none (by simp)
    refine k.becomeFaulted ?_ ((((Still.refl u).enter i .opened none).present i).trans hp') _
    rw [State.switchState_enter, if_pos rfl]
    simp
  · exact (clear x).startDwell.enterRest ((((Still.refl u).startDwell i).present i).trans hp') .opened none (by simp)

/-- A string in ABSENT is made PRESENT (R70). -/
theorem Goes.makePresent (i : StringId) (code : LockCode) (hs : s.switchState i = .absent) :
    Goes s (s.makePresent i code) ∧
    ∀ p, (s.port p).outstanding = none → ((s.makePresent i code).port p).outstanding = none := by
  obtain ⟨c1, c2, c3⟩ := State.addConditions_keeps i
    (((s.modStringSettings i fun c => { c with present := true }).askCommit .settings []).putHold (.svc code) i)
  have still := (((Still.refl (s.modStringSettings i fun c => { c with present := true })).askCommit .settings
    []).putHold (.svc code) i).trans c1
  have hs1 : (((s.modStringSettings i fun c => { c with present := true }).askCommit .settings
      []).putHold (.svc code) i).switchState i = .absent := (State.switchState_putHold _ _ _ _).trans hs
  have hp : (s.modStringSettings i fun c => { c with present := true }).present i = true := by
    simp [State.present, State.strSet_modStringSettings]
  have k := ((Keeps.openFromAbsent i ((c2 i).trans hs1) ((still.present i).trans hp)).takeReports.emitHoldChanged .svc
    true .presence [i])
  have last := (Keeps.ite (c := s.stab.conditions.fire = true) (k.emitHoldChanged .fire true .presence [i]) k).askCommit
    .holds []
  have whole := still.trans last.still
  unfold State.makePresent
  refine ⟨⟨fun x => last.sound (c3 hs1 ?_), fun x => ?_⟩, fun p hp => ?_⟩
  · refine View.Sound.putHold (i := i) ?_ _ hs
    refine ⟨fun j => ?_, x.shared.nodup, x.shared.retest, x.shared.capture⟩
    by_cases hj : j = i
    · subst hj
      have f := x.fits j
      refine ⟨fun _ => hs, fun m => ?_, f.drive, f.ramp, f.retest, f.entry⟩
      unfold View.closes at m
      have : View.state ((s.modStringSettings j fun c => { c with present := true }).askCommit .settings []).view j
          = .absent := hs
      simp [this] at m
    · have others (l : StringId) (hl : l ≠ i) :
          (s.modStringSettings i fun c => { c with present := true }).present l = s.present l := by
        simp only [State.present, State.strSet_modStringSettings, if_neg hl]
      have ha : s.view.OffAgrees
          ((s.modStringSettings i fun c => { c with present := true }).askCommit .settings []).view i :=
        ⟨others, fun _ _ => rfl, fun _ _ => rfl, fun _ _ => rfl, fun _ m _ => m, fun _ m _ => m, fun _ _ => Iff.rfl⟩
      exact (x.fits j).of_offAgrees ha hj
  · refine State.settingsRight_of_ground whole.ground ⟨?_, x.2⟩
    obtain ⟨-, -, -, -, hi⟩ := s.settings.inRange_iff.1 x.1
    exact Settings.inRange_string x.1 i _ (hi i)
  · exact (whole.port p fun e => e ▸ hp) ▸ hp

/-- The strings that pass the checks of SET PRESENCE are in OPEN, or in ABSENT (R68). -/
theorem State.presenceCheck_changes {toPresent : Bool} {payload : List Byte} {i : StringId}
    (h : s.presenceCheck toPresent payload = .changes i) :
    s.switchState i = if toPresent then .absent else .opened := by
  unfold State.presenceCheck at h
  cases toPresent <;> simp only [Bool.false_eq_true, if_true, if_false] at h ⊢ <;>
  · split at h
    · cases h
    · split at h
      · cases h
      · split at h
        · cases h
        · split at h
          · cases h
          · split at h
            · cases h
            · next hs =>
              split at h
              · cases h
              · cases h
                simpa using hs

theorem Goes.presenceRequest (toPresent : Bool) (p : Port) (payload : List Byte) (ho : (s.port p).outstanding = none) :
    Goes s (s.presenceRequest toPresent p payload) := by
  unfold State.presenceRequest
  split
  · exact (Goes.refl s).tableReply p _ _ _
  · exact (Goes.refl s).tableReply p _ _ _
  · next i hc =>
    have hs := State.presenceCheck_changes hc
    cases toPresent
    · obtain ⟨g, w⟩ := Goes.makeAbsent i hs
      exact g.conclude p _ _ _ _ (w p ho)
    · obtain ⟨g, w⟩ := Goes.makePresent i (lockCodeOf (payload.drop 2)) hs
      exact g.conclude p _ _ _ _ (w p ho)

theorem Goes.servePresence (toPresent : Bool) (p : Port) (payload : List Byte) (s : State) :
    Goes s (s.servePresence toPresent p payload) := by
  unfold State.servePresence
  exact Goes.ite (Goes.refl s) (Goes.serve _ p payload _ s fun u hu _ => Goes.presenceRequest toPresent p payload hu)

end Sys2Proof.Machine
end

section
/-! SUPPORT. Every command keeps the invariants of closing and the settings in range, and the statements on both. -/

namespace Sys2Proof.Machine

variable {s t : State}

/-! ### Requests of the other blocks -/

theorem Goes.fireRestoreRequest (p : Port) (ho : (s.port p).outstanding = none) : Goes s (s.fireRestoreRequest p) := by
  unfold State.fireRestoreRequest
  exact Goes.ite ((Goes.refl s).reply p _ _ _) (Goes.ite ((Goes.refl s).reply p _ _ _)
    (((Keeps.refl s).clearFire p).conclude p _ _ _ _ ho))

theorem Goes.searchStartRequest (p : Port) (ho : (s.port p).outstanding = none) : Goes s (s.searchStartRequest p) := by
  unfold State.searchStartRequest
  exact Goes.ite ((Goes.refl s).reply p _ _ _) (((Keeps.refl s).startSearch _).conclude p _ _ _ _ ho)

theorem Goes.searchAbortRequest (p : Port) (ho : (s.port p).outstanding = none) : Goes s (s.searchAbortRequest p) := by
  unfold State.searchAbortRequest
  exact Goes.ite ((Goes.refl s).reply p _ _ _) ((Keeps.refl s).abortSearch.conclude p _ _ _ _ ho)

theorem Goes.readStringRequest (p : Port) (payload : List Byte) (s : State) : Goes s (s.readStringRequest p payload) := by
  unfold State.readStringRequest
  split
  · exact (Goes.refl s).reply p _ _ _
  · exact (Goes.refl s).reply p _ _ _

theorem Goes.fetchRequest (p : Port) (payload : List Byte) (s : State) : Goes s (s.fetchRequest p payload) := by
  unfold State.fetchRequest
  exact Goes.ite ((Goes.refl s).reply p _ _ _)
    (Goes.reply ((Goes.refl s).quiet (u := s.modRing p _) rfl rfl) p _ _ _)

theorem Goes.readSettingRequest (p : Port) (payload : List Byte) (s : State) :
    Goes s (s.readSettingRequest p payload) := by
  unfold State.readSettingRequest
  split
  · exact (Goes.refl s).reply p _ _ _
  · exact (Goes.refl s).reply p _ _ _

/-- Settings in range are put in force, every presence standing. -/
theorem Goes.setSettings (f : Settings → Settings) (s : State)
    (hp : ∀ i : StringId, ((f s.settings).strings[i]).present = (s.settings.strings[i]).present)
    (hr : s.settings.inRange → (f s.settings).inRange) : Goes s (s.modSettings f) := by
  refine ⟨fun x => ?_, fun x => ⟨hr x.1, x.2⟩⟩
  have e : (s.modSettings f).view = s.view := by
    have h : (s.modSettings f).present = s.present := funext hp
    unfold State.view
    rw [h]
    rfl
  rwa [e]

/-- One string's settings are put in force, its presence standing. -/
theorem Goes.setString (i : StringId) (f : StringSettings → StringSettings) (s : State)
    (hp : (f (s.strSet i)).present = (s.strSet i).present)
    (hr : (s.strSet i).inRange → (f (s.strSet i)).inRange) : Goes s (s.modStringSettings i f) := by
  refine Goes.setSettings _ s (fun j => ?_) fun x => ?_
  · have e := State.strSet_modStringSettings i j f s
    change ((s.modStringSettings i f).strSet j).present = (s.strSet j).present
    rw [e]
    split
    · next h => rw [h, hp]
    · rfl
  · obtain ⟨-, -, -, -, hi⟩ := s.settings.inRange_iff.1 x
    exact Settings.inRange_string x i _ (hr (hi i))

theorem Goes.writeWhole (k : Setting) (x y : Int) (s : State) (hy : s.settingValue k x = some y) :
    Goes s (s.writeWhole k y) := by
  have g : Goes s ((s.putValue k y).raiseDependent k y) := by
    rw [State.raiseDependent_eq]
    refine Goes.setSettings (fun c => c.written k y) s (fun i => ?_) fun h => ?_
    · rw [Settings.written_strings]
    · obtain ⟨hk, hl⟩ := State.settingValue_permits h hy
      exact Settings.inRange_written h hk hl
  unfold State.writeWhole
  exact Goes.ite (g.trans ((Keeps.refl _).compareFast allStrings).goes) g

theorem Goes.writeGroup (i : StringId) (y : PeerGroup) (s : State) : Goes s (s.writeGroup i y) := by
  have g : Goes s ((s.modStringSettings i fun c => { c with group := y }).modEval i
      fun e => { e with suspicion := 0, suspect := false }) :=
    (Goes.setString i (fun c => { c with group := y }) s rfl id).quiet rfl rfl
  unfold State.writeGroup
  exact Goes.ite (Goes.refl s) (Goes.ite (g.trans ((Keeps.refl _).emit _ _ _ _).goes) g)

/-- The ports stand when a setting is written, but for port M where it waits for a capture or a retest. -/
theorem State.writeValue_port {r : SettingRef} {i : StringId} {x y : Int} {u : State} (p : Port)
    (h : s.writeValue r i x = some (y, u)) (ho : (s.port p).outstanding = none) : u.port p = s.port p := by
  cases r
  case whole k =>
    simp only [State.writeValue, Option.map_eq_some_iff, Prod.mk.injEq] at h
    obtain ⟨y', -, rfl, rfl⟩ := h
    unfold State.writeWhole
    rw [State.raiseDependent_eq]
    split
    · exact ((Still.refl _).compareFast allStrings).port p fun e => e ▸ ho
    · rfl
  case group =>
    simp only [State.writeValue, Option.map_eq_some_iff, Prod.mk.injEq] at h
    obtain ⟨y', -, rfl, rfl⟩ := h
    unfold State.writeGroup
    split
    · rfl
    · simp only []
      split
      · exact ((Still.refl _).emit _ _ _ _).port p fun e => e ▸ ho
      · rfl
  case range =>
    simp only [State.writeValue, Option.map_eq_some_iff, Prod.mk.injEq] at h
    obtain ⟨y', -, rfl, rfl⟩ := h
    rfl
  all_goals
    cases h
    rfl

theorem Goes.writeValue {r : SettingRef} {i : StringId} {x y : Int} {u : State}
    (h : s.writeValue r i x = some (y, u)) : Goes s u := by
  cases r
  case whole k =>
    simp only [State.writeValue, Option.map_eq_some_iff, Prod.mk.injEq] at h
    obtain ⟨y', hy, rfl, rfl⟩ := h
    exact Goes.writeWhole k x y' s hy
  case offset =>
    cases h
    have m := clampInt_mem (lo := -65536) (hi := 65535) (by decide) x
    exact Goes.setString i _ s rfl fun h => ⟨m.1, m.2, h.2.2⟩
  case gain =>
    cases h
    have m := clampInt_mem (lo := 1) (hi := 65535) (by decide) x
    refine Goes.setString i _ s rfl fun h => ⟨h.1, h.2.1, ?_, ?_, h.2.2.2.2⟩ <;>
      · simp only []
        omega
  case range =>
    simp only [State.writeValue, Option.map_eq_some_iff, Prod.mk.injEq] at h
    obtain ⟨y', -, rfl, rfl⟩ := h
    exact Goes.setString i _ s rfl id
  case group =>
    simp only [State.writeValue, Option.map_eq_some_iff, Prod.mk.injEq] at h
    obtain ⟨y', -, rfl, rfl⟩ := h
    exact Goes.writeGroup i y' s
  case rank =>
    cases h
    have m := clampInt_mem (lo := 0) (hi := 15) (by decide) x
    refine Goes.setString i _ s rfl fun h => ⟨h.1, h.2.1, h.2.2.1, h.2.2.2.1, ?_⟩
    simp only []
    omega

theorem Goes.writeSettingRequest (p : Port) (payload : List Byte) (ho : (s.port p).outstanding = none) :
    Goes s (s.writeSettingRequest p payload) := by
  unfold State.writeSettingRequest
  split
  · exact (Goes.refl s).reply p _ _ _
  · simp only []
    split
    · exact (Goes.refl s).reply p _ _ _
    · next hw => exact (Goes.writeValue hw).conclude p _ _ _ _ (by rw [State.writeValue_port p hw ho, ho])

theorem Goes.writeRouteRequest (p : Port) (payload : List Byte) (ho : (s.port p).outstanding = none) :
    Goes s (s.writeRouteRequest p payload) := by
  unfold State.writeRouteRequest
  split
  · refine Goes.conclude (Goes.setSettings _ s (fun i => ?_) fun h => ?_) p _ _ _ _ ho
    · rfl
    · exact Settings.inRange_routes h _
  · exact (Goes.refl s).reply p _ _ _

theorem Goes.restartRequest (p : Port) (s : State) : Goes s (s.restartRequest p) :=
  ((Goes.refl s).reply p (requestCode .restart) .done []).trans ⟨id, id⟩

/-! ### CALIBRATE and RETEST SWITCH (R13, R96) -/

/-- No unit waits on port M while it has no request outstanding. -/
theorem View.Sound.idle {v : View} (h : v.Sound) (hw : v.waiting = none) : v.retest = none ∧ v.capture = none := by
  constructor <;> by_contra hn
  · obtain ⟨o, m, -⟩ := h.shared.retest (Option.isSome_iff_ne_none.2 hn)
    rw [hw] at m
    cases m
  · obtain ⟨o, m, -⟩ := h.shared.capture (Option.isSome_iff_ne_none.2 hn)
    rw [hw] at m
    cases m

/-- What port M waits for does not matter while neither unit runs. -/
theorem View.Sound.setWaiting {v : View} (h : v.Sound) (hr : v.retest = none) (hc : v.capture = none)
    (o : Option Outstanding) : View.Sound { v with waiting := o } := by
  refine ⟨fun j => ?_, h.shared.nodup, fun m => by simp [hr] at m, fun m => by simp [hc] at m⟩
  have f := h.fits j
  exact ⟨f.absent, f.closing, f.drive, f.ramp, f.retest, f.entry⟩

/-- CALIBRATE and RETEST SWITCH are requests of port M (R165). -/
theorem State.permitted_unit {q : RequestCode} (hq : q = .calibrate ∨ q = .retestSwitch) {p : Port} {b : List Byte}
    (h : s.permitted q p b = true) : p = .m := by
  cases p with
  | m => rfl
  | s | v => rcases hq with rfl | rfl <;> simp [State.permitted] at h

theorem Goes.calibrateRequest (p : Port) (payload : List Byte) (ho : (s.port p).outstanding = none) (hp : p = .m) :
    Goes s (s.calibrateRequest p payload) := by
  subst hp
  unfold State.calibrateRequest
  split
  · exact (Goes.refl s).reply _ _ _ _
  · next i _ =>
    refine Goes.ite ((Goes.refl s).reply _ _ _ _) (Goes.ite ((Goes.refl s).reply _ _ _ _) ⟨fun x => ?_, id⟩)
    have hr := (x.idle ho).1
    change View.Sound { s.view with
      capture := some { string := i, count := 0, sum := 0 }
      waiting := some { code := requestCode .calibrate, wait := .capture } }
    refine ⟨fun j => ?_, x.shared.nodup, fun m => by simp [hr] at m, fun _ => ⟨_, rfl, rfl⟩⟩
    have f := x.fits j
    exact ⟨f.absent, f.closing, f.drive, f.ramp, f.retest, f.entry⟩

/-- A FAULTED string may go under a retest while port M has no request outstanding. -/
theorem View.Sound.startTest {v : View} (h : v.Sound) (hw : v.waiting = none) {i : StringId}
    (hf : v.state i = .faulted) (code : Byte) : View.Tests { v with waiting := some ⟨code, .retest⟩ } i := by
  obtain ⟨hr, hc⟩ := h.idle hw
  refine ⟨⟨fun j _ => ?_, ⟨h.driveOff i (by simp [hf]), fun m => ?_, fun _ m => by simp at m, fun e m k n => ?_⟩,
    h.shared.nodup, fun m => by simp at m, fun m => by simp [hc] at m⟩, hf, h.present (by simp [hf]), ⟨_, rfl, rfl⟩⟩
  · have f := h.fits j
    refine ⟨f.absent, f.closing, f.drive, f.ramp, fun _ m => by simp at m, fun e m k n => ?_⟩
    rcases f.entry e m k n with h1 | ⟨r, m', -⟩
    · exact .inl h1
    · simp [hr] at m'
  · have := (h.fits i).ramp m
    simp [hf] at this
  · rcases (h.fits i).entry e m k n with h1 | ⟨r, m', -⟩
    · simp [hf] at h1
    · simp [hr] at m'

theorem Goes.retestRequest (p : Port) (payload : List Byte) (ho : (s.port p).outstanding = none) (hp : p = .m) :
    Goes s (s.retestRequest p payload) := by
  subst hp
  unfold State.retestRequest
  split
  · exact (Goes.refl s).reply _ _ _ _
  · next i _ =>
    refine Goes.ite ((Goes.refl s).reply _ _ _ _) (Goes.ite ((Goes.refl s).reply _ _ _ _) ?_)
    split
    · exact (Goes.refl s).reply _ _ _ _
    · next hs =>
      have hf : s.switchState i = .faulted := by
        by_contra hn
        exact hs (.inl hn)
      have still := (((Still.refl (s.startWait .m (requestCode .retestSwitch) .retest)).setRetestMark i true).retestStepQ
        i .firstOpen).arbiter
      refine Goes.finish ⟨fun x => ?_, fun x => State.settingsRight_of_ground still.ground x⟩
      have t := x.startTest ho hf (requestCode .retestSwitch)
      have t' : ((s.startWait .m (requestCode .retestSwitch) .retest).setRetestMark i true).view.Tests i := t
      exact (t'.retestStepQ .firstOpen).arbiter

/-! ### Scans (chapter 1) -/

/-- The daylight tests change the daylight state, the wake count and the dark run alone (R10, R11). -/
theorem Mfe.daylightTest_eq (m : Mfe) (bus wake : Nat) (time : Uptime) :
    ∃ d w r, m.daylightTest bus wake time = { m with daylight := d, wakeCount := w, darkRun := r } := by
  unfold Mfe.daylightTest
  split
  · split
    · split <;> exact ⟨_, _, _, rfl⟩
    · exact ⟨_, _, _, rfl⟩
  · split
    · split
      · exact ⟨_, _, _, rfl⟩
      · split <;> exact ⟨_, _, _, rfl⟩
    · exact ⟨_, _, _, rfl⟩

/-- A scan's daylight tests change the daylight state, its counts and the rings alone. -/
theorem State.daylightStep_eq (bus : Nat) (s : State) : ∃ d w r g, s.daylightStep bus =
    { s with mfe := { s.mfe with daylight := d, wakeCount := w, darkRun := r }
             evr := { s.evr with ring := g } } := by
  obtain ⟨d, w, r, e⟩ := s.mfe.daylightTest_eq bus (s.cfgNat .vWake) s.uptime
  unfold State.daylightStep
  simp only []
  split
  · exact ⟨d, w, r, s.evr.ring, by rw [State.modMfe, e]⟩
  · obtain ⟨g, h⟩ := State.emitAt_eq (State.uptime _) .daylight none bus
      (s.modMfe fun m => m.daylightTest bus (s.cfgNat .vWake) s.uptime).mfe.daylight.code
      (s.modMfe fun m => m.daylightTest bus (s.cfgNat .vWake) s.uptime)
    exact ⟨d, w, r, g, h.trans (by rw [State.modMfe, e])⟩

theorem Keeps.daylightStep (h : Keeps s t) (bus : Nat) : Keeps s (t.daylightStep bus) := by
  obtain ⟨d, w, r, g, e⟩ := State.daylightStep_eq bus t
  rw [e]
  exact h.quiet rfl rfl rfl

/-- A capture is over and its request answered (R16). -/
theorem State.view_dropCapture (s : State) :
    s.view.Abandons ((s.modMfe fun m => { m with capture := none }).endUnitWait .capture).view := by
  rcases State.view_endUnitWait .capture (s.modMfe fun m => { m with capture := none }) with h | ⟨h, hw⟩
  · exact .inr ⟨s.view.waiting, h, .inl rfl⟩
  · exact .inr ⟨none, h, .inr ⟨rfl, hw⟩⟩

theorem Goes.abandonCapture (i : StringId) (s : State) : Goes s (s.abandonCapture i) :=
  ⟨fun x => x.abandons (s.view_abandonCapture i),
    State.settingsRight_of_ground ((Still.refl s).abandonCapture i).ground⟩

/-- A capture has its mean (R15). -/
theorem Goes.completeCapture (i : StringId) (sum : Int) (s : State) : Goes s (s.completeCapture i sum) := by
  unfold State.completeCapture
  simp only []
  split
  · next hm =>
    have g1 : Goes s (s.modMfe fun m => { m with capture := none }) :=
      ⟨fun x => x.abandons (.inr ⟨_, rfl, .inl rfl⟩), id⟩
    have g : Goes s ((s.modMfe fun m => { m with capture := none }).modStringSettings i
        fun c => { c with offset := roundDiv sum captureSamples }) :=
      g1.trans (Goes.setString i _ _ rfl fun h => ⟨hm.1, hm.2, h.2.2⟩)
    split
    · next code ho =>
      refine ⟨fun x => ?_, fun x => g.settings x⟩
      have k := g.sound x
      have hc : ((s.modMfe fun m => { m with capture := none }).modStringSettings i
        fun c => { c with offset := roundDiv sum captureSamples }).view.capture = none := rfl
      generalize (s.modMfe fun m => { m with capture := none }).modStringSettings i
        (fun c => { c with offset := roundDiv sum captureSamples }) = u at k ho hc ⊢
      have hr : u.view.retest = none := by
        by_contra hn
        obtain ⟨o, m, w⟩ := k.shared.retest (Option.isSome_iff_ne_none.2 hn)
        rw [show u.view.waiting = _ from ho] at m
        cases m
        simp at w
      exact k.setWaiting hr hc (some ⟨code, .commit .done (bytes32 (BitVec.ofInt 32 (roundDiv sum captureSamples)))⟩)
    · exact g.trans ((Keeps.refl _).askCommit .settings []).goes
  · exact ⟨fun x => x.abandons s.view_dropCapture, fun x => State.settingsRight_of_ground
      (((Still.refl s).quiet (u := s.modMfe fun m => { m with capture := none }) rfl rfl).endUnitWait (.inl rfl)).ground x⟩

theorem Goes.captureStep (raw : RawScan) (v : Samples) (s : State) : Goes s (s.captureStep raw v) := by
  unfold State.captureStep
  split
  · exact Goes.refl s
  · next c hc =>
    refine Goes.ite (Goes.abandonCapture _ s) (Goes.ite (Goes.completeCapture _ _ s) ⟨fun x => ?_, id⟩)
    refine ⟨fun j => ?_, x.shared.nodup, x.shared.retest, fun _ => x.shared.capture ?_⟩
    · have f := x.fits j
      exact ⟨f.absent, f.closing, f.drive, f.ramp, f.retest, f.entry⟩
    · simp [State.view, hc]

theorem Keeps.qualifyAll (h : Keeps s t) : Keeps s t.qualifyAll :=
  h.forStrings (fun i u => Keeps.ite ((Keeps.refl u).testAndJoinQ i).arbiter (Keeps.refl u)) allStrings

theorem Goes.completeScan (raw : RawScan) (s : State) : Goes s (s.completeScan raw) := by
  unfold State.completeScan
  simp only []
  have g := (((Keeps.refl s).daylightStep (s.convert raw).bus).goes).trans (Goes.captureStep raw (s.convert raw) _)
  generalize State.scanRecord _ _ _ = r
  generalize State.captureStep raw _ _ = u at g ⊢
  have k1 : Goes s (u.modArcd fun a => a.nextInterval raw.arcIndex) := g.trans ((Keeps.refl u).modArcd _).goes
  generalize u.modArcd _ = w at k1 ⊢
  have k2 : Goes s (w.modMfe fun m => { m with samples := some (s.convert raw) }).nextScan := k1.trans ⟨id, id⟩
  generalize State.nextScan _ = x at k2 ⊢
  exact (k2.modHanded _).trans (Keeps.refl _).qualifyAll.goes

/-! ### The Configuration Store (R177, R178) -/

/-- A wait for commits ends (R178). -/
theorem Goes.endCommitWait (p : Port) (s : State) : Goes s (s.endCommitWait p) := by
  unfold State.endCommitWait
  split
  · next code r body ho =>
    obtain ⟨q, e⟩ := State.endOutstanding_eq p r body s
    refine ⟨fun x => ?_, fun x => ?_⟩
    · by_cases hp : p = .m
      · subst hp
        have hr : s.view.retest = none := by
          by_contra hn
          obtain ⟨o, m, w⟩ := x.shared.retest (Option.isSome_iff_ne_none.2 hn)
          rw [show s.view.waiting = _ from ho] at m
          cases m
          simp at w
        have hc : s.view.capture = none := by
          by_contra hn
          obtain ⟨o, m, w⟩ := x.shared.capture (Option.isSome_iff_ne_none.2 hn)
          rw [show s.view.waiting = _ from ho] at m
          cases m
          simp at w
        rw [e]
        exact x.setWaiting hr hc _
      · have hm : ((s.endOutstanding p r body).port .m) = s.port .m := by
          unfold State.endOutstanding
          split
          · rw [State.port_reply, if_neg fun e => hp e.symm, State.port_modPort, if_neg fun e => hp e.symm]
          · rfl
        have hv : (s.endOutstanding p r body).view = s.view := by
          have : (s.endOutstanding p r body).view =
              { s.view with waiting := ((s.endOutstanding p r body).port .m).outstanding } := by
            rw [e]
            rfl
          rw [this, hm]
          rfl
        rwa [hv]
    · rw [e]
      exact x
  · exact Goes.refl s

theorem Goes.releaseWaiters (rest : List CommitEntry) (ps : List Port) (h : Goes s t) :
    Goes s (releaseWaiters rest ps t) := by
  induction ps generalizing t with
  | nil => exact h
  | cons p ps ih => exact ih (Goes.ite h (h.trans (Goes.endCommitWait p t)))

/-- A write's content is in its copy, and the other copy stands (R177). -/
theorem Copies.write_cases {α : Type} (c : Copies α) (x : α) :
    ((c.write x).a.data = x ∧ (c.write x).b = c.b) ∨ ((c.write x).b.data = x ∧ (c.write x).a = c.a) := by
  unfold Copies.write
  simp only []
  split
  · exact .inr ⟨rfl, rfl⟩
  · exact .inl ⟨rfl, rfl⟩

theorem Goes.commitCompletes (s : State) : Goes s s.commitCompletes := by
  unfold State.commitCompletes
  split
  · next w e rest hw hq =>
    have g : Goes s (s.modCfs fun c => c.finish w.image) := by
      refine ⟨fun x => x, fun x => ?_⟩
      obtain ⟨h1, h2, h3, h4⟩ := x
      cases hi : w.image with
      | settings c =>
        have hc := h4 w hw c (by rw [hi]; rfl)
        refine ⟨h1, ?_, ?_, fun _ m => by simp [Cfs.finish] at m⟩
        · rcases Copies.write_cases s.cfs.settingsCopies c with ⟨ha, -⟩ | ⟨-, ha⟩
          · exact ha.symm ▸ hc
          · exact (congrArg Copy.data ha).symm ▸ h2
        · rcases Copies.write_cases s.cfs.settingsCopies c with ⟨-, hb⟩ | ⟨hb, -⟩
          · exact (congrArg Copy.data hb).symm ▸ h3
          · exact hb.symm ▸ hc
      | holds c => exact ⟨h1, h2, h3, fun _ m => by simp [Cfs.finish] at m⟩
    exact Goes.ite (Goes.releaseWaiters rest _ g).beginWrite (Goes.refl s)
  · exact Goes.refl s

/-- A loss of supply spoils at most the good mark of a copy (R177). -/
theorem Copies.spoil_data {α : Type} (c : Copies α) : c.spoil.a.data = c.a.data ∧ c.spoil.b.data = c.b.data := by
  unfold Copies.spoil
  split
  · exact ⟨rfl, rfl⟩
  · split <;> exact ⟨rfl, rfl⟩

theorem Cfs.loseSupply_data (c : Cfs) : c.loseSupply.settingsCopies.a.data = c.settingsCopies.a.data ∧
    c.loseSupply.settingsCopies.b.data = c.settingsCopies.b.data := by
  unfold Cfs.loseSupply
  rcases c.writing with _ | ⟨_, _ | _⟩
  · exact ⟨rfl, rfl⟩
  · exact Copies.spoil_data _
  · exact ⟨rfl, rfl⟩

/-! ### Start-up and the loss of supply (R99, R177 to R180) -/

/-- A state in which no string closes and no unit runs, as a start-up leaves it. -/
structure View.Starts (v : View) : Prop where
  absent : ∀ i, v.present i = false → v.state i = .absent
  still : ∀ i, ¬v.closes i
  drive : ∀ i, v.drive i = .off
  ramp : v.rampList = []
  retest : v.retest = none
  capture : v.capture = none
  entry : ∀ e ∈ v.queue, e.mark ≠ .toClose

theorem View.Starts.sound {v : View} (h : v.Starts) : v.Sound := by
  refine ⟨fun i => ⟨h.absent i, fun m => absurd m (h.still i), fun m => absurd (h.drive i) m, fun m => ?_, fun r m => ?_,
    fun e m _ n => absurd n (h.entry e m)⟩, ?_, fun m => ?_, fun m => ?_⟩
  · rw [h.ramp] at m; cases m
  · rw [h.retest] at m; cases m
  · rw [h.ramp]; exact List.nodup_nil
  · simp [h.retest] at m
  · simp [h.capture] at m

theorem View.Starts.abandons {v w : View} (h : v.Starts) (k : v.Abandons w) : w.Starts := by
  rcases k with rfl | ⟨o, rfl, -⟩
  · exact h
  · exact ⟨h.absent, h.still, h.drive, h.ramp, h.retest, rfl, h.entry⟩

theorem View.Starts.setHolds {v : View} (h : v.Starts) (f : StringId → HoldSet) : View.Starts { v with holds := f } :=
  ⟨h.absent, h.still, h.drive, h.ramp, h.retest, h.capture, h.entry⟩

/-- A string takes a state that its presence allows and that does not close. -/
theorem View.Starts.setState {v : View} (h : v.Starts) (i : StringId) (x : SwitchState)
    (hp : v.present i = false → x = .absent)
    (hx : x ≠ .pendingClose ∧ x ≠ .rampWait ∧ x ≠ .ramping ∧ x ≠ .closed) :
    View.Starts { v with state := Function.update v.state i x } := by
  refine ⟨fun j m => ?_, fun j m => ?_, h.drive, h.ramp, h.retest, h.capture, h.entry⟩
  · by_cases hj : j = i
    · subst hj
      simpa using hp m
    · simpa [hj] using h.absent j m
  · unfold View.closes at m
    by_cases hj : j = i
    · subst hj
      simp [hx] at m
    · simp only [Function.update_of_ne hj] at m
      exact h.still j m

theorem View.Starts.setSwitch (h : s.view.Starts) (i : StringId) (x : SwitchState) (hp : s.present i = false → x = .absent)
    (hx : x ≠ .pendingClose ∧ x ≠ .rampWait ∧ x ≠ .ramping ∧ x ≠ .closed) :
    (s.modSwitch i fun w => { w with state := x }).view.Starts := by
  rw [State.view_modSwitch]
  have hd : Function.update s.view.drive i (s.sw i).drive = s.view.drive :=
    Function.update_eq_self i (fun j => (s.sw j).drive)
  rw [hd]
  exact h.setState i x hp hx

theorem View.Starts.replaceFault (h : s.view.Starts) (i : StringId) (kind : FaultKind) :
    (s.replaceFault i kind).view.Starts := by
  obtain ⟨y, e⟩ := State.view_putHold (.switch kind) i s
  have k : (s.putHold (.switch kind) i).view.Starts := by
    rw [e]
    exact h.setHolds _
  unfold State.replaceFault
  rw [State.view_emit]
  exact k.abandons (State.view_takeReports _)

theorem View.Starts.recoverSwitch (h : s.view.Starts) (i : StringId) : (s.recoverSwitch i).view.Starts := by
  unfold State.recoverSwitch
  simp only []
  split
  · exact h.setSwitch i .absent (fun _ => rfl) (by simp)
  · next hp =>
    have k (x : SwitchState) (hx : x ≠ .pendingClose ∧ x ≠ .rampWait ∧ x ≠ .ramping ∧ x ≠ .closed) :=
      h.setSwitch i x (fun e => absurd e hp) hx
    split
    · split
      · exact (k .faulted (by simp)).replaceFault i _
      · exact k .faulted (by simp)
    · split
      · exact k .pendingOpen (by simp)
      · refine View.Starts.setSwitch ?_ i .opened (fun e => absurd e hp) (by simp)
        unfold State.startDwell
        rw [State.view_modSwitch_same]
        · exact h
        · exact fun _ => ⟨rfl, rfl⟩

theorem View.Starts.joinOpen (h : s.view.Starts) (i : StringId) : (s.joinQueue i .toOpen).view.Starts := by
  have mem := State.mem_joinQueue i .toOpen s
  rw [State.view_joinQueue]
  refine ⟨h.absent, h.still, h.drive, h.ramp, h.retest, h.capture, fun e m => ?_⟩
  rcases mem e m with m | rfl
  · exact h.entry e m
  · simp

theorem View.Starts.enterCurtailWait (h : s.view.Starts) (i : StringId) (hp : s.present i = true) :
    (s.enterCurtailWait i).view.Starts := by
  have k : (s.modSwitch i fun w => { w with periods := 0 }).view.Starts := by
    rw [State.view_modSwitch_same]
    · exact h
    · exact fun _ => ⟨rfl, rfl⟩
  unfold State.enterCurtailWait
  rw [State.view_emit]
  generalize htm : some (State.after _ _) = tm
  obtain ⟨y, e, -⟩ := State.view_enter i .curtailWait tm (s.modSwitch i fun w => { w with periods := 0 })
  rw [e]
  refine (k.setState i .curtailWait (fun m => ?_) (by simp)).setHolds _
  rw [show View.present _ i = s.present i from rfl, hp] at m
  cases m

theorem View.Starts.recoverEntry (h : s.view.Starts) (i : StringId) : (s.recoverEntry i).view.Starts := by
  unfold State.recoverEntry
  split
  · exact h.joinOpen i
  · split
    · next hs =>
      simp only []
      split
      · exact h.joinOpen i
      · refine (h.joinOpen i).enterCurtailWait i ?_
        rw [((Still.refl s).joinQueue i .toOpen).present i]
        exact h.sound.present (by simp [State.view, hs])
    · exact h

theorem View.Starts.forStrings {f : StringId → State → State} (hf : ∀ i s, s.view.Starts → (f i s).view.Starts)
    (xs : List StringId) {s : State} (h : s.view.Starts) : (Machine.forStrings f xs s).view.Starts := by
  induction xs generalizing s with
  | nil => exact h
  | cons i xs ih => exact ih (hf i s h)

theorem Still.recoverSwitch (i : StringId) (h : Still s t) : Still s (t.recoverSwitch i) := by
  unfold State.recoverSwitch
  simp only []
  split
  · exact h.modSwitch i _
  · split
    · split
      · exact (h.modSwitch i _).replaceFault i _
      · exact h.modSwitch i _
    · split
      · exact h.modSwitch i _
      · exact (h.startDwell i).modSwitch i _

theorem Still.recoverEntry (i : StringId) (h : Still s t) : Still s (t.recoverEntry i) := by
  unfold State.recoverEntry
  split
  · exact h.joinQueue i _
  · split
    · simp only []
      split
      · exact h.joinQueue i _
      · exact (h.joinQueue i _).enterCurtailWait i
    · exact h

/-- Start-up relay recovery (R99). -/
theorem State.recoverRelays_keeps (s : State) :
    Still s s.recoverRelays ∧ (s.view.Starts → s.recoverRelays.view.Sound) := by
  have k1 := Still.forStrings (fun i u => (Still.refl u).recoverSwitch i) allStrings (Still.refl s)
  have w1 := View.Starts.forStrings (fun i u y => y.recoverSwitch i) allStrings (s := s)
  unfold State.recoverRelays
  simp only []
  generalize Machine.forStrings State.recoverSwitch allStrings s = u at k1 w1 ⊢
  have kn : Still s (u.modFli fun f => { f with positionsKnown := true }).noteStates :=
    (k1.quiet (u := u.modFli fun f => { f with positionsKnown := true }) rfl rfl).quiet rfl rfl
  have vn : (u.modFli fun f => { f with positionsKnown := true }).noteStates.view = u.view := rfl
  generalize State.noteStates _ = w at kn vn ⊢
  have k3 := Still.forStrings (fun i u => (Still.refl u).recoverEntry i) allStrings kn.takeReports
  refine ⟨k3.arbiter.takeReports, fun x => ?_⟩
  have w2 : w.takeReports.view.Starts := View.Starts.abandons (vn ▸ w1 x) (State.view_takeReports _)
  have w3 := View.Starts.forStrings (fun i u y => y.recoverEntry i) allStrings w2
  exact w3.sound.arbiter.takeReports

theorem Still.askReplacements (r : ReadRecords) (s : State) :
    Still s (s.askReplacements r) ∧ (s.askReplacements r).view = s.view := by
  unfold State.askReplacements
  simp only []
  split <;> split <;> exact ⟨⟨rfl, fun _ _ => rfl⟩, rfl⟩

theorem Still.restoreHolds (r : ReadRecords) (s : State) :
    Still s (s.restoreHolds r) ∧ ∃ f, (s.restoreHolds r).view = { s.view with holds := f } := by
  unfold State.restoreHolds
  simp only []
  split <;> exact ⟨⟨rfl, fun _ _ => rfl⟩, _, rfl⟩

/-- The part as a start-up begins: nothing closes and nothing waits. -/
theorem State.started_starts (inp : StartInputs) (r : ReadRecords) (c : Cfs) (pending : List Instr) :
    (State.started inp r c pending).view.Starts := by
  have sw (i : StringId) : (State.started inp r c pending).sw i = restingSwitch := by
    simp [State.sw, State.started, State.off]
  refine ⟨fun i _ => ?_, fun i m => ?_, fun i => ?_, rfl, rfl, rfl, fun _ m => ?_⟩
  · change ((State.started inp r c pending).sw i).state = .absent
    rw [sw]; rfl
  · have e : View.state (State.started inp r c pending).view i = .absent := by
      change ((State.started inp r c pending).sw i).state = .absent
      rw [sw]; rfl
    unfold View.closes at m
    simp [e] at m
  · change ((State.started inp r c pending).sw i).drive = .off
    rw [sw]; rfl
  · change _ ∈ ([] : List CoilEntry) at m
    cases m

/-- The settings that a start-up reads are those of a stored copy, or defaults (R177, R180). -/
theorem Copies.dataOr_cases {α : Type} (c : Copies α) (x : α) :
    c.dataOr x = c.a.data ∨ c.dataOr x = c.b.data ∨ c.dataOr x = x := by
  unfold Copies.dataOr Copies.latest
  split
  · next v h =>
    split at h
    · split at h <;> cases h
      · exact .inl rfl
      · exact .inr (.inl rfl)
    · cases h; exact .inl rfl
    · cases h; exact .inr (.inl rfl)
    · cases h
  · exact .inr (.inr rfl)

theorem Goes.startUp (cause : StartCause) (inp : StartInputs) (s : State) : Goes s (s.startUp cause inp) := by
  obtain ⟨ka, va⟩ := Still.askReplacements (s.storeAtStart inp).read
    (State.started inp (s.storeAtStart inp).read (s.storeAtStart inp) s.pending)
  have ke := ka.emit .restarted none cause.code (bitAt 0 (s.storeAtStart inp).read.settingsReplaced +
    bitAt 1 (s.storeAtStart inp).read.holdsReplaced + bitAt 2 (s.storeAtStart inp).read.disagree : Nat)
  have ve := (State.view_emit .restarted none cause.code (bitAt 0 (s.storeAtStart inp).read.settingsReplaced +
    bitAt 1 (s.storeAtStart inp).read.holdsReplaced + bitAt 2 (s.storeAtStart inp).read.disagree : Nat)
    (State.askReplacements (s.storeAtStart inp).read
      (State.started inp (s.storeAtStart inp).read (s.storeAtStart inp) s.pending))).trans va
  unfold State.startUp
  simp only []
  change Goes s ((State.restoreHolds (s.storeAtStart inp).read (State.emit .restarted none cause.code
    (bitAt 0 (s.storeAtStart inp).read.settingsReplaced + bitAt 1 (s.storeAtStart inp).read.holdsReplaced +
      bitAt 2 (s.storeAtStart inp).read.disagree : Nat) (State.askReplacements (s.storeAtStart inp).read
      (State.started inp (s.storeAtStart inp).read (s.storeAtStart inp) s.pending)))).recoverRelays.startMeasurement
    .periodic .routine).beginWrite
  generalize State.emit .restarted none cause.code _ _ = u at ke ve ⊢
  obtain ⟨kr, f, vr⟩ := Still.restoreHolds (s.storeAtStart inp).read u
  obtain ⟨kq, vq⟩ := State.recoverRelays_keeps (u.restoreHolds (s.storeAtStart inp).read)
  refine Goes.beginWrite (Goes.trans ⟨fun _ => vq ?_, fun x => ?_⟩ ((Keeps.refl _).startMeasurement .periodic
    .routine).goes)
  · rw [vr, ve]
    exact (State.started_starts _ _ _ _).setHolds f
  · refine State.settingsRight_of_ground ((ke.trans kr).trans kq).ground ?_
    obtain ⟨-, h2, h3, -⟩ := x
    obtain ⟨da, db⟩ := s.cfs.loseSupply_data
    have ha : (s.storeAtStart inp).settingsCopies.a.data.inRange := da.symm ▸ h2
    have hb : (s.storeAtStart inp).settingsCopies.b.data.inRange := db.symm ▸ h3
    refine ⟨?_, ha, hb, fun _ m => by cases m⟩
    change Settings.inRange (s.storeAtStart inp).read.settings
    rcases Copies.dataOr_cases (s.storeAtStart inp).settingsCopies defaultSettings with e | e | e
    · exact (congrArg Settings.inRange e).mpr ha
    · exact (congrArg Settings.inRange e).mpr hb
    · exact (congrArg Settings.inRange e).mpr defaultSettings_inRange

theorem Goes.losePower (s : State) : Goes s s.losePower := by
  have sw (i : StringId) : s.losePower.sw i = restingSwitch := by
    simp [State.sw, State.losePower, State.off]
  refine ⟨fun _ => View.Starts.sound ⟨fun i _ => ?_, fun i m => ?_, fun i => ?_, rfl, rfl, rfl, fun _ m => ?_⟩,
    fun x => ?_⟩
  · change (s.losePower.sw i).state = .absent
    rw [sw]; rfl
  · have e : View.state s.losePower.view i = .absent := by
      change (s.losePower.sw i).state = .absent
      rw [sw]; rfl
    unfold View.closes at m
    simp [e] at m
  · change (s.losePower.sw i).drive = .off
    rw [sw]; rfl
  · change _ ∈ ([] : List CoilEntry) at m
    cases m
  · obtain ⟨-, h2, h3, -⟩ := x
    obtain ⟨da, db⟩ := s.cfs.loseSupply_data
    exact ⟨defaultSettings_inRange, da.symm ▸ h2, db.symm ▸ h3, fun _ m => by cases m⟩

end Sys2Proof.Machine
end

section
/-! SUPPORT. Every command, and every step, keeps the invariants of closing and the settings in range. -/

namespace Sys2Proof.Machine

variable {s t : State}

/-! ### Events that are not composite work of one block -/

/-- An occurrence takes effect or changes nothing; a fault or a refusal is none of its outcomes. -/
theorem Goes.happens {cond : Bool} {f : State → State} (h : s.happens cond f = .next t)
    (hf : cond = true → Goes s (f s)) : Goes s t := by
  unfold State.happens at h
  cases h
  split
  · next hc =>
    simp only [Bool.and_eq_true] at hc
    exact hf hc.2
  · exact Goes.refl s

theorem Goes.takes {u : State} (h : (.next u : Host.Outcome State Fault Refusal) = .next t) (k : Goes s u) :
    Goes s t := by
  cases h
  exact k

theorem Goes.takeBytes (p : Port) (bytes : List Byte) (s : State) : Goes s (s.takeBytes p bytes) := by
  unfold State.takeBytes
  split
  · exact (Goes.refl s).modPort p _ fun _ => rfl
  · exact Goes.refl s

theorem Goes.applyBaud (p : Port) (s : State) : Goes s (s.applyBaud p) := by
  unfold State.applyBaud
  split
  · exact (Goes.refl s).modPort p _ fun _ => rfl
  · exact Goes.refl s

/-- The service key is nothing of closing and no setting (R164). -/
theorem Goes.modKey (f : Key → Key) (s : State) : Goes s (s.modPorts fun t => { t with key := f t.key }) :=
  ⟨id, id⟩

theorem Goes.sevalTakesUp (s : State) : Goes s s.sevalTakesUp := by
  unfold State.sevalTakesUp
  split
  · exact Goes.refl s
  · exact ((Goes.refl s).modHanded _).trans ((Keeps.refl _).evaluate _).finish

theorem Goes.tscTakesUp (s : State) : Goes s s.tscTakesUp := by
  unfold State.tscTakesUp
  split
  · exact Goes.refl s
  · exact ((Goes.refl s).modHanded _).trans ((Keeps.refl _).shedWork _).finish

theorem Goes.arcdTakesUp (s : State) : Goes s s.arcdTakesUp := by
  unfold State.arcdTakesUp
  split
  · exact Goes.refl s
  · exact ((Goes.refl s).modHanded _).trans ((Keeps.refl _).judgeArc _).finish

/-- A timer that has expired in a state tells the state. -/
theorem State.expired_state {i : StringId} {st : SwitchState} (h : s.expired i st = true) : s.switchState i = st := by
  simp only [State.expired, Bool.and_eq_true, beq_iff_eq] at h
  exact h.1

/-- A string that is in another state than ABSENT is PRESENT (R50). -/
theorem View.Sound.present_of_state (h : s.view.Sound) {i : StringId} {st : SwitchState} (hs : s.switchState i = st)
    (hn : st ≠ .absent) : s.present i = true :=
  h.present (by rw [show s.view.state i = s.switchState i from rfl, hs]; exact hn)

theorem Goes.becomeFaulted (i : StringId) (kind : FaultKind) {st : SwitchState} (hs : s.switchState i = st)
    (hf : st ≠ .faulted) (hn : st ≠ .absent) : Goes s (s.becomeFaulted i kind) :=
  ⟨fun x => x.becomeFaulted (hs ▸ hf) (x.present_of_state hs hn) kind,
    State.settingsRight_of_ground ((Still.refl s).becomeFaulted i kind).ground⟩

/-- The string of a retest is FAULTED (R96). -/
theorem View.Sound.faulted_of_retest (h : s.view.Sound) {r : Retest} (hr : s.sseq.retest = some r) :
    s.switchState r.string = .faulted := (h.fits r.string).retest r hr rfl

theorem Goes.retestStepLate (s : State) : Goes s s.retestStepLate := by
  unfold State.retestStepLate
  split
  · next r hr =>
    have only : ∀ x ∈ s.sseq.retest, x.string = r.string := fun x m => by
      rw [hr, Option.mem_some_iff] at m
      exact m ▸ rfl
    have k : Goes s (s.retestFails r.string r.step.unconfirmed) :=
      ⟨fun x => x.retestFails only (x.faulted_of_retest hr) _,
        State.settingsRight_of_ground ((Still.refl s).retestFails _ _).ground⟩
    exact Goes.ite k.finish (Goes.refl s)
  · exact Goes.refl s

/-- The timer of a retest is nothing of closing. -/
theorem View.Sound.stopRetestTimer {v : View} (h : v.Sound) {r : Retest} (hr : v.retest = some r) (x : Option Nat) :
    View.Sound { v with retest := some { r with timer := x } } := by
  refine ⟨fun i => ?_, h.shared.nodup, fun _ => h.shared.retest (by rw [hr]; rfl), h.shared.capture⟩
  have f := h.fits i
  refine ⟨f.absent, f.closing, f.drive, f.ramp, fun y m k => ?_, fun e m k n => ?_⟩
  · cases m
    exact f.retest r hr k
  · refine (f.entry e m k n).imp_right fun ⟨y, my, w⟩ => ?_
    rw [hr, Option.mem_some_iff] at my
    subst my
    exact ⟨_, rfl, w⟩

theorem Goes.retestWaitOver (s : State) : Goes s s.retestWaitOver := by
  unfold State.retestWaitOver
  split
  · next r hr =>
    have only : ∀ x ∈ s.sseq.retest, x.string = r.string := fun x m => by
      rw [hr, Option.mem_some_iff] at m
      exact m ▸ rfl
    have k : Goes s ((s.endRetest r.string).takeReports.endUnitWait .retest) :=
      ⟨fun x => x.retestEnds only,
        State.settingsRight_of_ground ((((Still.refl s).endRetest _).takeReports).endUnitWait (.inr rfl)).ground⟩
    have k' : Goes s (s.modSseq fun q => { q with retest := some { r with timer := none } }) :=
      ⟨fun x => x.stopRetestTimer hr none, id⟩
    exact Goes.ite (Goes.ite k' k.finish) (Goes.refl s)
  · exact Goes.refl s

theorem Goes.periodicCompletes (reading : Nat) (s : State) : Goes s (s.periodicCompletes reading) := by
  unfold State.periodicCompletes
  split
  · exact Goes.ite ((Keeps.refl s).periodicMeasured _ _).finish (Goes.refl s)
  · exact Goes.refl s

theorem Goes.searchCompletes (reading : Nat) (s : State) : Goes s (s.searchCompletes reading) := by
  unfold State.searchCompletes
  split
  · exact Goes.ite ((Keeps.refl s).searchMeasured _).finish (Goes.refl s)
  · exact Goes.refl s

theorem Keeps.modEvr (h : Keeps s t) (f : Evr → Evr) : Keeps s (t.modEvr f) := h.quiet rfl rfl rfl

theorem Goes.holdOffExpires (s : State) : Goes s s.holdOffExpires := by
  have k := (Keeps.refl s).modEvr fun e => { e with holdOff := none }
  unfold State.holdOffExpires
  refine Goes.ite k.goes ?_
  unfold State.issueConnected
  exact ((k.emit _ _ _ _).modEvr _).goes

theorem Goes.coalesceExpires (p : Port) (s : State) : Goes s (s.coalesceExpires p) := by
  unfold State.coalesceExpires
  split
  · exact Goes.ite ((Goes.refl s).quiet rfl rfl) (Goes.refl s)
  · exact Goes.refl s

theorem PortState.send_outstanding (q : PortState) : q.send.outstanding = q.outstanding := by
  unfold PortState.send
  split <;> rfl

/-! ### Every command -/

/-- Every command keeps the invariants of closing and the settings in range. -/
theorem Goes.exec {c : Instr} (h : exec c s = .next t) : Goes s t := by
  cases c with
  | powerUp inp => exact Goes.takes (show execPowerUp inp s = _ from h) (Goes.startUp _ inp s)
  | supplyDip inp => exact Goes.happens (show execSupplyDip inp s = _ from h) fun _ => Goes.startUp _ inp s
  | restartWaitEnd inp => exact Goes.happens (show execRestartWaitEnd inp s = _ from h) fun _ => Goes.startUp _ inp s
  | powerLoss => exact Goes.happens (show execPowerLoss s = _ from h) fun _ => Goes.losePower s
  | frameDropped p frame =>
    exact Goes.happens (show execFrameDropped p frame s = _ from h) fun _ =>
      (Goes.refl s).modPort p _ fun _ => rfl
  | partialFrameGivenUp p bytes =>
    exact Goes.happens (show execPartialFrameGivenUp p bytes s = _ from h) fun _ =>
      Goes.takeBytes p bytes s
  | unknownRequestCode p code payload =>
    exact Goes.happens (show execUnknownRequestCode p code payload s = _ from h) fun _ =>
      ((Goes.refl s).modPort p (fun t => t.heard s.now .idle) fun _ => rfl).reply p code _ _
  | replyTransmitStart p =>
    exact Goes.happens (show execReplyTransmitStart p s = _ from h) fun _ =>
      (Goes.refl s).modPort p _ PortState.send_outstanding
  | transmissionEnd p =>
    exact Goes.happens (show execTransmissionEnd p s = _ from h) fun _ =>
      (Goes.refl s).modPort p _ fun _ => rfl
  | baudRateApplied p => exact Goes.happens (show execBaudRateApplied p s = _ from h) fun _ => Goes.applyBaud p s
  | serviceKeyInputChange on =>
    exact Goes.happens (show execServiceKeyInputChange on s = _ from h) fun _ =>
      Goes.modKey (fun k => k.inputChanges on s.now) s
  | keyDebounceExpiry =>
    exact Goes.happens (show execKeyDebounceExpiry s = _ from h) fun _ =>
      Goes.modKey (fun k => { k with on := k.input, debounce := none }) s
  | status p payload =>
    exact Goes.takes (show execStatus p payload s = _ from h)
      (Goes.serve _ p payload _ s fun u _ _ => (Goes.refl u).reply p _ _ _)
  | readString p payload =>
    exact Goes.takes (show execReadString p payload s = _ from h)
      (Goes.serve _ p payload _ s fun u _ _ => Goes.readStringRequest p payload u)
  | hold p payload =>
    exact Goes.takes (show execHold p payload s = _ from h)
      (Goes.serve _ p payload _ s fun _ hu _ => Goes.holdRequest p payload hu)
  | release p payload =>
    exact Goes.takes (show execRelease p payload s = _ from h)
      (Goes.serve _ p payload _ s fun _ hu _ => Goes.releaseRequest p payload hu)
  | acknowledgeReverse p payload =>
    exact Goes.takes (show execAcknowledgeReverse p payload s = _ from h)
      (Goes.serveAck _ p payload _ s fun _ hu => Goes.acknowledgeListed .reverse p payload hu)
  | acknowledgeGround p payload =>
    exact Goes.takes (show execAcknowledgeGround p payload s = _ from h)
      (Goes.serveAck _ p payload _ s fun _ hu => Goes.acknowledgeListed .ground p payload hu)
  | acknowledgeOvercurrent p payload =>
    exact Goes.takes (show execAcknowledgeOvercurrent p payload s = _ from h)
      (Goes.serveAck _ p payload _ s fun _ hu => Goes.acknowledgeListed .overcurrent p payload hu)
  | acknowledgeArc p payload =>
    exact Goes.takes (show execAcknowledgeArc p payload s = _ from h)
      (Goes.serveAck _ p payload _ s fun _ hu => Goes.acknowledgeArc p payload hu)
  | acknowledgeStore p payload =>
    exact Goes.takes (show execAcknowledgeStore p payload s = _ from h)
      (Goes.serveAck _ p payload _ s fun _ hu => Goes.acknowledgeStore p payload hu)
  | fireRestore p payload =>
    exact Goes.takes (show execFireRestore p payload s = _ from h)
      (Goes.serve _ p payload _ s fun _ hu _ => Goes.fireRestoreRequest p hu)
  | retire p payload =>
    exact Goes.takes (show execRetire p payload s = _ from h)
      (Goes.serve _ p payload _ s fun _ hu _ => Goes.retireRequest p payload hu)
  | retestSwitch p payload =>
    exact Goes.takes (show execRetestSwitch p payload s = _ from h)
      (Goes.serve _ p payload _ s fun _ hu hp => Goes.retestRequest p payload hu (State.permitted_unit (.inr rfl) hp))
  | calibrate p payload =>
    exact Goes.takes (show execCalibrate p payload s = _ from h)
      (Goes.serve _ p payload _ s fun _ hu hp => Goes.calibrateRequest p payload hu (State.permitted_unit (.inl rfl) hp))
  | setPresenceAbsent p payload =>
    exact Goes.takes (show execSetPresenceAbsent p payload s = _ from h)
      (Goes.servePresence false p payload s)
  | setPresencePresent p payload =>
    exact Goes.takes (show execSetPresencePresent p payload s = _ from h)
      (Goes.servePresence true p payload s)
  | searchStart p payload =>
    exact Goes.takes (show execSearchStart p payload s = _ from h)
      (Goes.serve _ p payload _ s fun _ hu _ => Goes.searchStartRequest p hu)
  | searchAbort p payload =>
    exact Goes.takes (show execSearchAbort p payload s = _ from h)
      (Goes.serve _ p payload _ s fun _ hu _ => Goes.searchAbortRequest p hu)
  | fetchEvents p payload =>
    exact Goes.takes (show execFetchEvents p payload s = _ from h)
      (Goes.serve _ p payload _ s fun u _ _ => Goes.fetchRequest p payload u)
  | readSetting p payload =>
    exact Goes.takes (show execReadSetting p payload s = _ from h)
      (Goes.serve _ p payload _ s fun u _ _ => Goes.readSettingRequest p payload u)
  | writeSetting p payload =>
    exact Goes.takes (show execWriteSetting p payload s = _ from h)
      (Goes.serve _ p payload _ s fun _ hu _ => Goes.writeSettingRequest p payload hu)
  | writeRoute p payload =>
    exact Goes.takes (show execWriteRoute p payload s = _ from h)
      (Goes.serve _ p payload _ s fun _ hu _ => Goes.writeRouteRequest p payload hu)
  | restart p payload =>
    exact Goes.takes (show execRestart p payload s = _ from h)
      (Goes.serve _ p payload _ s fun u _ _ => Goes.restartRequest p u)
  | scanCompletion raw =>
    exact Goes.happens (show execScanCompletion raw s = _ from h) fun _ =>
      (Goes.completeScan raw s).finish
  | sevalScanTakeUp => exact Goes.happens (show execSevalScanTakeUp s = _ from h) fun _ => Goes.sevalTakesUp s
  | tscScanTakeUp => exact Goes.happens (show execTscScanTakeUp s = _ from h) fun _ => Goes.tscTakesUp s
  | arcdScanTakeUp => exact Goes.happens (show execArcdScanTakeUp s = _ from h) fun _ => Goes.arcdTakesUp s
  | afterRampBlankExpiry =>
    exact Goes.happens (show execAfterRampBlankExpiry s = _ from h) fun _ =>
      ((Keeps.refl s).modArcd _).goes
  | currentFellBelowIZero i n =>
    exact Goes.happens (show execCurrentFellBelowIZero i n s = _ from h) fun _ =>
      ((Keeps.refl s).readFast i n).finish
  | currentReachedIZero i n =>
    exact Goes.happens (show execCurrentReachedIZero i n s = _ from h) fun _ =>
      ((Keeps.refl s).readFast i n).finish
  | feedbackShowsClosed i =>
    exact Goes.happens (show execFeedbackShowsClosed i s = _ from h) fun _ =>
      ((Keeps.refl s).feedbackClosed i).finish
  | feedbackShowsOpen i =>
    exact Goes.happens (show execFeedbackShowsOpen i s = _ from h) fun _ =>
      ((Keeps.refl s).feedbackOpen i).finish
  | closeConfirmExpiry i =>
    exact Goes.happens (show execCloseConfirmExpiry i s = _ from h) fun c =>
      (Goes.becomeFaulted i _ (State.expired_state c) (by decide) (by decide)).finish
  | openConfirmExpiry i =>
    exact Goes.happens (show execOpenConfirmExpiry i s = _ from h) fun c =>
      (Goes.becomeFaulted i _ (State.expired_state c) (by decide) (by decide)).finish
  | retestStepExpiry => exact Goes.happens (show execRetestStepExpiry s = _ from h) fun _ => Goes.retestStepLate s
  | retestOpenStepTimeout =>
    exact Goes.happens (show execRetestOpenStepTimeout s = _ from h) fun _ =>
      Goes.retestWaitOver s
  | recoveryPulseExpiry i =>
    exact Goes.happens (show execRecoveryPulseExpiry i s = _ from h) fun _ =>
      (((Keeps.refl s).setTimer i none).emit _ _ _ _).finish
  | pulseEnd i => exact Goes.happens (show execPulseEnd i s = _ from h) fun _ => ((Keeps.refl s).pulseEnds i).finish
  | rampEnd i =>
    exact Goes.happens (show execRampEnd i s = _ from h) fun c =>
      ((Keeps.refl s).rampEnds i (State.expired_state c)).finish
  | rampSlotFree => exact Goes.happens (show execRampSlotFree s = _ from h) fun _ => (Keeps.refl s).rampTest.finish
  | dwellPassed i =>
    exact Goes.happens (show execDwellPassed i s = _ from h) fun _ =>
      ((Keeps.refl s).dwellPasses i).finish
  | qualificationTimeout i =>
    exact Goes.happens (show execQualificationTimeout i s = _ from h) fun _ =>
      ((Keeps.refl s).qualTimesOut i).goes
  | interruptTimeout i =>
    exact Goes.happens (show execInterruptTimeout i s = _ from h) fun c =>
      ((Keeps.refl s).enterCurtailWait i (State.expired_state c)).finish
  | curtailPeriodExpiry i =>
    exact Goes.happens (show execCurtailPeriodExpiry i s = _ from h) fun _ =>
      ((Keeps.refl s).curtailPeriodEnds i).goes
  | recloseExpiry i =>
    exact Goes.happens (show execRecloseExpiry i s = _ from h) fun _ =>
      ((Keeps.refl s).recloseExpires i).finish
  | stableExpiry i =>
    exact Goes.happens (show execStableExpiry i s = _ from h) fun _ =>
      ((Keeps.refl s).stableExpires i).goes
  | periodicMeasurementComplete n =>
    exact Goes.happens (show execPeriodicMeasurementComplete n s = _ from h) fun _ =>
      Goes.periodicCompletes n s
  | gapExpiry =>
    exact Goes.happens (show execGapExpiry s = _ from h) fun _ =>
      ((Keeps.refl s).startMeasurement _ _).goes
  | searchMeasurementComplete n =>
    exact Goes.happens (show execSearchMeasurementComplete n s = _ from h) fun _ =>
      Goes.searchCompletes n s
  | stepTimerExpiry =>
    exact Goes.happens (show execStepTimerExpiry s = _ from h) fun _ =>
      (Keeps.refl s).stepTimerExpires.finish
  | fireLoopClassChange x =>
    exact Goes.happens (show execFireLoopClassChange x s = _ from h) fun _ =>
      ((Keeps.refl s).modFli _).goes
  | fireDebounceExpiry =>
    exact Goes.happens (show execFireDebounceExpiry s = _ from h) fun _ =>
      (Keeps.refl s).acceptLoop.finish
  | connectedSetHoldoffExpiry =>
    exact Goes.happens (show execConnectedSetHoldoffExpiry s = _ from h) fun _ =>
      Goes.holdOffExpires s
  | coalesceExpiry p => exact Goes.happens (show execCoalesceExpiry p s = _ from h) fun _ => Goes.coalesceExpires p s
  | commitComplete => exact Goes.happens (show execCommitComplete s = _ from h) fun _ => Goes.commitCompletes s

/-- Every step keeps the invariants of closing and the settings in range. -/
theorem Goes.step (h : step s = .next t) : Goes s t := by
  unfold Machine.step at h
  split at h
  · cases h
    unfold State.tick
    exact Goes.ite ⟨id, id⟩ (Goes.refl s)
  · next c rest _ =>
    have k : Goes s { s with pending := rest } := ⟨id, id⟩
    exact k.trans (Goes.exec h)

/-! ### The statements -/

/-- Settles O11: every step keeps `View.Sound`, which is the premises but that coils are right, and an entry that no
retest owns is that of a string in PENDING_CLOSE. -/
theorem closeEntriesBelongToClosingStrings : Obligations.CloseEntriesBelongToClosingStrings := by
  intro s t hc _ hw he h
  have x : t.view.Sound := (Goes.step h).sound (s.sound_iff.2 ⟨hc, hw, he⟩)
  obtain ⟨hc', hw', he'⟩ := t.sound_iff.1 x
  refine ⟨hw', he', fun e m k n => ?_⟩
  rcases he' e m k with hs | ⟨r, hr, hi, -⟩
  · exact (x.fits e.string).closing (.inl hs)
  · rw [Option.mem_def] at hr
    simp [State.underRetest, hr, hi] at n

/-- Settles O17: every step keeps the settings in range, in force, in both copies and in the image being written. -/
theorem settingsStayInRange : Obligations.SettingsStayInRange := fun _ _ x h => (Goes.step h).settings x

/-- Settles O4 by evaluating the reset state. -/
theorem resetHoldsTheStartUpValues : Obligations.ResetHoldsTheStartUpValues := by
  unfold Obligations.ResetHoldsTheStartUpValues
  decide

end Sys2Proof.Machine
end

section
/-! SUPPORT. The conversions of a scan to the nearest unit (R5 to R8), and where they go. -/

namespace Sys2Proof.Machine

/-- An integer nearest to a quotient, a half away from zero (R5). -/
def Nearest (n p : Int) (d : Nat) : Prop :=
  2 * (n * d - p).natAbs ≤ d ∧ (2 * (n * d - p).natAbs = d → p.natAbs < n.natAbs * d)

/-- The quotient of a value that is not negative, a half added, rounded down. -/
theorem nearest_halfUp {p : Int} (hp : 0 ≤ p) {d : Nat} (hd : 0 < d) : Nearest ((2 * p + d) / (2 * d)) p d := by
  have hpos : (0 : Int) < 2 * d := by omega
  have low := Int.ediv_mul_le (2 * p + d) hpos.ne'
  have high := Int.lt_ediv_add_one_mul_self (2 * p + d) hpos
  have sign : 0 ≤ (2 * p + d) / (2 * d) * d := Int.mul_nonneg (Int.ediv_nonneg (by omega) hpos.le) (by omega)
  have e : ∀ n : Int, n * (2 * d) = 2 * (n * d) := fun n => by ring
  unfold Nearest
  rw [← Int.natAbs_natCast d, ← Int.natAbs_mul, Int.natAbs_natCast]
  rw [e] at low
  rw [e, add_mul] at high
  generalize (2 * p + d) / (2 * d) * d = m at low high sign ⊢
  omega

theorem Nearest.neg {n p : Int} {d : Nat} (h : Nearest n p d) : Nearest (-n) (-p) d := by
  have e : (-n * d - -p).natAbs = (n * d - p).natAbs := by
    rw [← Int.natAbs_neg (n * d - p)]
    congr 1
    ring
  unfold Nearest
  rw [e, Int.natAbs_neg, Int.natAbs_neg]
  exact h

/-- The division that rounds gives the nearest integer (R5, R8). -/
theorem nearest_roundDiv (p : Int) {d : Nat} (hd : 0 < d) : Nearest (roundDiv p d) p d := by
  unfold roundDiv
  split
  · next hp => exact nearest_halfUp hp hd
  · have h := (nearest_halfUp (p := -p) (by omega) hd).neg
    rwa [neg_neg] at h

theorem tab_get {α : Type} (f : StringId → α) (i : StringId) : (tab f)[i] = f i := by
  unfold tab
  fin_cases i <;> rfl

theorem State.convert_channel (s : State) (raw : RawScan) (i : StringId) :
    (s.convert raw).channels[i] = convertChannel (s.strSet i) raw.channels[i] := tab_get _ i

theorem Range.clamp_eq (r : Range) : r.clamp = if r = .wide then 3200 else 800 := by cases r <;> rfl

/-- A completion once the scan has run for its whole interval (R1). -/
theorem exec_scanCompletion {s : State} (raw : RawScan) (hp : s.powered = true)
    (ho : s.mfe.scanStart + s.mfe.scanLength ≤ s.now) :
    exec (.scanCompletion raw) s = .next (s.completeScan raw).finish := by
  have h : exec (.scanCompletion raw) s = s.happens s.scanOver fun s => (s.completeScan raw).finish := rfl
  rw [h, State.happens, if_pos (by simp [hp, State.scanOver, ho])]

/-- The end of a step leaves the samples and the records handed over alone (R2). -/
theorem State.finish_handed (s : State) : s.finish.mfe.samples = s.mfe.samples ∧ s.finish.handed = s.handed := by
  have k : Still s s.takeReports.settle := (Keeps.refl s).takeReports.settle.still
  obtain ⟨c, e⟩ := State.beginWrite_eq s.takeReports.settle
  unfold State.finish
  rw [e]
  exact ⟨k.samples, k.handed⟩

/-! ### What a completion leaves before its tests -/

/-- A capture's sample changes the capture, the strings' settings, the commit queue and the ports alone (R14 to R16). -/
theorem State.captureStep_eq (raw : RawScan) (v : Samples) (s : State) : ∃ c f q p, s.captureStep raw v =
    { s with mfe := { s.mfe with capture := c }, settings := { s.settings with strings := f }
             cfs := { s.cfs with queue := q }, ports := { s.ports with port := p } } := by
  unfold State.captureStep
  split
  · exact ⟨_, _, _, _, rfl⟩
  · split
    · unfold State.abandonCapture
      split
      · split
        · obtain ⟨p, e⟩ := State.endUnitWait_eq .capture (s.modMfe fun m => { m with capture := none })
          exact ⟨_, _, _, p, e⟩
        · exact ⟨_, _, _, _, rfl⟩
      · exact ⟨_, _, _, _, rfl⟩
    · simp only []
      split
      · unfold State.completeCapture
        simp only []
        split
        · split <;> exact ⟨_, _, _, _, rfl⟩
        · obtain ⟨p, e⟩ := State.endUnitWait_eq .capture (s.modMfe fun m => { m with capture := none })
          exact ⟨_, _, _, p, e⟩
      · exact ⟨_, _, _, _, rfl⟩

/-- The record of a scan (R2). -/
def State.recordOf (raw : RawScan) (s : State) : ScanRecord :=
  (s.daylightStep (s.convert raw).bus).scanRecord raw (s.convert raw)

/-- A completion as far as its daylight tests and its capture go. -/
def State.captured (raw : RawScan) (s : State) : State :=
  (s.daylightStep (s.convert raw).bus).captureStep raw (s.convert raw)

theorem State.captured_eq (raw : RawScan) (s : State) : ∃ d w r g c f q p, s.captured raw =
    { s with mfe := { s.mfe with daylight := d, wakeCount := w, darkRun := r, capture := c }
             evr := { s.evr with ring := g }, settings := { s.settings with strings := f }
             cfs := { s.cfs with queue := q }, ports := { s.ports with port := p } } := by
  obtain ⟨d, w, r, g, ed⟩ := s.daylightStep_eq (s.convert raw).bus
  obtain ⟨c, f, q, p, ec⟩ := State.captureStep_eq raw (s.convert raw) (s.daylightStep (s.convert raw).bus)
  exact ⟨d, w, r, g, c, f, q, p, by rw [State.captured, ec, ed]⟩

/-- A completion goes on to the next interval and hands its record over (R1 to R3). -/
def State.handsOver (raw : RawScan) (v : Samples) (r : ScanRecord) (s : State) : State :=
  let s := s.modArcd fun a => a.nextInterval raw.arcIndex
  (s.modMfe fun m => { m with samples := some v }).nextScan.handOn r

/-- A completion but for its qualification tests (R2, R3). -/
def State.scanned (raw : RawScan) (s : State) : State :=
  (s.captured raw).handsOver raw (s.convert raw) (s.recordOf raw)

theorem State.completeScan_eq (raw : RawScan) (s : State) : s.completeScan raw = (s.scanned raw).qualifyAll := rfl

theorem State.scanned_samples (raw : RawScan) (s : State) : (s.scanned raw).mfe.samples = some (s.convert raw) := rfl

theorem State.scanned_handed (raw : RawScan) (s : State) : (s.scanned raw).handed =
    { seval := s.handed.seval ++ [s.recordOf raw], tsc := s.handed.tsc ++ [s.recordOf raw]
      arcd := s.handed.arcd ++ [s.recordOf raw] } := by
  have h : (s.captured raw).handed = s.handed := by
    obtain ⟨d, w, r, g, c, f, q, p, e⟩ := s.captured_eq raw
    rw [e]
  unfold State.scanned State.handsOver
  simp only [State.handOn, State.nextScan, State.modHanded_handed, State.modMfe_handed, State.modArcd_handed, h]

theorem State.recordOf_entry (raw : RawScan) (s : State) (i : StringId) :
    (s.recordOf raw).entries[i] = if s.present i then some (s.convert raw).channels[i] else none := by
  obtain ⟨d, w, r, g, ed⟩ := s.daylightStep_eq (s.convert raw).bus
  unfold State.recordOf State.scanRecord
  rw [tab_get, ed]
  rfl

/-- What a completion hands on stands at its end (R2). -/
theorem State.completeScan_handed (raw : RawScan) (s : State) :
    (s.completeScan raw).finish.mfe.samples = some (s.convert raw) ∧
    (s.completeScan raw).finish.handed = (s.scanned raw).handed := by
  have k := (Keeps.refl (s.scanned raw)).qualifyAll.still
  rw [State.completeScan_eq]
  obtain ⟨h1, h2⟩ := (s.scanned raw).qualifyAll.finish_handed
  exact ⟨(h1.trans k.samples).trans (s.scanned_samples raw), h2.trans k.handed⟩

/-! ### The statement -/

theorem convertChannel_clipped (c : StringSettings) (r : ChannelReading) : (convertChannel c r).clipped = true ↔
    r.overRange = true ∨ (convertChannel c r).current ≠ roundedCurrent c r.raw :=
  Bool.or_eq_true_iff.trans (or_congr_right decide_eq_true_iff)

theorem toNat_clampInt (x : Int) : ((clampInt 0 16000 x).toNat : Int) = max 0 (min 16000 x) :=
  Int.toNat_of_nonneg (by unfold clampInt; omega)

/-- Settles O41: `nearest_roundDiv` for the two divisions, and `completeScan_handed` for where the results go. -/
theorem readingsConvertToTheNearestUnit : Obligations.ReadingsConvertToTheNearestUnit := by
  intro s raw
  refine ⟨fun i => ?_, toNat_clampInt _, fun hk => ?_, fun hp ho => ?_⟩
  · obtain ⟨low, half⟩ := nearest_roundDiv
      (((raw.channels[i]).raw.toInt - (s.strSet i).offset) * (s.strSet i).gain) (d := 1048576) (by decide)
    simp only [s.convert_channel raw i, ← Range.clamp_eq]
    exact ⟨_, low, half, rfl, convertChannel_clipped _ _, toNat_clampInt _⟩
  · have hd : ((s.cfgNat .kSlope : Nat) : Int) = s.cfg .kSlope := Int.toNat_of_nonneg hk.le
    obtain ⟨low, half⟩ := nearest_roundDiv (((raw.temperatureCode.toNat : Int) - s.cfg .k25) * 10)
      (d := s.cfgNat .kSlope) (by omega)
    rw [hd] at low half
    have ha : (s.cfg .kSlope).natAbs = s.cfgNat .kSlope := by omega
    exact ⟨_, by rw [ha]; exact low, by rw [ha]; exact half, rfl⟩
  · obtain ⟨h1, h2⟩ := s.completeScan_handed raw
    refine ⟨_, exec_scanCompletion raw hp ho, h1, s.recordOf raw, ?_, rfl, rfl, fun i hi => ?_⟩
    · rw [h2, s.scanned_handed]
      simp
    · rw [s.recordOf_entry, hi]
      rfl

end Sys2Proof.Machine
end

section
/-! SUPPORT. The end of a step and of a request while no ground search is under way, and the statements on WRITE SETTING,
WRITE ROUTE, RESTART and CALIBRATE. -/

namespace Sys2Proof.Machine

variable {s t u : State}

/-! ### The end of a step -/

theorem State.takeReports_quiet (h : s.reports = false) : s.takeReports = s := by
  unfold State.takeReports
  simp [h]

/-- The working-out of ARRAY SAFE changes the output and the rings alone (R155, R156). -/
theorem State.workArraySafe_eq (s : State) : ∃ a g, s.workArraySafe =
    { s with fli := { s.fli with arraySafe := a }, evr := { s.evr with ring := g } } := by
  unfold State.workArraySafe
  simp only []
  split
  · exact ⟨_, _, rfl⟩
  · obtain ⟨g, e⟩ := State.emit_eq .arraySafe none (if s.fli.positionsKnown && s.notIsolated.isEmpty then 1 else 0)
      s.notIsolated.length (s.modFli fun f => { f with arraySafe := s.fli.positionsKnown && s.notIsolated.isEmpty })
    exact ⟨_, g, e⟩

/-- The check of a capture changes the capture and the ports alone (R16). -/
theorem State.checkCapture_eq (s : State) : ∃ c p, s.checkCapture =
    { s with mfe := { s.mfe with capture := c }, ports := { s.ports with port := p } } := by
  unfold State.checkCapture State.abandonCapture
  split
  · split
    · exact ⟨_, _, rfl⟩
    · split
      · split
        · obtain ⟨p, e⟩ := State.endUnitWait_eq .capture (s.modMfe fun m => { m with capture := none })
          exact ⟨_, p, e⟩
        · exact ⟨_, _, rfl⟩
      · exact ⟨_, _, rfl⟩
  · exact ⟨_, _, rfl⟩

/-- What the taking up of reports can change. -/
theorem State.takeReports_eq (s : State) : ∃ a g c p, s.takeReports =
    { s with fli := { s.fli with arraySafe := a }, evr := { s.evr with ring := g }
             mfe := { s.mfe with capture := c }, ports := { s.ports with port := p }, reports := false } := by
  unfold State.takeReports
  split
  · obtain ⟨a, g, e⟩ := (s.modReports fun _ => false).workArraySafe_eq
    obtain ⟨c, p, k⟩ := (s.modReports fun _ => false).workArraySafe.checkCapture_eq
    exact ⟨a, g, c, p, by rw [k, e]; rfl⟩
  · next h =>
    refine ⟨s.fli.arraySafe, s.evr.ring, s.mfe.capture, s.ports.port, ?_⟩
    rw [← Bool.eq_false_iff.2 h]

/-- An idle Ground Search Unit takes nothing up, and forgets the strings that left CLOSED. -/
theorem State.settle_idle (hg : s.gsu.state = .idle) (hr : s.reports = false) :
    s.settle = s.modGsu fun g => { g with left := [] } := by
  have rest (n : Nat) (u : State) (hu : u.gsu.state = .idle) (hl : u.gsu.left = []) : State.settleSteps n u = u := by
    cases n with
    | zero => rfl
    | succ n => simp [State.settleSteps, State.searchProgress, hu, hl]
  by_cases hl : s.gsu.left = []
  · refine (rest _ s hg hl).trans ?_
    rw [← hl]
    rfl
  · have e : s.takeUpLeavers = s.modGsu fun g => { g with left := [] } := by
      simp [State.takeUpLeavers, hg]
    have p : s.searchProgress = some (s.modGsu fun g => { g with left := [] }) := by
      simp [State.searchProgress, hl, e]
    have q : (s.modGsu fun g => { g with left := [] }).takeReports = s.modGsu fun g => { g with left := [] } :=
      State.takeReports_quiet hr
    show State.settleSteps (31 + 1) s = _
    unfold State.settleSteps
    rw [p]
    simp only []
    rw [q]
    exact rest _ _ hg rfl

/-- The end of a step while no ground search is under way. -/
theorem State.finish_idle (hg : s.gsu.state = .idle) :
    s.finish = (s.takeReports.modGsu fun g => { g with left := [] }).beginWrite := by
  obtain ⟨a, g, c, p, e⟩ := s.takeReports_eq
  unfold State.finish
  rw [State.settle_idle (by rw [e]; exact hg) (by rw [e])]

theorem State.finish_beyond (hg : s.gsu.state = .idle) : s.finish.beyondSwitching = s.beyondSwitching := by
  rw [s.finish_idle hg, State.beginWrite_beyond]
  exact s.takeReports_beyond

/-! ### Requests -/

/-- The state with a request heard on a port (R160). -/
def State.hear (p : Port) (s : State) : State := s.modPort p fun t => t.heard s.now .idle

theorem State.port_hear (p q : Port) (s : State) :
    (s.hear p).port q = if q = p then (s.port p).heard s.now .idle else s.port q :=
  State.port_modPort p q _ s

/-- A request that is accepted, of its size and permitted goes to its owner (R162). -/
theorem State.serve_accepts {q : RequestCode} {p : Port} {b : List Byte} (owner : State → State) (ha : s.accepts p)
    (hs : sizeFits q p b = true) (hp : s.permitted q p b = true) : s.serve q p b owner = owner (s.hear p) := by
  obtain ⟨h1, h2, h3, h4⟩ := ha
  have hears : s.hears p = true := by simp [State.hears, h1, h2]
  have free : ((s.hear p).port p).outstanding = none := by
    rw [State.port_hear, if_pos rfl]
    exact h3
  have busy : (s.hear p).busy p = false := by
    rw [State.busy, free]
    exact h4
  have permits : (s.hear p).permitted q p b = true := hp
  unfold State.serve
  rw [if_neg (by simp [hears])]
  change (if (s.hear p).busy p = true then _ else if _ then _ else if (s.hear p).permitted q p b = false then _ else _) = _
  rw [busy, if_neg (by simp), hs, if_neg (by simp), permits, if_neg (by simp)]
  rfl

/-- A reply to a request just heard. -/
theorem State.reply_hear (p : Port) (code : Byte) (r : Result) (body : List Byte) (s : State) :
    (s.hear p).reply p code r body = s.answered p code r body := by
  cases p <;> rfl

/-- A request that took effect without a report ends by waiting for a commit (R55, R163). -/
theorem State.conclude_quiet {p : Port} {q : RequestCode} {x : StoreRecord} {r : Result} {body : List Byte}
    (hc : u.calm) : u.conclude p q [x] r body =
      ((u.startWait p (requestCode q) (.commit r body)).askCommit x [p]).beginWrite := by
  obtain ⟨h1, h2, h3⟩ := hc
  have hs : u.settle = u := by
    rw [State.settle_idle h1 h3, ← h2]
    rfl
  unfold State.conclude
  rw [State.takeReports_quiet h3, hs]
  rfl

end Sys2Proof.Machine
end

section
/-! SUPPORT. The statement on WRITE ROUTE, RESTART and CALIBRATE. -/

namespace Sys2Proof.Machine

variable {s t u : State}

/-! ### Waits for a commit -/

/-- A port that waits for a commit, as it stands (R55, R163). -/
theorem State.port_startWait (p q : Port) (code : Byte) (w : Wait) (s : State) : (s.startWait p code w).port q =
    if q = p then { (s.port p) with outstanding := some { code := code, wait := w } } else s.port q :=
  State.port_modPort p q _ s

/-- A commit asked for has an entry that its port waits on (R178). -/
theorem State.askCommit_waits (x : StoreRecord) (p : Port) (s : State) :
    ∃ e ∈ (s.askCommit x [p]).cfs.queue, e.record = x ∧ p ∈ e.waiters := by
  obtain ⟨c, hc, hx, hw⟩ := joinCommit_waits x [p] s.cfs.waiting
  exact ⟨c, List.mem_append_right _ hc, hx, hw p List.mem_cons_self⟩

/-- A request heard by `s`, whose effect has led to `u` without touching its port, and which asks for a commit. -/
theorem deferred_of_port {p : Port} {q : RequestCode} {x : StoreRecord} {r : Result} {body : List Byte}
    (hu : u.port p = (s.hear p).port p) :
    Deferred s ((u.startWait p (requestCode q) (.commit r body)).askCommit x [p]).beginWrite p q r body [x] := by
  obtain ⟨w, e⟩ := State.beginWrite_eq ((u.startWait p (requestCode q) (.commit r body)).askCommit x [p])
  rw [e]
  constructor
  · change (u.startWait p _ _).port p = _
    rw [State.port_startWait, if_pos rfl, hu, State.port_hear, if_pos rfl]
    rfl
  · intro y hy
    rw [List.mem_singleton.1 hy]
    obtain ⟨c, hc, hx, hw⟩ := State.askCommit_waits x p (u.startWait p (requestCode q) (.commit r body))
    exact ⟨c, hc, hx, hw⟩

/-- A wait for a commit changes the ports, the commit queue and the write in progress alone. -/
theorem State.waitForCommit_eq (p : Port) (q : RequestCode) (x : StoreRecord) (r : Result) (body : List Byte)
    (u : State) : ∃ c o w, ((u.startWait p (requestCode q) (.commit r body)).askCommit x [p]).beginWrite =
      { u with cfs := { u.cfs with queue := c, writing := w }, ports := { u.ports with port := o } } := by
  obtain ⟨w, e⟩ := State.beginWrite_eq ((u.startWait p (requestCode q) (.commit r body)).askCommit x [p])
  exact ⟨_, _, w, e⟩

/-! ### The routing table (R172) -/

theorem EventKind.slot_val (k : EventKind) : k.slot.val = k.ctorIdx := by cases k <;> rfl

theorem EventKind.slot_inj {a b : EventKind} (h : a.slot = b.slot) : a = b := by
  have e : a.ctorIdx = b.ctorIdx := by rw [← EventKind.slot_val, ← EventKind.slot_val, h]
  rw [← EventKind.ofNat_ctorIdx a, ← EventKind.ofNat_ctorIdx b, e]

theorem ringsOf_eq (b : Byte) :
    ringsOf b = if b.toNat < 8 then some { s := b.getLsbD 0, v := b.getLsbD 1, m := b.getLsbD 2 } else none := by
  unfold ringsOf
  simp only [Nat.lt_succ_iff]

theorem exec_writeRoute {k r : Byte} (ha : s.accepts .s) :
    exec (.writeRoute .s [k, r]) s = .next ((s.hear .s).writeRouteRequest .s [k, r]) :=
  congrArg Host.Outcome.next (State.serve_accepts _ ha rfl rfl)

/-- WRITE ROUTE with a code or a subset that names nothing (R172). -/
theorem writeRoute_refused {k r : Byte} (h : kindOfCode k = none ∨ 8 ≤ r.toNat) :
    (s.hear .s).writeRouteRequest .s [k, r] = s.answered .s 0x10 .badForm [] := by
  have e : (s.hear .s).writeRouteRequest .s [k, r] = (s.hear .s).reply .s (requestCode .writeRoute) .badForm [] := by
    unfold State.writeRouteRequest
    split
    · next kind rings hk hr =>
      change kindOfCode k = some kind at hk
      change ringsOf r = some rings at hr
      rw [ringsOf_eq] at hr
      rcases h with h | h
      · rw [h] at hk
        cases hk
      · rw [if_neg (by omega)] at hr
        cases hr
    · rfl
  rw [e]
  exact State.reply_hear _ _ _ _ _

/-- WRITE ROUTE of a kind to a subset of rings (R172). -/
theorem writeRoute_accepted {k r : Byte} {kind : EventKind} (hc : s.calm) (hk : kindOfCode k = some kind)
    (hr : r.toNat < 8) : (s.hear .s).writeRouteRequest .s [k, r] =
      ((((s.hear .s).modSettings fun c => { c with
        routes := c.routes.set kind.slot { s := r.getLsbD 0, v := r.getLsbD 1, m := r.getLsbD 2 } }).startWait .s
        (requestCode .writeRoute) (.commit .done [])).askCommit .settings [.s]).beginWrite := by
  unfold State.writeRouteRequest
  change (match kindOfCode k, ringsOf r with | some k, some rings => _ | _, _ => _) = _
  rw [hk, ringsOf_eq, if_pos hr]
  exact State.conclude_quiet hc


/-- The rings of a kind after its subset was replaced. -/
theorem State.routed_setRoute (kind other : EventKind) (x : PerPort Bool) (p : Port) (s : State) :
    (s.modSettings fun c => { c with routes := c.routes.set kind.slot x }).routed other p =
      if other = kind then x.get p else s.routed other p := by
  change (((s.settings.routes.set kind.slot x)[other.slot]).get p) = _
  split
  · next h =>
    subst h
    simp
  · next h =>
    have hn : kind.slot.val ≠ other.slot.val := fun e => h (EventKind.slot_inj (Fin.ext e)).symm
    rw [State.routed]
    simp [hn]

/-! ### CALIBRATE (R13) -/

theorem exec_calibrate {n : Byte} (ha : s.accepts .m) (hk : s.ports.key.on = true) :
    exec (.calibrate .m [n]) s = .next ((s.hear .m).calibrateRequest .m [n]) :=
  congrArg Host.Outcome.next (State.serve_accepts _ ha rfl hk)

theorem stringOfByte_none {n : Byte} (h : ¬(1 ≤ n.toNat ∧ n.toNat ≤ 16)) : stringOfByte n = none := by
  unfold stringOfByte stringOfNumber
  simp [h]

theorem stringOfByte_number (i : StringId) : stringOfByte (byte (stringNumber i)) = some i := by
  revert i
  decide

/-- CALIBRATE that starts a capture (R13). -/
theorem calibrate_starts {i : StringId} (hp : s.present i = true) (ho : s.switchState i = .opened)
    (hv : s.has .svc i = true) : (s.hear .m).calibrateRequest .m [byte (stringNumber i)] =
      ((s.hear .m).modMfe fun m => { m with capture := some { string := i, count := 0, sum := 0 } }).startWait .m
        (requestCode .calibrate) .capture := by
  unfold State.calibrateRequest
  change (match stringOfByte (byte (stringNumber i)) with | none => _ | some i => _) = _
  rw [stringOfByte_number]
  change (if s.present i = false then _ else if s.switchState i ≠ .opened ∨ s.has .svc i = false then _ else _) = _
  rw [if_neg (by simp [hp]), if_neg (by simp [ho, hv])]

/-- CALIBRATE that is refused with BAD_STRING (R13). -/
theorem calibrate_badString {n : Byte} (h : ∀ i, stringOfByte n = some i → s.present i = false) :
    (s.hear .m).calibrateRequest .m [n] = s.answered .m 0x09 .badString [] := by
  rw [← State.reply_hear]
  unfold State.calibrateRequest
  split
  · rfl
  · next i hi => exact if_pos (h i hi)

/-- CALIBRATE that is refused with STATE (R13). -/
theorem calibrate_state {i : StringId} (hp : s.present i = true) (h : s.switchState i ≠ .opened ∨ s.has .svc i = false) :
    (s.hear .m).calibrateRequest .m [byte (stringNumber i)] = s.answered .m 0x09 .state [] := by
  rw [← State.reply_hear]
  unfold State.calibrateRequest
  change (match stringOfByte (byte (stringNumber i)) with | none => _ | some i => _) = _
  rw [stringOfByte_number]
  change (if s.present i = false then _ else if s.switchState i ≠ .opened ∨ s.has .svc i = false then _ else _) = _
  rw [if_neg (by simp [hp]), if_pos h]
  rfl

/-! ### The statement -/

/-- Settles O36, each request by its owner's branches on the state that has heard it. -/
theorem routeRestartAndCalibrateStart : Obligations.RouteRestartAndCalibrateStart := by
  intro s
  refine ⟨fun ha hc k r => ⟨fun h => ?_, fun kind hk hr => ?_⟩, fun ha hk => ?_, fun ha hk n => ⟨fun h => ?_, ?_⟩⟩
  · rw [exec_writeRoute ha, writeRoute_refused h]
  · refine ⟨_, (exec_writeRoute ha).trans (congrArg _ (writeRoute_accepted hc hk hr)), ?_⟩
    have port := deferred_of_port (s := s) (p := .s) (q := .writeRoute) (x := .settings) (r := .done) (body := [])
      (u := (s.hear .s).modSettings fun c => { c with
        routes := c.routes.set kind.slot { s := r.getLsbD 0, v := r.getLsbD 1, m := r.getLsbD 2 } }) rfl
    have routed := fun other p => State.routed_setRoute kind other
      { s := r.getLsbD 0, v := r.getLsbD 1, m := r.getLsbD 2 } p (s.hear .s)
    obtain ⟨q, o, w, e⟩ := State.waitForCommit_eq .s .writeRoute .settings .done []
      ((s.hear .s).modSettings fun c => { c with
        routes := c.routes.set kind.slot { s := r.getLsbD 0, v := r.getLsbD 1, m := r.getLsbD 2 } })
    rw [e] at port ⊢
    exact ⟨(routed kind .s).trans (if_pos rfl), (routed kind .v).trans (if_pos rfl),
      (routed kind .m).trans (if_pos rfl), fun other p h => (routed other p).trans (if_neg h), port, rfl⟩
  · have e : s.serve .restart .m [] (State.restartRequest .m) = (s.hear .m).restartRequest .m :=
      State.serve_accepts _ ha rfl hk
    have r : (s.hear .m).restartRequest .m =
        (s.answered .m 0x11 .done []).modPorts fun t => { t with restartWait := true } := by
      rw [← State.reply_hear]
      rfl
    exact congrArg Host.Outcome.next (e.trans r)
  · rw [exec_calibrate ha hk, calibrate_badString fun i e => by rw [stringOfByte_none h] at e; cases e]
  · rintro i rfl
    refine ⟨fun hp => ?_, fun hp h => ?_, fun hp ho hv => ?_⟩
    · rw [exec_calibrate ha hk, calibrate_badString fun j e => by
        rw [stringOfByte_number, Option.some.injEq] at e
        exact e ▸ hp]
    · rw [exec_calibrate ha hk, calibrate_state hp h]
    · refine ⟨_, (exec_calibrate ha hk).trans (congrArg _ (calibrate_starts hp ho hv)), ?_⟩
      exact ⟨rfl, rfl, rfl, rfl, rfl⟩

end Sys2Proof.Machine
end

section
/-! SUPPORT. The statements on WRITE SETTING: what a value is clamped to, and what a write leaves. -/

namespace Sys2Proof.Machine

variable {s t u : State}

/-! ### The value put in force (R167, R168) -/

theorem State.settingValue_general {k : Setting} {x y : Int} (h : s.settingValue k x = some y)
    (hk : k ∉ [.tScan, .baudS, .baudV, .addrS, .addrV, .tConfirm, .rClear, .tCut]) :
    y = max k.limits.1 (min k.limits.2 x) := by
  by_cases he : k = .searchEnable
  · subst he
    simp only [State.settingValue, Option.ite_none_right_eq_some, Option.some.injEq] at h
    obtain ⟨hx, rfl⟩ := h
    simp only [Setting.limits]
    omega
  · have e : s.settingValue k x = some (clampInt k.limits.1 k.limits.2 x) := by
      cases k
      case searchEnable => exact absurd rfl he
      case tScan | baudS | baudV | addrS | addrV | tConfirm | rClear | tCut => exact absurd (by decide) hk
      all_goals rfl
    exact (Option.some.inj (e.symm.trans h)).symm

theorem State.settingValue_period {x y : Int} (h : s.settingValue .tScan x = some y) :
    y ∈ ([50, 100, 200, 400] : List Int) ∧ (y ≤ x ∨ y = 50) ∧
      ∀ z ∈ ([50, 100, 200, 400] : List Int), z ≤ x → z ≤ y :=
  Option.some.inj h ▸ permitted_spec (by simp) x

theorem State.settingValue_baud {k : Setting} {x y : Int} (hk : k = .baudS ∨ k = .baudV)
    (h : s.settingValue k x = some y) :
    y ∈ ([19200, 38400, 115200] : List Int) ∧ (y ≤ x ∨ y = 19200) ∧
      ∀ z ∈ ([19200, 38400, 115200] : List Int), z ≤ x → z ≤ y := by
  rcases hk with rfl | rfl <;> exact Option.some.inj h ▸ permitted_spec (by simp) x

theorem State.settingValue_address {k : Setting} {x y : Int} (hk : k = .addrS ∨ k = .addrV)
    (h : s.settingValue k x = some y) : y = if x = 165 then 164 else max 1 (min 247 x) := by
  have e : (if clampInt 1 247 x = 165 then 164 else clampInt 1 247 x) = y := by
    rcases hk with rfl | rfl <;> exact Option.some.inj h
  rw [← e]
  unfold clampInt
  by_cases hx : x = 165
  · simp [hx]
  · rw [if_neg hx, if_neg (by omega)]

/-! ### A whole setting's write -/

theorem State.port_of_outstanding {p : Port} (ha : s.accepts p) : ((s.hear p).port p).outstanding = none := by
  rw [State.port_hear, if_pos rfl]
  exact ha.2.2.1

/-- A write's settings, and its state but for the switching that a new I_zero makes. -/
theorem State.writeWhole_settings (k : Setting) (y : Int) (s : State) :
    (s.writeWhole k y).settings = s.settings.written k y := by
  unfold State.writeWhole
  rw [State.raiseDependent_eq]
  split
  · exact ((Still.refl _).compareFast allStrings).settings
  · rfl

theorem mem_allStrings (i : StringId) : allStrings.contains i = true := by
  revert i
  decide

/-- The comparison of all readings sets every indication by its reading (R9). -/
theorem State.compareFast_beyond (xs : List StringId) (s : State) : (s.compareFast xs).beyondSwitching =
    (s.modMfe fun m => { m with
      below := tab fun i => if xs.contains i then s.readsLow i else s.below i }).beyondSwitching :=
  forStrings_keeps State.beyondSwitching State.cross State.cross_beyond _ _

theorem State.mfe_of_beyond (h : t.beyondSwitching = s.beyondSwitching) :
    t.mfe.below = s.mfe.below ∧ t.mfe.fast = s.mfe.fast :=
  ⟨congrArg (fun x => x.mfe.below) h, congrArg (fun x => x.mfe.fast) h⟩

theorem State.compareFast_below (xs : List StringId) (s : State) (i : StringId) :
    (s.compareFast xs).below i = if xs.contains i then s.readsLow i else s.below i := by
  rw [State.below, (State.mfe_of_beyond (s.compareFast_beyond xs)).1]
  exact tab_get _ i

theorem State.gsu_of_beyond (h : t.beyondSwitching = s.beyondSwitching) : t.gsu.state = s.gsu.state :=
  congrArg (fun x => x.gsu.state) h

/-- A state with the settings and the below-zero indications of another. -/
def State.rebased (s a : State) : State :=
  { s with settings := a.settings, mfe := { s.mfe with below := a.mfe.below } }

theorem State.rebased_beyond (a : State) (h : t.beyondSwitching = s.beyondSwitching) :
    (t.rebased a).beyondSwitching = (s.rebased a).beyondSwitching :=
  congrArg (fun x => x.rebased a) h

/-- A write of a whole setting reaches beyond switching to the settings and the indications alone (R9, R167). -/
theorem State.writeWhole_beyond (k : Setting) (y : Int) (s : State) :
    (s.writeWhole k y).gsu.state = s.gsu.state ∧
    ((s.writeWhole k y).rebased s).beyondSwitching = s.beyondSwitching ∧
    ∀ i, (s.writeWhole k y).below i = if k = .iZero then decide (s.fast i < y.toNat) else s.below i := by
  unfold State.writeWhole
  rw [State.raiseDependent_eq]
  simp only []
  split
  · next hk =>
    have e := State.compareFast_beyond allStrings { s with settings := s.settings.written k y }
    refine ⟨(State.gsu_of_beyond e).trans rfl, (State.rebased_beyond s e).trans rfl, fun i => ?_⟩
    have hy : ({ s with settings := s.settings.written k y } : State).cfgNat .iZero = y.toNat := by
      rw [State.cfgNat, State.cfg_value]
      change ((s.settings.written k y).value .iZero).toNat = _
      rw [Settings.value_written, if_pos hk.symm]
    rw [State.compareFast_below, mem_allStrings, if_pos rfl, State.readsLow, hy]
    rfl
  · exact ⟨rfl, rfl, fun _ => rfl⟩

/-! ### The end of a request that switches strings -/

/-- A request ends, while no ground search is under way, by waiting for a commit (R55, R163). -/
theorem State.conclude_idle {p : Port} {q : RequestCode} {x : StoreRecord} {r : Result} {body : List Byte}
    (hg : u.gsu.state = .idle) : u.conclude p q [x] r body =
      ((((u.takeReports.modGsu fun g => { g with left := [] }).startWait p (requestCode q)
        (.commit r body)).askCommit x [p])).beginWrite := by
  obtain ⟨a, g, c, o, e⟩ := u.takeReports_eq
  unfold State.conclude
  rw [State.settle_idle (by rw [e]; exact hg) (by rw [e])]
  rfl

/-- What a request leaves that has led to `u` and waits for a commit. -/
theorem concludes {p : Port} {q : RequestCode} {x : StoreRecord} {r : Result} {body : List Byte}
    (hg : u.gsu.state = .idle) (hu : u.port p = (s.hear p).port p) (ho : (u.port p).outstanding = none) :
    Deferred s (u.conclude p q [x] r body) p q r body [x] ∧ (u.conclude p q [x] r body).settings = u.settings ∧
    (u.conclude p q [x] r body).beyondSwitching = u.beyondSwitching := by
  rw [State.conclude_idle hg]
  have k : Still u (u.takeReports.modGsu fun g => { g with left := [] }) := ((Keeps.refl u).takeReports.modGsu _).still
  refine ⟨deferred_of_port ((k.port p fun e => e ▸ ho).trans hu), ?_, ?_⟩
  · obtain ⟨c, o, w, e⟩ := State.waitForCommit_eq p q x r body (u.takeReports.modGsu fun g => { g with left := [] })
    rw [e]
    exact k.settings
  · rw [State.beginWrite_beyond, State.askCommit_beyond, State.startWait_beyond]
    exact u.takeReports_beyond

/-! ### The statements -/

theorem exec_writeSetting {p : Port} {b : List Byte} (ha : s.accepts p) (hl : b.length = 6)
    (hp : s.permitted .writeSetting p b = true) :
    exec (.writeSetting p b) s = .next ((s.hear p).writeSettingRequest p b) :=
  congrArg Host.Outcome.next (State.serve_accepts (q := .writeSetting) _ ha (by simp [sizeFits, hl]) hp)

/-- WRITE SETTING of a value that the setting takes (R167). -/
theorem writeSetting_written {p : Port} {b : List Byte} {r : SettingRef} {i : StringId} {y : Int}
    (ht : settingTarget b = .ok (r, i)) (hw : s.writeValue r i (signed32Of (b.drop 2)) = some (y, u)) :
    s.writeSettingRequest p b = u.conclude p .writeSetting [.settings]
      (if y ≠ signed32Of (b.drop 2) ∨ s.raises r y = true then .doneClamped else .done)
      ([byteAt b 0, byteAt b 1] ++ bytes32 (BitVec.ofInt 32 y)) := by
  unfold State.writeSettingRequest
  rw [ht]
  simp only [hw]

/-- Settles O34: the value by the row of its setting, and the rest by what a write and its end leave. -/
theorem writeSettingPutsTheValueInForce : Obligations.WriteSettingPutsTheValueInForce := by
  intro s p b k y ha hc hl hp hk hy
  have ht : settingTarget b = .ok (.whole k, 0) := by
    unfold settingTarget
    rw [hk]
    rfl
  have hv : (s.hear p).writeValue (.whole k) 0 (signed32Of (b.drop 2)) = some (y, (s.hear p).writeWhole k y) := by
    have e : (s.hear p).settingValue k (signed32Of (b.drop 2)) = some y := hy
    unfold State.writeValue
    simp only [e, Option.map_some]
  have free := State.port_of_outstanding ha
  have port := State.writeValue_port p hv free
  obtain ⟨hg, hb, low⟩ := State.writeWhole_beyond k y (s.hear p)
  have set := State.writeWhole_settings k y (s.hear p)
  obtain ⟨def', set', beyond⟩ := concludes (q := .writeSetting) (x := .settings)
    (r := if y ≠ signed32Of (b.drop 2) ∨ (s.hear p).raises (.whole k) y = true then .doneClamped else .done)
    (body := [byteAt b 0, byteAt b 1] ++ bytes32 (BitVec.ofInt 32 y)) (hg.trans hc.1) port (port ▸ free)
  refine ⟨_, (exec_writeSetting ha hl hp).trans (congrArg _ (writeSetting_written ht hv)), ?_⟩
  generalize ((s.hear p).writeWhole k y).conclude _ _ _ _ _ = t at def' set' beyond ⊢
  have value : ∀ d, t.cfg d = (s.settings.written k y).value d := fun d => by
    rw [State.cfg_value, set', set]
    rfl
  have whole : (t.rebased s).beyondSwitching = s.beyondSwitching :=
    ((State.rebased_beyond s beyond).trans hb).trans rfl
  have sets : t.settings = s.settings.written k y := set'.trans set
  refine ⟨by rw [value, Settings.value_written, if_pos rfl], State.settingValue_general hy, ?_, ?_, ?_, ?_, ?_, ?_,
    fun d least hd => ?_, fun d hd hn => ?_, ?_, ?_, fun i => ?_, def', whole⟩
  · rintro rfl
    exact (Option.some.inj hy).symm
  · rintro rfl
    exact (Option.some.inj hy).symm
  · rintro rfl
    exact (Option.some.inj hy).symm
  · rintro rfl
    exact State.settingValue_period hy
  · exact fun h => State.settingValue_baud h hy
  · exact fun h => State.settingValue_address h hy
  · rw [value, Settings.value_written, if_neg (dependentOf_ne hd), hd]
    exact if_pos rfl
  · rw [value, Settings.value_written, if_neg hd]
    split
    · next e least he => exact if_neg fun h : d = e => hn least (h ▸ he)
    · rfl
  · rw [sets, Settings.written_strings]
  · rw [sets, Settings.written_routes]
  · exact (congrArg (fun v : Vector Bool 16 => v[i]) (State.mfe_of_beyond beyond).1).trans (low i)

end Sys2Proof.Machine
end

section
/-! SUPPORT. The statement on WRITE SETTING of a per-string setting. -/

namespace Sys2Proof.Machine

variable {s t u : State}

/-! ### Records that the rings hold (R171 to R173) -/

/-- A record pushed is held, with a gap flag of its own. -/
theorem Ring.mem_push (r : Ring) (e : EventRecord) :
    ∃ x ∈ (r.push e).records, { x with gap := false } = { e with gap := false } := by
  obtain h := r.push_newest e
  exact ⟨_, List.mem_of_getLast? h, rfl⟩

/-- Whether a record is held is a matter of the routing table and the rings. -/
theorem Noted.congr {e : EventRecord} (h : Noted u e) (hs : t.settings.routes = u.settings.routes)
    (hr : t.evr.ring = u.evr.ring) : Noted t e := by
  intro p hp
  have routed : t.routed e.kind p = u.routed e.kind p := by simp only [State.routed, hs]
  have ring : t.ring p = u.ring p := by simp only [State.ring, hr]
  rw [ring]
  exact h p (routed ▸ hp)

/-- A record just handed over is held by every ring that the routing table names for its kind. -/
theorem Noted.emit (k : EventKind) (i : Option StringId) (a b : Int) (s : State) :
    Noted (s.emit k i a b) (s.eventNow k i a b) := by
  intro p hp
  obtain ⟨g, e⟩ := State.emit_eq k i a b s
  have routed : s.routed (s.eventNow k i a b).kind p = true := by
    rw [e] at hp
    exact hp
  change ∃ x ∈ ((s.route (s.eventNow k i a b)).ring p).records, _
  rw [State.ring_route, if_pos routed]
  exact Ring.mem_push _ _

/-! ### The target of a write (R167) -/

theorem settingTarget_string {b : List Byte} {r : SettingRef} {i : StringId} (hr : settingOfIndex (byteAt b 0) = some r)
    (hp : r.perString = true) (hi : byteAt b 1 = byte (stringNumber i)) : settingTarget b = .ok (r, i) := by
  unfold settingTarget
  simp only [hr, hp, if_true, hi, stringOfByte_number]

/-- WRITE SETTING whose index or string names nothing (R167). -/
theorem writeSetting_refused {p : Port} {b : List Byte} {r : Result} (ht : settingTarget b = .error r) :
    (s.hear p).writeSettingRequest p b = s.answered p 0x0F r [] := by
  rw [← State.reply_hear]
  unfold State.writeSettingRequest
  rw [ht]
  rfl

/-- WRITE SETTING whose value names nothing (R167). -/
theorem writeSetting_badForm {p : Port} {b : List Byte} {r : SettingRef} {i : StringId}
    (ht : settingTarget b = .ok (r, i)) (hw : (s.hear p).writeValue r i (signed32Of (b.drop 2)) = none) :
    (s.hear p).writeSettingRequest p b = s.answered p 0x0F .badForm [] := by
  rw [← State.reply_hear]
  unfold State.writeSettingRequest
  rw [ht]
  simp only [hw]
  rfl

/-- What a write of a per-string setting leaves: `u` is the state that it makes of the part, its request just heard. -/
theorem wroteString {p : Port} {b : List Byte} {r : SettingRef} {i : StringId} {y : Int} {c : StringSettings}
    (ha : s.accepts p) (hl : b.length = 6) (hp : s.permitted .writeSetting p b = true)
    (ht : settingTarget b = .ok (r, i)) (hr : r.perString = true)
    (hw : (s.hear p).writeValue r i (signed32Of (b.drop 2)) = some (y, u)) (hc : u.calm)
    (hs : u.settings = { s.settings with strings := s.settings.strings.set i c })
    (hg : u.seval.groups = s.seval.groups)
    (hb : { u with settings := s.settings, seval := s.seval }.beyondSwitching = s.beyondSwitching) :
    ∃ t, exec (.writeSetting p b) s = .next t ∧ WroteString s t p b i c y ∧ t.seval = u.seval ∧ t.evr = u.evr := by
  have hn : s.raises r y = false := by
    cases r with
    | whole k => cases hr
    | _ => rfl
  have port := State.writeValue_port p hw (State.port_of_outstanding ha)
  refine ⟨_, (exec_writeSetting ha hl hp).trans (congrArg _ (writeSetting_written ht hw)), ?_⟩
  have result : (if y ≠ signed32Of (b.drop 2) ∨ (s.hear p).raises r y = true then Result.doneClamped else .done) =
      if y = signed32Of (b.drop 2) then .done else .doneClamped := by
    rw [show (s.hear p).raises r y = false from hn]
    by_cases e : y = signed32Of (b.drop 2) <;> simp [e]
  rw [result, State.conclude_quiet hc]
  have wait := deferred_of_port (q := .writeSetting) (x := .settings)
    (r := if y = signed32Of (b.drop 2) then .done else .doneClamped)
    (body := [byteAt b 0, byteAt b 1] ++ bytes32 (BitVec.ofInt 32 y)) port
  obtain ⟨q, o, w, e⟩ := State.waitForCommit_eq p .writeSetting .settings
    (if y = signed32Of (b.drop 2) then .done else .doneClamped)
    ([byteAt b 0, byteAt b 1] ++ bytes32 (BitVec.ofInt 32 y)) u
  rw [e] at wait ⊢
  exact ⟨⟨hs, hg, wait, hb⟩, rfl, rfl⟩

/-- A write that changes one string's settings and nothing else. -/
theorem wroteString_only {p : Port} {b : List Byte} {r : SettingRef} {i : StringId} {y : Int}
    (f : StringSettings → StringSettings) (ha : s.accepts p) (hq : s.calm) (hl : b.length = 6)
    (hp : s.permitted .writeSetting p b = true) (hi : byteAt b 1 = byte (stringNumber i))
    (ht : settingOfIndex (byteAt b 0) = some r) (hr : r.perString = true)
    (hw : (s.hear p).writeValue r i (signed32Of (b.drop 2)) = some (y, (s.hear p).modStringSettings i f)) :
    Completes (exec (.writeSetting p b) s) fun t =>
      WroteString s t p b i (f s.settings.strings[i]) y ∧ t.seval = s.seval := by
  obtain ⟨t, he, h, hs, -⟩ := wroteString ha hl hp (settingTarget_string ht hr hi) hr hw hq
    (c := f s.settings.strings[i]) rfl rfl rfl
  exact ⟨t, he, h, hs⟩

/-- A changed peer group is put in force, the string's suspicion forgotten (R23). -/
def State.regrouped (i : StringId) (y : PeerGroup) (s : State) : State :=
  (s.modStringSettings i fun c => { c with group := y }).modEval i fun e => { e with suspicion := 0, suspect := false }

/-- A changed peer group is put in force, with SUSPECT_CLEARED where the flag was set (R23). -/
theorem State.writeGroup_changes {i : StringId} {y : PeerGroup} (h : (s.strSet i).group ≠ y) :
    (∃ g, s.writeGroup i y = { s.regrouped i y with evr := { s.evr with ring := g } }) ∧
    ((s.eval i).suspect = true → Noted (s.writeGroup i y) (s.eventNow .suspectCleared (some i) 0 1)) := by
  have e : s.writeGroup i y = if (s.eval i).suspect then (s.regrouped i y).emit .suspectCleared (some i) 0 1
    else s.regrouped i y := if_neg h
  rw [e]
  split
  · exact ⟨State.emit_eq _ _ _ _ _, fun _ => Noted.emit _ _ _ _ _⟩
  · next hn => exact ⟨⟨s.evr.ring, rfl⟩, fun hs => absurd hs hn⟩

/-- A write that changes a string's peer group (R23). -/
theorem wroteGroup {p : Port} {b : List Byte} {i : StringId} {y : PeerGroup} (ha : s.accepts p) (hq : s.calm)
    (hl : b.length = 6) (hp : s.permitted .writeSetting p b = true) (hi : byteAt b 1 = byte (stringNumber i))
    (ht : settingOfIndex (byteAt b 0) = some .group) (hy : groupOf (signed32Of (b.drop 2)) = some y) :
    Completes (exec (.writeSetting p b) s) fun t =>
      WroteString s t p b i { s.settings.strings[i] with group := y } (signed32Of (b.drop 2)) ∧
      t.eval i = (if y = (s.settings.strings[i]).group then s.eval i
        else { s.eval i with suspicion := 0, suspect := false }) ∧
      (∀ j, j ≠ i → t.eval j = s.eval j) ∧
      (y ≠ (s.settings.strings[i]).group → (s.eval i).suspect = true →
        Noted t (s.eventNow .suspectCleared (some i) 0 1)) := by
  have hw : (s.hear p).writeValue .group i (signed32Of (b.drop 2)) =
      some (signed32Of (b.drop 2), (s.hear p).writeGroup i y) := by
    simp only [State.writeValue, hy, Option.map_some]
  have hx := settingTarget_string ht rfl hi
  by_cases he : (s.settings.strings[i]).group = y
  · have same : (s.hear p).writeGroup i y = s.hear p := if_pos he
    have set : s.settings.strings.set i { s.settings.strings[i] with group := y } = s.settings.strings := by
      rw [← he]
      exact Vector.set_getElem_self _
    rw [same] at hw
    obtain ⟨t, ho, h, hs, -⟩ := wroteString (c := { s.settings.strings[i] with group := y }) ha hl hp hx rfl hw hq
      (by rw [set]; rfl) rfl rfl
    have ev : ∀ j, t.eval j = s.eval j := fun j => by rw [State.eval, hs]; rfl
    exact ⟨t, ho, h, by rw [if_pos he.symm, ev], fun j _ => ev j, fun hn => absurd he.symm hn⟩
  · obtain ⟨⟨g, e⟩, note⟩ := State.writeGroup_changes (s := s.hear p) (i := i) (y := y) he
    obtain ⟨t, ho, h, hs, hv⟩ := wroteString (c := { s.settings.strings[i] with group := y }) ha hl hp hx rfl hw
      (by rw [e]; exact hq) (by rw [e]; rfl) (by rw [e]; rfl) (by rw [e]; rfl)
    have ev : ∀ j, t.eval j = ((s.hear p).regrouped i y).eval j := fun j => by rw [State.eval, hs, e]; rfl
    refine ⟨t, ho, h, ?_, fun j hj => ?_, fun _ hsus => ?_⟩
    · rw [if_neg fun k => he k.symm, ev, State.regrouped, State.eval_modEval, if_pos rfl]
      rfl
    · rw [ev, State.regrouped, State.eval_modEval, if_neg hj]
      rfl
    · refine (note hsus).congr ?_ (congrArg Evr.ring hv)
      rw [h.1, e]
      rfl

/-! ### The statement -/

/-- Settles O35: the forms that are refused, and each per-string setting by the write it is. -/
theorem perStringSettingsAreWrittenOneByOne : Obligations.PerStringSettingsAreWrittenOneByOne := by
  intro s p b ha hq hl hp
  have run := exec_writeSetting ha hl hp
  have refused {r : SettingRef} {i : StringId} (ht : settingTarget b = .ok (r, i))
      (hw : (s.hear p).writeValue r i (signed32Of (b.drop 2)) = none) :
      exec (.writeSetting p b) s = .next (s.answered p 0x0F .badForm []) :=
    run.trans (congrArg _ (writeSetting_badForm ht hw))
  refine ⟨fun ht => ?_, fun ht h0 h1 => ?_, fun r ht hr hn => ?_, fun i hi => ⟨fun ht => ?_, fun ht => ?_, fun ht => ?_,
    fun ht => ⟨fun hx => ?_, fun y hy => ?_⟩, fun ht => ⟨fun hx => ?_, fun y hy => ?_⟩⟩⟩
  · exact run.trans (congrArg _ (writeSetting_refused (by simp only [settingTarget, ht])))
  · refine refused (r := .whole .searchEnable) (i := 0) (by simp [settingTarget, ht, SettingRef.perString]) ?_
    simp [State.writeValue, State.settingValue, h0, h1]
  · refine run.trans (congrArg _ (writeSetting_refused ?_))
    simp [settingTarget, ht, hr, stringOfByte_none hn]
  · exact wroteString_only (fun c => { c with offset := max (-65536) (min 65535 (signed32Of (b.drop 2))) })
      ha hq hl hp hi ht rfl rfl
  · exact wroteString_only (fun c => { c with gain := (max 1 (min 65535 (signed32Of (b.drop 2)))).toNat })
      ha hq hl hp hi ht rfl rfl
  · exact wroteString_only (fun c => { c with rank := (max 0 (min 15 (signed32Of (b.drop 2)))).toNat })
      ha hq hl hp hi ht rfl rfl
  · exact refused (settingTarget_string ht rfl hi) (by simp only [State.writeValue, hx, Option.map_none])
  · exact wroteString_only (fun c => { c with range := y }) ha hq hl hp hi ht rfl
      (by simp only [State.writeValue, Option.mem_def.1 hy, Option.map_some])
  · exact refused (settingTarget_string ht rfl hi) (by simp only [State.writeValue, hx, Option.map_none])
  · exact wroteGroup ha hq hl hp hi ht hy

end Sys2Proof.Machine
end

section
/-! SUPPORT. How long a record that a ring has gained stays in it: the records that the sequencer's work can add behind
it in one step (R171, R173, R176). -/

namespace Sys2Proof.Machine

variable {s t u : State}

/-! ### Records near the end of a ring -/

/-- A ring holds a record among its newest `k`, with a gap flag of its own. -/
def Ring.Holds (r : Ring) (e : EventRecord) (k : Nat) : Prop :=
  ∃ a x b, r.records = a ++ x :: b ∧ b.length < k ∧ { x with gap := false } = e

/-- A push takes the oldest record alone from a full ring, so one near the end stays. -/
theorem Ring.Holds.push {r : Ring} {e : EventRecord} {k : Nat} (h : r.Holds e k) (hk : k < ringSize)
    (f : EventRecord) : (r.push f).Holds e (k + 1) := by
  obtain ⟨a, x, b, hr, hb, hx⟩ := h
  unfold Ring.push
  split
  · exact ⟨a, x, b ++ [{ f with gap := false }], by simp [hr], by simp [hb], hx⟩
  · next hl =>
    cases a with
    | nil =>
      rw [hr] at hl
      simp only [List.nil_append, List.length_cons] at hl
      omega
    | cons y a => exact ⟨a, x, b ++ [{ f with gap := true }], by simp [hr], by simp [hb], hx⟩

theorem Ring.holds_push (r : Ring) (e : EventRecord) (he : e.gap = false) : (r.push e).Holds e 1 := by
  unfold Ring.push
  split
  · exact ⟨r.records, { e with gap := false }, [], rfl, by simp, by rw [← he]⟩
  · exact ⟨r.records.drop 1, { e with gap := true }, [], rfl, by simp, by rw [← he]⟩

/-- Every ring that the routing table names for a record's kind holds it among its newest `k`. -/
def Lately (s : State) (e : EventRecord) (k : Nat) : Prop := ∀ p, s.routed e.kind p = true → (s.ring p).Holds e k

theorem Lately.noted {e : EventRecord} {k : Nat} (h : Lately s e k) : Noted s e := by
  intro p hp
  obtain ⟨a, x, b, hr, -, hx⟩ := h p hp
  exact ⟨x, by simp [hr], hx⟩

theorem Lately.mono {e : EventRecord} {k l : Nat} (h : Lately s e k) (hl : k ≤ l) : Lately s e l := fun p hp => by
  obtain ⟨a, x, b, hr, hb, hx⟩ := h p hp
  exact ⟨a, x, b, hr, by omega, hx⟩

theorem Lately.congr {e : EventRecord} {k : Nat} (h : Lately s e k) (hs : t.settings.routes = s.settings.routes)
    (hr : t.evr.ring = s.evr.ring) : Lately t e k := by
  intro p hp
  have routed : t.routed e.kind p = s.routed e.kind p := by simp only [State.routed, hs]
  have ring : t.ring p = s.ring p := by simp only [State.ring, hr]
  rw [ring]
  exact h p (routed ▸ hp)

theorem State.routed_route (e : EventRecord) (k : EventKind) (p : Port) (s : State) :
    (s.route e).routed k p = s.routed k p := by
  obtain ⟨g, h⟩ := State.route_eq e s
  rw [h]
  rfl

/-- A record just handed over is the newest. -/
theorem Lately.route (e : EventRecord) (he : e.gap = false) (s : State) : Lately (s.route e) e 1 := by
  intro p hp
  rw [State.routed_route] at hp
  rw [State.ring_route, if_pos hp]
  exact Ring.holds_push _ e he

/-- Another record handed over pushes it back by one place. -/
theorem Lately.push {e : EventRecord} {k : Nat} (h : Lately s e k) (hk : k < ringSize) (f : EventRecord) :
    Lately (s.route f) e (k + 1) := by
  intro p hp
  rw [State.routed_route] at hp
  rw [State.ring_route]
  split
  · exact (h p hp).push hk f
  · exact h.mono (by omega) p hp

/-! ### What work adds to the rings -/

/-- How many CONNECTED_SET the Event Router may still issue at once (R176). -/
def State.setAllowance (s : State) : Nat := if s.connectedMayIssue then 1 else 0

theorem State.setAllowance_le (s : State) : s.setAllowance ≤ 1 := by
  unfold State.setAllowance
  split
  · exact Nat.le_refl 1
  · exact Nat.zero_le 1

/-- Work adds at most `n` records to a ring, beside a CONNECTED_SET where one may be issued. -/
def Spends (n : Nat) (s t : State) : Prop :=
  ∃ m, m + t.setAllowance ≤ n + s.setAllowance ∧ ∀ e k, k + m ≤ ringSize → Lately s e k → Lately t e (k + m)

theorem Spends.refl (s : State) : Spends 0 s s := ⟨0, Nat.le_refl _, fun _ _ _ h => h⟩

theorem Spends.trans {n l : Nat} (h : Spends n s t) (k : Spends l t u) : Spends (n + l) s u := by
  obtain ⟨m, hm, hl⟩ := h
  obtain ⟨m', hm', hl'⟩ := k
  exact ⟨m + m', by omega, fun e k hk x => by
    rw [← Nat.add_assoc]
    exact hl' e (k + m) (by omega) (hl e k (by omega) x)⟩

theorem Spends.mono {n l : Nat} (h : Spends n s t) (hl : n ≤ l) : Spends l s t := by
  obtain ⟨m, hm, k⟩ := h
  exact ⟨m, by omega, k⟩

/-- Work that leaves the Event Router, the routing table and the clock alone adds nothing. -/
theorem Spends.quiet {n : Nat} (h : Spends n s t) (hv : u.evr = t.evr) (hs : u.settings = t.settings)
    (hn : u.now = t.now) : Spends n s u := by
  obtain ⟨m, hm, k⟩ := h
  have hc : u.connectedMayIssue = t.connectedMayIssue := by
    simp only [State.connectedMayIssue, State.uptime, hv, hn]
    rfl
  have ha : u.setAllowance = t.setAllowance := by rw [State.setAllowance, State.setAllowance, hc]
  exact ⟨m, ha ▸ hm, fun e l hl x => (k e l hl x).congr (by rw [hs]) (by rw [hv])⟩

theorem Spends.route {n : Nat} (h : Spends n s t) (f : EventRecord) : Spends (n + 1) s (t.route f) := by
  refine h.trans ⟨1, ?_, fun e k hk x => x.push (by omega) f⟩
  obtain ⟨g, e⟩ := State.route_eq f t
  rw [e]
  exact Nat.le_refl _

theorem Spends.emit {n : Nat} (h : Spends n s t) (k : EventKind) (i : Option StringId) (a b : Int) :
    Spends (n + 1) s (t.emit k i a b) := h.route _

theorem Spends.ite {n : Nat} {c : Prop} [Decidable c] {a b : State} (ha : Spends n s a) (hb : Spends n s b) :
    Spends n s (if c then a else b) := by
  split
  · exact ha
  · exact hb

/-- A CONNECTED_SET uses up the allowance for it (R176). -/
theorem Spends.connectedCheck {n : Nat} (h : Spends n s t) : Spends n s t.connectedCheck := by
  unfold State.connectedCheck
  refine Spends.ite h ?_
  split
  · next hm =>
    obtain ⟨g, e⟩ := State.emit_eq .connectedSet none (setBits t.closedSet) t.closedSet.length t
    refine h.trans (l := 0) ⟨1, ?_, fun e k hk x => ?_⟩
    · have h0 : t.issueConnected.setAllowance = 0 := by
        refine if_neg ?_
        unfold State.issueConnected
        simp only []
        rw [e]
        change ¬decide (100 ≤ (t.uptime - t.uptime).toNat) = true
        rw [BitVec.sub_self]
        decide
      have h1 : t.setAllowance = 1 := if_pos hm
      omega
    · exact (x.push (by omega) _).congr rfl rfl
  · split
    · exact h.trans ⟨0, Nat.le_refl _, fun _ _ _ x => x.congr rfl rfl⟩
    · exact h

theorem Spends.freezeArrival {n : Nat} (h : Spends n s t) (i : StringId) : Spends n s (t.freezeArrival i) := by
  obtain ⟨r, e⟩ := State.freezeArrival_eq i t
  rw [e]
  exact h.quiet rfl rfl rfl

theorem Spends.iteQuiet {n : Nat} (c : Prop) [Decidable c] (f : State → State)
    (hf : ∀ v, (f v).evr = v.evr ∧ (f v).settings = v.settings ∧ (f v).now = v.now) (h : Spends n s t) :
    Spends n s (if c then f t else t) :=
  Spends.ite (h.quiet (hf t).1 (hf t).2.1 (hf t).2.2) h

/-- The reports of a change of state can add a CONNECTED_SET alone (R76, R176). -/
theorem Spends.report {n : Nat} (h : Spends n s t) (i : StringId) (old new : SwitchState) :
    Spends n s (t.report i old new) := by
  have h1 := h.iteQuiet (old = .ramping ∧ new ≠ .ramping)
    (State.modArcd fun a => a.rampEnd i t.now (t.cfgNat .tBlank)) fun _ => ⟨rfl, rfl, rfl⟩
  have h2 := h1.iteQuiet (new = .ramping) (State.modArcd fun a => a.rampStart i) fun _ => ⟨rfl, rfl, rfl⟩
  have h3 := h2.iteQuiet (new = .interrupting) (State.modArcd fun a => { a with intervalBlank := true })
    fun _ => ⟨rfl, rfl, rfl⟩
  have h4 := h3.iteQuiet (old = .closed ∧ new ≠ .closed) (State.reportLeftClosed i) fun _ => ⟨rfl, rfl, rfl⟩
  have h5 := h4.iteQuiet (new = .closed ∧ old ≠ .closed) (State.reportEnteredClosed i) fun _ => ⟨rfl, rfl, rfl⟩
  have h6 := h5.iteQuiet (old = .relayOpening ∧ new = .opened)
    (State.modTsc fun v => { v with victim := if v.victim = some i then none else v.victim }) fun _ => ⟨rfl, rfl, rfl⟩
  have h7 : Spends n s (if new = .opened then State.freezeArrival i _ else _) := Spends.ite (h6.freezeArrival i) h6
  have h8 : Spends n s (if (decide (old = .closed) != decide (new = .closed)) = true then State.connectedCheck _ else _) :=
    Spends.ite h7.connectedCheck h7
  exact h8.quiet (u := State.noteStates _) rfl rfl rfl

theorem Spends.enter {n : Nat} (h : Spends n s t) (i : StringId) (new : SwitchState) (timer : Option Nat) :
    Spends n s (t.enter i new timer) := by
  unfold State.enter
  simp only []
  have k : Spends n s ((t.modSwitch i fun w => { w with state := new, timer := timer }).modSseq fun q =>
    { q with curtail := allStrings.any fun j => decide ((q.switches[j]).state = .curtailWait) }) :=
    h.quiet rfl rfl rfl
  exact k.report i _ new

/-- The taking up of reports can add ARRAY SAFE (R156). -/
theorem Spends.takeReports {n : Nat} (h : Spends n s t) : Spends (n + 1) s t.takeReports := by
  unfold State.takeReports
  split
  · have k : Spends n s (t.modReports fun _ => false) := h.quiet rfl rfl rfl
    generalize t.modReports (fun _ => false) = v at k ⊢
    have w : Spends (n + 1) s v.workArraySafe := by
      unfold State.workArraySafe
      simp only []
      split
      · exact k.mono (Nat.le_succ n)
      · have k' : Spends n s (v.modFli fun f => { f with arraySafe := v.fli.positionsKnown && v.notIsolated.isEmpty }) :=
          k.quiet rfl rfl rfl
        exact k'.emit _ _ _ _
    obtain ⟨c, p, e⟩ := v.workArraySafe.checkCapture_eq
    rw [e]
    exact w.quiet rfl rfl rfl
  · exact h.mono (Nat.le_succ n)

end Sys2Proof.Machine
end

section
/-! SUPPORT. What the sequencer's work on one string, as the Coil Arbiter grants it, leaves of the other strings, of the
records, of the arc detector and of a capture. -/

namespace Sys2Proof.Machine

variable {i : StringId} {R : Prop} {n : Nat} {s t u : State}

/-! ### Work on one string -/

/-- A capture in progress, its string in OPEN and its request outstanding (R13, R16). -/
def State.Captures (s : State) (c : Capture) : Prop :=
  s.mfe.capture = some c ∧ s.switchState c.string = .opened ∧ ∃ o ∈ (s.port .m).outstanding, o.wait = .capture

/-- A port waits for the commit of a record (R178). -/
def State.Awaits (s : State) (r : StoreRecord) (p : Port) : Prop := ∃ e ∈ s.cfs.queue, e.record = r ∧ p ∈ e.waiters

/-- An entry that a commit joins keeps its record and its waiters. -/
theorem joinCommit_mem {e : CommitEntry} (x : StoreRecord) (w : List Port) {es : List CommitEntry} (h : e ∈ es) :
    ∃ e' ∈ joinCommit x w es, e'.record = e.record ∧ ∀ p ∈ e.waiters, p ∈ e'.waiters := by
  induction es with
  | nil => cases h
  | cons y es ih =>
    unfold joinCommit
    rcases List.mem_cons.1 h with rfl | h
    · split
      · exact ⟨_, List.mem_cons_self, rfl, fun p hp => List.mem_append_left _ hp⟩
      · exact ⟨_, List.mem_cons_self, rfl, fun p hp => hp⟩
    · split
      · exact ⟨e, List.mem_cons_of_mem _ h, rfl, fun p hp => hp⟩
      · obtain ⟨e', he', hx⟩ := ih h
        exact ⟨e', List.mem_cons_of_mem _ he', hx⟩

theorem State.Awaits.askCommit {r : StoreRecord} {p : Port} (h : s.Awaits r p) (x : StoreRecord) (w : List Port) :
    (s.askCommit x w).Awaits r p := by
  obtain ⟨e, he, hr, hp⟩ := h
  have joined (hw : e ∈ s.cfs.waiting) : (s.askCommit x w).Awaits r p := by
    obtain ⟨e', he', h1, h2⟩ := joinCommit_mem x w hw
    exact ⟨e', List.mem_append_right _ he', h1.trans hr, h2 p hp⟩
  by_cases hb : s.cfs.writing.isSome = true
  · rw [← List.take_append_drop 1 s.cfs.queue] at he
    rcases List.mem_append.1 he with he | he
    · refine ⟨e, List.mem_append_left _ ?_, hr, hp⟩
      rwa [if_pos hb]
    · exact joined (by rwa [Cfs.waiting, if_pos hb])
  · exact joined (by rwa [Cfs.waiting, if_neg hb])

/-- Work on string `i` that may start ramps where `R` holds, and adds at most `n` records to a ring. -/
structure Acts (i : StringId) (R : Prop) (n : Nat) (s t : State) : Prop where
  still : Still s t
  spends : Spends n s t
  search : t.gsu.state = s.gsu.state
  records : s.gsu.state = .idle → Records s t s.str
  retest : ∀ j, t.underRetest j = true → s.underRetest j = true
  other : ∀ j, j ≠ i → (R → j ∉ s.sseq.rampList) → t.sw j = s.sw j ∧ t.queued j = s.queued j
  ramp : ∀ j, j ≠ i → j ∈ t.sseq.rampList → j ∈ s.sseq.rampList
  feedback : t.sseq.feedback = s.sseq.feedback
  pulses : t.sseq.pulses = s.sseq.pulses
  arcd : ¬R → t.arcd = s.arcd
  capture : ∀ c, s.Captures c → c.string ≠ i → (R → c.string ∉ s.sseq.rampList) →
    t.mfe.capture = s.mfe.capture ∧ t.port .m = s.port .m
  free : s.mfe.capture = none → t.mfe.capture = none
  awaits : ∀ r p, s.Awaits r p → t.Awaits r p

theorem StringRecord.take_switch_twice (r : StringRecord) : (r.take .switch).take .switch = r.take .switch := by
  simp [StringRecord.take]

/-- Records changed twice by retests have changed as by one. -/
theorem Records.trans (h : Records s t s.str) (k : Records t u t.str)
    (hr : ∀ j, t.underRetest j = true → s.underRetest j = true) : Records s u s.str := by
  intro j
  rcases k j with hk | ⟨hu, hk⟩
  · rw [hk]
    exact h j
  · refine .inr ⟨hr j hu, ?_⟩
    rcases h j with h1 | ⟨-, h1⟩
    · rw [hk, h1]
    · rw [hk, h1, StringRecord.take_switch_twice]

theorem Acts.refl (i : StringId) (R : Prop) (s : State) : Acts i R 0 s s where
  still := Still.refl s
  spends := Spends.refl s
  search := rfl
  records := fun _ _ => .inl rfl
  retest := fun _ h => h
  other := fun _ _ _ => ⟨rfl, rfl⟩
  ramp := fun _ _ h => h
  feedback := rfl
  pulses := rfl
  arcd := fun _ => rfl
  capture := fun _ _ _ _ => ⟨rfl, rfl⟩
  free := fun h => h
  awaits := fun _ _ h => h

theorem Acts.trans {l : Nat} (h : Acts i R n s t) (k : Acts i R l t u) : Acts i R (n + l) s u where
  still := h.still.trans k.still
  spends := h.spends.trans k.spends
  search := k.search.trans h.search
  records := fun hs => (h.records hs).trans (k.records (h.search.trans hs)) h.retest
  retest := fun j hj => h.retest j (k.retest j hj)
  other := fun j hj hr => by
    obtain ⟨h1, h2⟩ := h.other j hj hr
    obtain ⟨k1, k2⟩ := k.other j hj fun r m => hr r (h.ramp j hj m)
    exact ⟨k1.trans h1, k2.trans h2⟩
  ramp := fun j hj m => h.ramp j hj (k.ramp j hj m)
  feedback := k.feedback.trans h.feedback
  pulses := k.pulses.trans h.pulses
  arcd := fun hr => (k.arcd hr).trans (h.arcd hr)
  capture := fun c hc hi hr => by
    obtain ⟨h1, h2⟩ := h.capture c hc hi hr
    obtain ⟨hcap, hop, hw⟩ := hc
    have hs : t.switchState c.string = .opened := by
      rw [State.switchState, (h.other c.string hi hr).1]
      exact hop
    obtain ⟨k1, k2⟩ := k.capture c ⟨h1.trans hcap, hs, h2 ▸ hw⟩ hi fun r m => hr r (h.ramp _ hi m)
    exact ⟨k1.trans h1, k2.trans h2⟩
  free := fun x => k.free (h.free x)
  awaits := fun r p x => k.awaits r p (h.awaits r p x)

theorem Acts.mono {l : Nat} (h : Acts i R n s t) (hl : n ≤ l) : Acts i R l s t := { h with spends := h.spends.mono hl }

theorem Acts.ite {c : Prop} [Decidable c] {a b : State} (ha : Acts i R n s a) (hb : Acts i R n s b) :
    Acts i R n s (if c then a else b) := by
  split
  · exact ha
  · exact hb

/-! ### Small pieces -/

/-- Work on the sequencer's own state. -/
theorem Acts.modSseq (h : Acts i R n s t) (f : Sseq → Sseq)
    (hr : ∀ j, (t.modSseq f).underRetest j = true → t.underRetest j = true)
    (ho : ∀ j, j ≠ i → (t.modSseq f).sw j = t.sw j ∧ (t.modSseq f).queued j = t.queued j)
    (hm : ∀ j, j ≠ i → j ∈ (f t.sseq).rampList → j ∈ t.sseq.rampList)
    (hf : (f t.sseq).feedback = t.sseq.feedback) (hp : (f t.sseq).pulses = t.sseq.pulses) :
    Acts i R n s (t.modSseq f) := by
  refine h.trans (l := 0) ⟨(Still.refl t).modSseq f, (Spends.refl t).quiet rfl rfl rfl, rfl, fun _ _ => .inl rfl, hr,
    fun j hj _ => ho j hj, hm, hf, hp, fun _ => rfl, fun _ _ _ _ => ⟨rfl, rfl⟩,
    fun x => x, fun _ _ x => x⟩

/-- Work that changes nothing of what these lemmas speak of. -/
theorem Acts.quiet (h : Acts i R n s t) (hk : Still t u) (hp : u.ports = t.ports) (hv : u.evr = t.evr)
    (hg : u.gsu = t.gsu) (hst : u.stab = t.stab) (hq : u.sseq = t.sseq) (ha : u.arcd = t.arcd)
    (hc : u.mfe.capture = t.mfe.capture) (hw : ∀ r p, t.Awaits r p → u.Awaits r p) : Acts i R n s u := by
  refine h.trans (l := 0) ⟨hk, (Spends.refl t).quiet hv hk.settings hk.now, by rw [hg],
    fun _ _ => .inl (by rw [State.str, hst]; rfl), fun j hj => ?_, fun j _ _ => ?_, fun _ _ m => hq ▸ m, by rw [hq],
    by rw [hq], fun _ => ha, fun _ _ _ _ => ⟨hc, by rw [State.port, hp]; rfl⟩, fun x => hc.trans x, hw⟩
  · rwa [State.underRetest, hq] at hj
  · rw [State.sw, State.queued, hq]
    exact ⟨rfl, rfl⟩

theorem Acts.modSwitch (h : Acts i R n s t) (f : Switch → Switch) : Acts i R n s (t.modSwitch i f) :=
  h.modSseq _ (fun _ hj => hj) (fun j hj => ⟨(t.sw_modSwitch i j f).trans (if_neg hj), rfl⟩) (fun _ _ m => m) rfl rfl

theorem queued_append (q : List CoilEntry) (m : Mark) {j : StringId} (hj : j ≠ i) :
    ((q ++ [({ string := i, mark := m } : CoilEntry)]).any fun e => e.string == j) = q.any fun e => e.string == j := by
  simp [Ne.symm hj]

theorem queued_filter (q : List CoilEntry) {j : StringId} (hj : j ≠ i) :
    ((q.filter fun e => e.string != i).any fun e => e.string == j) = q.any fun e => e.string == j := by
  rw [List.any_filter]
  refine congrArg (q.any ·) (funext fun e => ?_)
  by_cases he : e.string = j
  · simp [he, hj]
  · simp [he]

theorem Acts.joinQueue (h : Acts i R n s t) (m : Mark) : Acts i R n s (t.joinQueue i m) := by
  unfold State.joinQueue
  exact Acts.ite h (h.modSseq _ (fun _ hj => hj) (fun _ hj => ⟨rfl, queued_append _ m hj⟩) (fun _ _ m => m) rfl rfl)

theorem Acts.leaveQueue (h : Acts i R n s t) : Acts i R n s (t.leaveQueue i) :=
  h.modSseq _ (fun _ hj => hj) (fun _ hj => ⟨rfl, queued_filter _ hj⟩) (fun _ _ m => m) rfl rfl

theorem Acts.emit (h : Acts i R n s t) (k : EventKind) (x : Option StringId) (a b : Int) :
    Acts i R (n + 1) s (t.emit k x a b) := by
  obtain ⟨g, e⟩ := State.emit_eq k x a b t
  have hs : Spends 1 t (t.emit k x a b) := by simpa using (Spends.refl t).emit k x a b
  have hk : Still t (t.emit k x a b) := (Still.refl t).emit k x a b
  rw [e] at hs hk ⊢
  exact h.trans ⟨hk, hs, rfl, fun _ _ => .inl rfl, fun _ hj => hj, fun _ _ _ => ⟨rfl, rfl⟩, fun _ _ m => m, rfl, rfl,
    fun _ => rfl, fun _ _ _ _ => ⟨rfl, rfl⟩, fun x => x, fun _ _ x => x⟩

theorem Acts.askCommit (h : Acts i R n s t) (r : StoreRecord) (w : List Port) : Acts i R n s (t.askCommit r w) :=
  h.quiet ((Still.refl t).askCommit r w) rfl rfl rfl rfl rfl rfl rfl fun _ _ x => x.askCommit r w

theorem Acts.setRetestMark (h : Acts i R n s t) (j : StringId) (b : Bool) : Acts i R n s (t.setRetestMark j b) :=
  h.quiet ((Still.refl t).setRetestMark j b) rfl rfl rfl rfl rfl rfl rfl fun _ _ x => x

/-! ### Changes of state -/

/-- The arc detector takes the start and the end of a ramp and an interruption alone (R146). -/
theorem State.report_arcd (i : StringId) {old new : SwitchState} (ho : old ≠ .ramping)
    (hn : new ≠ .ramping ∧ new ≠ .interrupting) (s : State) : (s.report i old new).arcd = s.arcd := by
  have step (c : Prop) [Decidable c] (t : State) (f : State → State) (hf : ∀ t, (f t).arcd = t.arcd)
      (ht : t.arcd = s.arcd) : (if c then f t else t).arcd = s.arcd := by
    split
    · exact (hf t).trans ht
    · exact ht
  unfold State.report State.noteStates
  simp only [State.modReports_arcd, if_neg hn.1, if_neg hn.2, if_neg fun h : old = .ramping ∧ new ≠ .ramping => ho h.1]
  refine step _ _ State.connectedCheck (fun t => ?_) ?_
  · obtain ⟨e, h⟩ := State.connectedCheck_eq t
    rw [h]
  refine step _ _ (State.freezeArrival i) (fun t => ?_) ?_
  · obtain ⟨r, h⟩ := State.freezeArrival_eq i t
    rw [h]
  refine step _ _ (State.modTsc _) (fun _ => rfl) ?_
  refine step _ _ (State.reportEnteredClosed i) (fun _ => rfl) ?_
  exact step _ s (State.reportLeftClosed i) (fun _ => rfl) rfl

/-- No search, no freeze (R128). -/
theorem State.freezeArrival_idle (i : StringId) (h : s.gsu.state = .idle) : s.freezeArrival i = s := by
  unfold State.freezeArrival
  simp [State.searchActive, h]

/-- What a string that enters a state leaves, but for the arc detector. -/
theorem State.enter_eq (i : StringId) (new : SwitchState) (timer : Option Nat) (s : State) :
    ∃ a e r c l v b, s.enter i new timer = { s with
      sseq := (s.enter i new timer).sseq, arcd := a, seval := e, rcl := r, tsc := c, gsu := { s.gsu with left := l }
      evr := v, reports := true, stab := b } ∧ (s.gsu.state = .idle → b = s.stab) := by
  obtain ⟨a, e, r, c, l, v, h⟩ := State.report_eq i (s.switchState i) new
    ((s.modSwitch i fun w => { w with state := new, timer := timer }).modSseq fun q =>
      { q with curtail := allStrings.any fun j => decide ((q.switches[j]).state = .curtailWait) })
  refine ⟨a, e, r, c, l, v, _, by rw [State.enter_sseq]; exact h, fun hi => ?_⟩
  split
  · rw [State.freezeArrival_idle]
    · rfl
    · exact hi
  · rfl

/-- String `i` enters a state that it may enter without a word to the arc detector, or where ramps may start. -/
theorem Acts.enter (h : Acts i R n s t) (new : SwitchState) (timer : Option Nat)
    (ha : ¬R → t.switchState i ≠ .ramping ∧ new ≠ .ramping ∧ new ≠ .interrupting) :
    Acts i R n s (t.enter i new timer) := by
  have hs : Spends 0 t (t.enter i new timer) := (Spends.refl t).enter i new timer
  have hk : Still t (t.enter i new timer) := (Still.refl t).enter i new timer
  obtain ⟨a, e, r, c, l, v, b, eq, hb⟩ := State.enter_eq i new timer t
  refine h.trans (l := 0) ⟨hk, hs, by rw [eq], fun hi _ => .inl ?_, fun j hj => ?_, fun j hj _ => ⟨?_, ?_⟩,
    fun j _ m => ?_, ?_, ?_, fun hr => ?_, fun _ _ _ _ => ⟨by rw [eq], by rw [eq]; rfl⟩,
    fun x => by rw [eq]; exact x, fun _ _ x => by rw [eq]; exact x⟩
  · rw [eq, State.str, hb hi]
    rfl
  · rw [State.underRetest, State.enter_sseq] at hj
    exact hj
  · rw [State.sw_enter, if_neg hj]
  · rw [State.queued, (State.queue_enter i new timer t).1]
    rfl
  · rwa [(State.queue_enter i new timer t).2.2] at m
  · rw [State.enter_sseq]
    rfl
  · exact (State.queue_enter i new timer t).2.1
  · obtain ⟨h1, h2⟩ := ha hr
    exact State.report_arcd i h1 h2 _

/-! ### Reports taken up -/

theorem State.takeReports_sseq (s : State) : s.takeReports.sseq = s.sseq := by
  obtain ⟨a, g, c, p, e⟩ := s.takeReports_eq
  rw [e]

/-- A capture whose string is in OPEN goes on (R16). -/
theorem State.takeReports_captures {c : Capture} (h : s.Captures c) :
    s.takeReports.mfe.capture = s.mfe.capture ∧ s.takeReports.ports = s.ports := by
  obtain ⟨hc, ho, -⟩ := h
  unfold State.takeReports
  split
  · obtain ⟨a, g, e⟩ := (s.modReports fun _ => false).workArraySafe_eq
    have hs : (s.modReports fun _ => false).workArraySafe.checkCapture = (s.modReports fun _ => false).workArraySafe := by
      unfold State.checkCapture
      rw [e]
      simp only [State.modReports_mfe, hc]
      exact if_pos ho
    rw [hs, e]
    exact ⟨rfl, rfl⟩
  · exact ⟨rfl, rfl⟩

/-- Without a capture none is abandoned (R16). -/
theorem State.takeReports_free (h : s.mfe.capture = none) : s.takeReports.mfe.capture = none := by
  unfold State.takeReports
  split
  · obtain ⟨a, g, e⟩ := (s.modReports fun _ => false).workArraySafe_eq
    have hc : (s.modReports fun _ => false).workArraySafe.mfe.capture = none := by
      rw [e]
      exact h
    unfold State.checkCapture
    rw [hc]
    exact hc
  · exact h

theorem Acts.takeReports (h : Acts i R n s t) : Acts i R (n + 1) s t.takeReports := by
  have hs : Spends 1 t t.takeReports := by simpa using (Spends.refl t).takeReports
  have hk : Still t t.takeReports := (Still.refl t).takeReports
  have hc := fun c => State.takeReports_captures (s := t) (c := c)
  obtain ⟨a, g, c, p, e⟩ := t.takeReports_eq
  refine h.trans ⟨hk, hs, by rw [e], fun _ _ => .inl (by rw [e]; rfl), fun j hj => ?_, fun j _ _ => ?_,
    fun j _ m => by rwa [State.takeReports_sseq] at m, by rw [e], by rw [e], fun _ => by rw [e], fun c x _ _ => ?_,
    State.takeReports_free, fun _ _ x => by rw [e]; exact x⟩
  · rwa [State.underRetest, State.takeReports_sseq] at hj
  · rw [e]
    exact ⟨rfl, rfl⟩
  · obtain ⟨h1, h2⟩ := hc c x
    exact ⟨h1, by rw [State.port, h2]; rfl⟩

/-! ### Opening and closing (sections 4.2, 4.4) -/

theorem State.switchState_of_sseq (h : t.sseq = s.sseq) (j : StringId) : t.switchState j = s.switchState j := by
  rw [State.switchState, State.sw, h]
  rfl

theorem State.switchState_startDwell (i j : StringId) (s : State) :
    (s.startDwell i).switchState j = s.switchState j := by
  rw [State.switchState, State.startDwell, State.sw_modSwitch]
  split
  · next e => rw [e]; rfl
  · rfl

theorem State.switchState_endRetest (i j : StringId) (s : State) :
    (s.endRetest i).switchState j = s.switchState j := rfl

theorem Acts.startDwell (h : Acts i R n s t) : Acts i R n s (t.startDwell i) := h.modSwitch _

theorem Acts.enterCurtailWait (h : Acts i R n s t) (ha : ¬R → t.switchState i ≠ .ramping) :
    Acts i R (n + 1) s (t.enterCurtailWait i) := by
  refine ((h.modSwitch _).enter _ _ fun r => ⟨?_, by decide, by decide⟩).emit _ _ _ _
  rw [State.switchState, State.sw_modSwitch, if_pos rfl]
  exact ha r

theorem Acts.pendingOpenQ (h : Acts i R n s t) (ha : ¬R → t.switchState i ≠ .ramping) :
    Acts i R (n + 1) s (t.pendingOpenQ i) := by
  have k := (h.enter .pendingOpen none fun r => ⟨ha r, by decide, by decide⟩).joinQueue .toOpen
  unfold State.pendingOpenQ
  refine Acts.ite (k.mono (Nat.le_succ n)) (k.enterCurtailWait fun _ => ?_)
  rw [State.switchState_joinQueue, State.switchState_enter, if_pos rfl]
  decide

theorem Acts.pendingCloseQ (h : Acts i R n s t) (ha : ¬R → t.switchState i ≠ .ramping) :
    Acts i R n s (t.pendingCloseQ i) := by
  unfold State.pendingCloseQ
  exact (h.enter .pendingClose _ fun r => ⟨ha r, by decide, by decide⟩).modSwitch _

theorem Acts.joinIfReadyQ (h : Acts i R n s t) : Acts i R n s (t.joinIfReadyQ i) := Acts.ite (h.joinQueue _) h

theorem Acts.testAndJoinQ (h : Acts i R n s t) : Acts i R n s (t.testAndJoinQ i) :=
  Acts.ite (h.modSwitch _).joinIfReadyQ h

theorem Acts.acceptOpenQ (h : Acts i R n s t) (ha : ¬R → t.switchState i ≠ .ramping) :
    Acts i R (n + 2) s (t.acceptOpenQ i) := by
  unfold State.acceptOpenQ
  have k1 : Acts i R (n + 1) s ((t.startDwell i).emit .stringIsolated (some i) 0 0) := h.startDwell.emit _ _ _ _
  have h1 : ((t.startDwell i).emit .stringIsolated (some i) 0 0).switchState i = t.switchState i := by
    rw [State.switchState_emit, State.switchState_startDwell]
  generalize (t.startDwell i).emit .stringIsolated (some i) 0 0 = v at k1 h1 ⊢
  have k2 := (k1.enter .opened none fun r => ⟨h1 ▸ ha r, by decide, by decide⟩).takeReports
  have h2 : (v.enter i .opened none).takeReports.switchState i = .opened := by
    rw [State.switchState_takeReports, State.switchState_enter, if_pos rfl]
  simp only []
  generalize (v.enter i .opened none).takeReports = w at k2 h2 ⊢
  exact Acts.ite (k2.pendingCloseQ fun _ => by rw [h2]; decide) k2

/-! ### Ramps (R82) -/

/-- Work on a string of the ramp list counts as work on any that may start ramps. -/
theorem Acts.onRamp {j : StringId} (h : Acts j True n s t) (hj : j ∈ s.sseq.rampList) : Acts i True n s t where
  still := h.still
  spends := h.spends
  search := h.search
  records := h.records
  retest := h.retest
  other := fun k _ hr => h.other k (fun e => hr trivial (e ▸ hj)) hr
  ramp := fun k _ m => if e : k = j then e ▸ hj else h.ramp k e m
  feedback := h.feedback
  pulses := h.pulses
  arcd := fun r => absurd trivial r
  capture := fun c hc _ hr => h.capture c hc (fun e => hr trivial (e ▸ hj)) hr
  free := h.free
  awaits := h.awaits

theorem Acts.startRamp (h : Acts i True n s t) : Acts i True n s (t.startRamp i) := by
  unfold State.startRamp
  exact ((h.modSseq (fun q => { q with
    rampList := q.rampList.drop 1
    slot := some { startedAt := t.now, freeAt := t.after (t.cfgNat .tSpace) } }) (fun _ hj => hj)
    (fun _ _ => ⟨rfl, rfl⟩) (fun _ _ m => List.mem_of_mem_drop m) rfl rfl).modSwitch _).enter _ _ fun r => absurd trivial r

theorem Acts.rampStarts (m : Nat) (t : State) : Acts i True 0 t (State.rampStarts m t) := by
  induction m generalizing t with
  | zero => exact Acts.refl i True t
  | succ m ih =>
    unfold State.rampStarts
    split
    · exact Acts.refl i True t
    · next j js hr =>
      exact Acts.ite ((((Acts.refl j True t).startRamp).onRamp (by simp [hr])).trans (ih _)) (Acts.refl i True t)

/-- An accepted closing may start ramps (R81, R82). -/
theorem Acts.acceptClosedQ (h : Acts i True n s t) : Acts i True (n + 1) s (t.acceptClosedQ i) := by
  unfold State.acceptClosedQ
  refine Acts.ite ?_ (h.pendingOpenQ fun r => absurd trivial r)
  have k := (h.enter .rampWait none fun r => absurd trivial r).modSseq
    (fun q => { q with rampList := q.rampList ++ [i] }) (fun _ hj => hj) (fun _ _ => ⟨rfl, rfl⟩)
    (fun j hj m => by simpa [hj] using m) rfl rfl
  exact (k.trans (Acts.rampStarts _ _)).mono (by omega)

/-! ### The retest (section 4.7) -/

theorem Acts.retestStepQ (h : Acts i R n s t) (hr : t.underRetest i = true) (step : RetestStep) :
    Acts i R n s (t.retestStepQ i step) := by
  unfold State.retestStepQ
  refine Acts.joinQueue (h.modSseq _ (fun j hj => ?_) (fun _ _ => ⟨rfl, rfl⟩) (fun _ _ m => m) rfl rfl) _
  have e : i = j := by simpa [State.underRetest] using hj
  exact e ▸ hr

theorem Acts.endRetest (h : Acts i R n s t) : Acts i R n s (t.endRetest i) := by
  unfold State.endRetest
  exact (h.leaveQueue.modSseq _ (fun _ hj => by simp [State.underRetest] at hj) (fun _ _ => ⟨rfl, rfl⟩)
    (fun _ _ m => m) rfl rfl).setRetestMark i false

/-- A retest that succeeds takes SWITCH from its string (R97). -/
theorem Acts.takeSwitch (h : Acts i R n s t) (hr : t.underRetest i = true) : Acts i R n s (t.takeHold .switch i) := by
  refine h.trans (l := 0) ?_
  unfold State.takeHold
  split
  · exact Acts.refl i R t
  · simp only [HoldKind.stored, if_true, State.reportRemoval]
    refine ⟨((Still.refl t).modString i _).askCommit _ _, (Spends.refl t).quiet rfl rfl rfl, rfl, fun hi j => ?_,
      fun _ hj => hj, fun _ _ _ => ⟨rfl, rfl⟩, fun _ _ m => m, rfl, rfl, fun _ => rfl, fun _ _ _ _ => ⟨rfl, rfl⟩,
      fun x => x, fun _ _ x => x.askCommit _ _⟩
    have hf : t.freezes .switch i = false := by simp [State.freezes, State.searchActive, hi]
    have e : ∀ v : State, (v.askCommit .holds []).str j = v.str j := fun _ => rfl
    rw [e, State.str_modString, hf]
    split
    · next hj => exact .inr ⟨hj ▸ hr, hj ▸ rfl⟩
    · exact .inl rfl

/-- The reply of a retest that has succeeded waits for the hold record's commit (R97). -/
theorem Acts.deferRetest (h : Acts i R n s t) {code : Byte} (ho : (t.port .m).outstanding = some ⟨code, .retest⟩)
    (w : Wait) : Acts i R n s ((t.startWait .m code w).askCommit .holds [.m]) := by
  refine h.trans (l := 0) ⟨(Still.refl t).deferRetest ho w, (Spends.refl t).quiet rfl rfl rfl, rfl, fun _ _ => .inl rfl,
    fun _ hj => hj, fun _ _ _ => ⟨rfl, rfl⟩, fun _ _ m => m, rfl, rfl, fun _ => rfl, fun c hc _ _ => ?_,
    fun x => x, fun _ _ x => State.Awaits.askCommit (s := t.startWait .m code w) x _ _⟩
  obtain ⟨-, -, o, mo, hw⟩ := hc
  rw [ho, Option.mem_some_iff] at mo
  rw [← mo] at hw
  cases hw

theorem Acts.retestSucceedsQ (h : Acts i R n s t) (hr : t.underRetest i = true) (ha : ¬R → t.switchState i ≠ .ramping) :
    Acts i R (n + 1) s (t.retestSucceedsQ i) := by
  unfold State.retestSucceedsQ
  simp only []
  have k1 := (h.takeSwitch hr).endRetest.startDwell
  have h1 : (((t.takeHold .switch i).endRetest i).startDwell i).switchState i = t.switchState i := by
    rw [State.switchState_startDwell, State.switchState_endRetest, State.switchState_takeHold]
  generalize ((t.takeHold .switch i).endRetest i).startDwell i = v at k1 h1 ⊢
  have k2 := (k1.enter .opened none fun r => ⟨h1 ▸ ha r, by decide, by decide⟩).takeReports
  have h2 : (v.enter i .opened none).takeReports.switchState i = .opened := by
    rw [State.switchState_takeReports, State.switchState_enter, if_pos rfl]
  generalize (v.enter i .opened none).takeReports = w at k2 h2 ⊢
  have arrive {x : State} (k : Acts i R (n + 1) s x) (hx : x.switchState i = .opened) :
      Acts i R (n + 1) s (if x.target i then x.pendingCloseQ i else x) :=
    Acts.ite (k.pendingCloseQ fun _ => by rw [hx]; decide) k
  split
  · next code ho => exact arrive (k2.deferRetest ho _) ((State.switchState_of_sseq rfl i).trans h2)
  · exact arrive k2 h2

theorem Acts.retestPassesQ (h : Acts i R n s t) (hr : t.underRetest i = true) (step : RetestStep)
    (ha : ¬R → t.switchState i ≠ .ramping) : Acts i R (n + 1) s (t.retestPassesQ i step) := by
  cases step with
  | firstOpen => exact (h.retestStepQ hr _).mono (Nat.le_succ n)
  | close => exact (h.retestStepQ hr _).mono (Nat.le_succ n)
  | secondOpen => exact h.retestSucceedsQ hr ha

/-! ### A grant (R93) -/

/-- A granted string goes on; a ramp may start where its relay, still to close, shows closed already. -/
theorem Acts.goesOn (hf : t.switchState i = .faulted → t.underRetest i = true) :
    Acts i (t.switchState i = .pendingClose ∧ t.feedback i = true) 2 t (t.goesOn i) := by
  unfold State.goesOn
  split
  · next hs =>
    have k := (Acts.refl i (t.switchState i = .pendingClose ∧ t.feedback i = true) t).enter .relayClosing
      (some (t.after (t.cfgNat .tConfirm))) fun _ => ⟨by rw [hs]; decide, by decide, by decide⟩
    simp only [State.feedback_enter]
    by_cases hb : t.feedback i = true
    · have e : (t.switchState i = .pendingClose ∧ t.feedback i = true) = True := eq_true ⟨hs, hb⟩
      rw [if_pos hb]
      rw [e] at k ⊢
      exact k.acceptClosedQ.mono (Nat.le_succ 1)
    · rw [if_neg hb]
      exact k.mono (Nat.zero_le 2)
  · next hs =>
    have k := (Acts.refl i (t.switchState i = .pendingClose ∧ t.feedback i = true) t).enter .relayOpening
      (some (t.after (t.cfgNat .tConfirm))) fun _ => ⟨by rw [hs]; decide, by decide, by decide⟩
    refine Acts.ite (k.mono (by omega)) (k.acceptOpenQ fun _ => ?_)
    rw [State.switchState_enter, if_pos rfl]
    decide
  · exact ((Acts.refl i _ t).modSwitch _).mono (by omega)
  · next hs =>
    split
    · next r hr =>
      have k := (Acts.refl i (t.switchState i = .pendingClose ∧ t.feedback i = true) t).modSseq (fun q => { q with
        retest := some { r with pulsed := true, timer := some (t.after (t.cfgNat .tConfirm)) } })
        (fun j hj => by simpa [State.underRetest, hr] using hj) (fun _ _ => ⟨rfl, rfl⟩) (fun _ _ m => m) rfl rfl
      have hu := hf hs
      refine Acts.ite ((k.retestPassesQ ?_ _ fun _ => ?_).mono (by omega)) (k.mono (by omega))
      · simpa [State.underRetest, hr] using hu
      · change t.switchState i ≠ _
        rw [hs]
        decide
    · exact (Acts.refl i _ t).mono (Nat.zero_le 2)
  · exact (Acts.refl i _ t).mono (Nat.zero_le 2)

end Sys2Proof.Machine
end

section
/-! SUPPORT. What the grants of the Coil Arbiter leave (R93), and what a string that waits to close comes to. -/

namespace Sys2Proof.Machine

variable {s t u : State}

/-! ### What a run of the arbiter leaves -/

/-- A string that opens under a closed feedback. -/
def State.Opens (s : State) (j : StringId) : Prop :=
  s.feedback j = true ∧ (s.switchState j = .pendingOpen ∨ s.switchState j = .relayOpening)

/-- Work that the arbiter may do: each pulse that it starts can add two records to a ring. -/
structure Moves (s t : State) : Prop where
  still : Still s t
  search : t.gsu.state = s.gsu.state
  records : s.gsu.state = .idle → Records s t s.str
  retest : ∀ j, t.underRetest j = true → s.underRetest j = true
  feedback : t.sseq.feedback = s.sseq.feedback
  pays : ∃ g, t.sseq.pulses.length = s.sseq.pulses.length + g ∧ (g = 0 ∨ t.sseq.pulses.length ≤ pulseLimit) ∧
    Spends (2 * g) s t
  opened : ∀ j, s.switchState j = .opened → j ∉ s.sseq.rampList →
    t.switchState j = .opened ∧ j ∉ t.sseq.rampList
  opening : ∀ j, s.Opens j → j ∉ s.sseq.rampList → t.Opens j ∧ j ∉ t.sseq.rampList
  capture : ∀ c, s.Captures c → c.string ∉ s.sseq.rampList →
    t.mfe.capture = s.mfe.capture ∧ t.port .m = s.port .m
  free : s.mfe.capture = none → t.mfe.capture = none
  awaits : ∀ r p, s.Awaits r p → t.Awaits r p

theorem Moves.refl (s : State) : Moves s s where
  still := Still.refl s
  search := rfl
  records := fun _ _ => .inl rfl
  retest := fun _ h => h
  feedback := rfl
  pays := ⟨0, rfl, .inl rfl, Spends.refl s⟩
  opened := fun _ h m => ⟨h, m⟩
  opening := fun _ h m => ⟨h, m⟩
  capture := fun _ _ _ => ⟨rfl, rfl⟩
  free := fun h => h
  awaits := fun _ _ h => h

theorem Moves.trans (h : Moves s t) (k : Moves t u) : Moves s u where
  still := h.still.trans k.still
  search := k.search.trans h.search
  records := fun hs => (h.records hs).trans (k.records (h.search.trans hs)) h.retest
  retest := fun j hj => h.retest j (k.retest j hj)
  feedback := k.feedback.trans h.feedback
  pays := by
    obtain ⟨g, h1, h2, h3⟩ := h.pays
    obtain ⟨l, k1, k2, k3⟩ := k.pays
    refine ⟨g + l, by omega, by omega, ?_⟩
    rw [Nat.mul_add]
    exact h3.trans k3
  opened := fun j hj m => by
    obtain ⟨h1, h2⟩ := h.opened j hj m
    exact k.opened j h1 h2
  opening := fun j hj m => by
    obtain ⟨h1, h2⟩ := h.opening j hj m
    exact k.opening j h1 h2
  capture := fun c hc m => by
    obtain ⟨h1, h2⟩ := h.capture c hc m
    obtain ⟨hcap, hop, hw⟩ := hc
    obtain ⟨h3, h4⟩ := h.opened c.string hop m
    obtain ⟨k1, k2⟩ := k.capture c ⟨h1.trans hcap, h3, h2 ▸ hw⟩ h4
    exact ⟨k1.trans h1, k2.trans h2⟩
  free := fun x => k.free (h.free x)
  awaits := fun r p x => k.awaits r p (h.awaits r p x)

theorem Moves.ite {c : Prop} [Decidable c] {a b : State} (ha : Moves s a) (hb : Moves s b) :
    Moves s (if c then a else b) := by
  split
  · exact ha
  · exact hb

/-- What work on one string leaves of another. -/
theorem Acts.switchState {i j : StringId} {R : Prop} {n : Nat} (h : Acts i R n s t) (hj : j ≠ i)
    (hr : R → j ∉ s.sseq.rampList) : t.switchState j = s.switchState j := by
  rw [State.switchState, (h.other j hj hr).1]
  rfl

theorem Acts.feedback_eq {i : StringId} {R : Prop} {n : Nat} (h : Acts i R n s t) (j : StringId) :
    t.feedback j = s.feedback j := by
  rw [State.feedback, h.feedback]
  rfl

/-- Work on a string that neither is in OPEN nor opens, starts no ramp and adds no record. -/
theorem Acts.moves {i : StringId} (h : Acts i False 0 s t) (ho : s.switchState i ≠ .opened) (hn : ¬s.Opens i) :
    Moves s t where
  still := h.still
  search := h.search
  records := h.records
  retest := h.retest
  feedback := h.feedback
  pays := ⟨0, by rw [h.pulses, Nat.add_zero], .inl rfl, h.spends⟩
  opened := fun j hj m => by
    have hi : j ≠ i := fun e => ho (e ▸ hj)
    exact ⟨(h.switchState hi False.elim).trans hj, fun x => m (h.ramp j hi x)⟩
  opening := fun j hj m => by
    have hi : j ≠ i := fun e => hn (e ▸ hj)
    obtain ⟨h1, h2⟩ := hj
    refine ⟨⟨(h.feedback_eq j).trans h1, ?_⟩, fun x => m (h.ramp j hi x)⟩
    rwa [h.switchState hi False.elim]
  capture := fun c hc m => h.capture c hc (fun e => ho (e ▸ hc.2.1)) False.elim
  free := h.free
  awaits := h.awaits

/-! ### A grant -/

/-- The half of a grant that starts the pulse changes the coil queue and the pulses alone. -/
theorem State.pulseStarts_eq (e : CoilEntry) (s : State) : ∃ q p, s.pulseStarts e =
    { s with sseq := { s.sseq with queue := q, pulses := p } } ∧ p.length = s.sseq.pulses.length + 1 :=
  ⟨_, _, rfl, by simp [State.leaveQueue]⟩

theorem State.underRetest_of_grantable {e : CoilEntry} (hg : s.grantable e = true)
    (hf : s.switchState e.string = .faulted) : s.underRetest e.string = true := by
  have hw : s.retestWaits e.string e.mark = true := by
    unfold State.grantable at hg
    split at hg <;> rename_i hm <;> rw [hm] <;> simp [hf] at hg
    · exact hg.2
    · exact hg
  unfold State.retestWaits at hw
  unfold State.underRetest
  split at hw
  · simp only [Bool.and_eq_true] at hw
    exact hw.1.1
  · cases hw

/-- A granted string that is in OPEN, or opens, stays so. -/
theorem State.goesOn_opened {i : StringId} (h : t.switchState i = .opened) : t.goesOn i = t := by
  unfold State.goesOn
  simp only [h]

theorem State.goesOn_opens {i : StringId} (h : t.Opens i) : (t.goesOn i).Opens i ∧
    (t.goesOn i).sseq.rampList = t.sseq.rampList := by
  obtain ⟨hf, hs | hs⟩ := h
  · have e : t.goesOn i = t.enter i .relayOpening (some (t.after (t.cfgNat .tConfirm))) := by
      unfold State.goesOn
      simp only [hs, State.feedback_enter, hf, if_true]
    rw [e]
    refine ⟨⟨by rw [State.feedback_enter, hf], .inr ?_⟩, (State.queue_enter _ _ _ _).2.2⟩
    rw [State.switchState_enter, if_pos rfl]
  · have e : t.goesOn i = t := by
      unfold State.goesOn
      simp only [hs]
    rw [e]
    exact ⟨⟨hf, .inr hs⟩, rfl⟩

theorem Moves.grant {e : CoilEntry} (hg : s.grantable e = true) (hp : s.sseq.pulses.length < pulseLimit) :
    Moves s (s.grant e) := by
  obtain ⟨q, p, eq, hl⟩ := s.pulseStarts_eq e
  have hk : Still s (s.pulseStarts e) := Still.pulseStarts e s
  have hsp : Spends 0 s (s.pulseStarts e) := by
    rw [eq]
    exact (Spends.refl s).quiet rfl rfl rfl
  have h := Acts.goesOn (i := e.string) (t := s.pulseStarts e) fun hf => by
    rw [eq] at hf ⊢
    exact State.underRetest_of_grantable hg hf
  have ho := State.goesOn_opened (t := s.pulseStarts e) (i := e.string)
  have hn := State.goesOn_opens (t := s.pulseStarts e) (i := e.string)
  rw [State.grant_eq]
  generalize s.pulseStarts e = v at eq hk hsp h ho hn ⊢
  have hsw : ∀ j, v.switchState j = s.switchState j := fun j => by rw [eq]; rfl
  have hfb : ∀ j, v.feedback j = s.feedback j := fun j => by rw [eq]; rfl
  have hram : v.sseq.rampList = s.sseq.rampList := by rw [eq]
  have hop : ∀ j, s.Opens j → v.Opens j := fun j ⟨h1, h2⟩ => ⟨(hfb j).trans h1, by rwa [hsw]⟩
  refine ⟨hk.trans h.still, h.search.trans (by rw [eq]), fun hs => ?_, fun j hj => ?_, h.feedback.trans (by rw [eq]),
    ⟨1, ?_, .inr ?_, ?_⟩, fun j hj m => ?_, fun j hj m => ?_, fun c hc m => ?_,
    fun x => h.free (by rw [eq]; exact x), fun r p x => h.awaits r p (by rw [eq]; exact x)⟩
  · have hr := h.records (by rw [eq]; exact hs)
    rw [eq] at hr
    rwa [eq]
  · have hj' := h.retest j hj
    rwa [eq] at hj'
  · rw [h.pulses, eq]
    exact hl
  · rw [h.pulses, eq]
    simp only []
    omega
  · exact (hsp.trans h.spends).mono (by omega)
  · by_cases hi : j = e.string
    · subst hi
      rw [ho ((hsw _).trans hj)]
      exact ⟨(hsw _).trans hj, hram ▸ m⟩
    · exact ⟨(h.switchState hi fun _ => hram ▸ m).trans ((hsw j).trans hj), fun x => m (hram ▸ h.ramp j hi x)⟩
  · by_cases hi : j = e.string
    · subst hi
      obtain ⟨h1, h2⟩ := hn (hop _ hj)
      exact ⟨h1, fun x => m (hram ▸ h2 ▸ x)⟩
    · obtain ⟨h1, h2⟩ := hop j hj
      refine ⟨⟨(h.feedback_eq j).trans h1, ?_⟩, fun x => m (hram ▸ h.ramp j hi x)⟩
      rwa [h.switchState hi fun _ => hram ▸ m]
  · have hv : v.Captures c := by
      rw [eq]
      exact hc
    have hb : v.mfe.capture = s.mfe.capture ∧ v.port .m = s.port .m := by rw [eq]; exact ⟨rfl, rfl⟩
    by_cases hi : c.string = e.string
    · rw [ho (hi ▸ hv.2.1)]
      exact hb
    · obtain ⟨h1, h2⟩ := h.capture c hv hi fun _ => hram ▸ m
      exact ⟨h1.trans hb.1, h2.trans hb.2⟩

/-- The Coil Arbiter (R93). -/
theorem Moves.grants (n : Nat) (s : State) : Moves s (State.grants n s) := by
  induction n generalizing s with
  | zero => exact Moves.refl s
  | succ n ih =>
    unfold State.grants
    split
    · next hp =>
      split
      · next e he => exact (Moves.grant (s.nextGrant_mem e he).2 hp).trans (ih _)
      · exact Moves.refl s
    · exact Moves.refl s

theorem Moves.arbiter (s : State) : Moves s s.arbiter := Moves.grants _ s

end Sys2Proof.Machine
end

section
/-! SUPPORT. The statement on the crossings of I_zero. -/

namespace Sys2Proof.Machine

variable {s t u : State}

/-! ### The end of a step while no ground search is under way -/

theorem State.finish_calm (h : s.calm) : s.finish = s.beginWrite := by
  obtain ⟨h1, h2, h3⟩ := h
  rw [s.finish_idle h1, State.takeReports_quiet h3, ← h2]
  rfl

/-- The end of a step leaves the sequencer and the String Table alone, while no ground search is under way. -/
theorem State.finish_stands (h : s.gsu.state = .idle) : s.finish.sseq = s.sseq ∧ s.finish.stab = s.stab := by
  obtain ⟨a, g, c, p, e⟩ := s.takeReports_eq
  obtain ⟨w, k⟩ := State.beginWrite_eq (s.takeReports.modGsu fun g => { g with left := [] })
  rw [s.finish_idle h, k, e]
  exact ⟨rfl, rfl⟩

/-- A record that a ring has gained lately outlasts the end of the step. -/
theorem Lately.finish {e : EventRecord} {k : Nat} (h : Lately s e k) (hg : s.gsu.state = .idle)
    (hk : k + 2 ≤ ringSize) : Noted s.finish e := by
  obtain ⟨m, hm, hl⟩ := (Spends.refl s).takeReports
  have ha := s.setAllowance_le
  obtain ⟨w, eq⟩ := State.beginWrite_eq (s.takeReports.modGsu fun g => { g with left := [] })
  rw [s.finish_idle hg, eq]
  exact ((hl e k (by omega) h).congr rfl rfl).noted

/-! ### A reading (R9) -/

/-- A string's reading and its indication as a new reading sets them (R9). -/
def State.read (i : StringId) (n : Nat) (s : State) : State :=
  s.modMfe fun m => { m with
    fast := m.fast.set i (min n 3200)
    below := tab fun j => if j = i then decide (min n 3200 < s.cfgNat .iZero) else s.below j }

/-- One reading is compared with I_zero (R9). -/
theorem State.compareFast_one (i : StringId) (u : State) : u.compareFast [i] =
    if u.readsLow i = u.below i
    then u.modMfe fun m => { m with below := tab fun j => if j = i then u.readsLow j else u.below j }
    else (u.modMfe fun m => { m with below := tab fun j => if j = i then u.readsLow j else u.below j }).cross i := by
  unfold State.compareFast
  by_cases h : u.readsLow i = u.below i
  · simp [h, Machine.forStrings]
  · simp [h, Machine.forStrings]

theorem State.readFast_eq (i : StringId) (n : Nat) (s : State) : s.readFast i n =
    if decide (min n 3200 < s.cfgNat .iZero) = s.below i then s.read i n else (s.read i n).cross i := by
  have low : ∀ j, (if j = i then (s.modMfe fun m => { m with fast := m.fast.set i (min n 3200) }).readsLow j
      else s.below j) = if j = i then decide (min n 3200 < s.cfgNat .iZero) else s.below j := fun j => by
    by_cases h : j = i
    · rw [if_pos h, if_pos h, h, State.readsLow, State.fast]
      simp only [State.modMfe_mfe, Fin.getElem_fin, Vector.getElem_set_self]
      rfl
    · rw [if_neg h, if_neg h]
  have here := low i
  rw [if_pos rfl, if_pos rfl] at here
  unfold State.readFast
  rw [State.compareFast_one, here]
  have e : ((s.modMfe fun m => { m with fast := m.fast.set i (min n 3200) }).modMfe fun m => { m with
      below := tab fun j => if j = i
        then (s.modMfe fun m => { m with fast := m.fast.set i (min n 3200) }).readsLow j else s.below j }) = s.read i n := by
    simp only [low]
    rfl
  exact e ▸ rfl

theorem State.fast_read (i j : StringId) (n : Nat) (s : State) :
    (s.read i n).fast j = if j = i then min n 3200 else s.fast j := by
  by_cases h : j = i
  · subst h
    simp [State.read, State.fast]
  · have hn : i.val ≠ j.val := fun e => h (Fin.ext e.symm)
    simp [State.read, State.fast, h, hn]

theorem State.below_read (i j : StringId) (n : Nat) (s : State) : (s.read i n).below j =
    if j = i then decide (min n 3200 < s.cfgNat .iZero) else s.below j := tab_get _ j

/-- What a reading and its crossing come to, beyond the switching of strings. -/
theorem State.finish_readFast_beyond (hc : s.calm) (i : StringId) (n : Nat) :
    (s.readFast i n).finish.beyondSwitching = (s.read i n).beyondSwitching := by
  have h : (s.readFast i n).beyondSwitching = (s.read i n).beyondSwitching := by
    rw [State.readFast_eq]
    split
    · rfl
    · exact State.cross_beyond i _
  exact (State.finish_beyond ((State.gsu_of_beyond h).trans hc.1)).trans h

/-- The readings and the indications after a reading, and all the rest beyond switching (R9). -/
theorem State.finish_readFast (hc : s.calm) (i : StringId) (n : Nat) :
    (s.readFast i n).finish.fast i = min n 3200 ∧
    (s.readFast i n).finish.below i = decide (min n 3200 < s.cfgNat .iZero) ∧
    (∀ j, j ≠ i → (s.readFast i n).finish.fast j = s.fast j ∧ (s.readFast i n).finish.below j = s.below j) ∧
    { (s.readFast i n).finish with mfe := { (s.readFast i n).finish.mfe with
        fast := s.mfe.fast, below := s.mfe.below } }.beyondSwitching = s.beyondSwitching := by
  have h := State.finish_readFast_beyond hc i n
  obtain ⟨hb, hf⟩ := State.mfe_of_beyond h
  have fast : ∀ j, (s.readFast i n).finish.fast j = (s.read i n).fast j := fun j => by rw [State.fast, hf]; rfl
  have below : ∀ j, (s.readFast i n).finish.below j = (s.read i n).below j := fun j => by rw [State.below, hb]; rfl
  refine ⟨?_, ?_, fun j hj => ⟨?_, ?_⟩, ?_⟩
  · rw [fast, State.fast_read, if_pos rfl]
  · rw [below, State.below_read, if_pos rfl]
  · rw [fast, State.fast_read, if_neg hj]
  · rw [below, State.below_read, if_neg hj]
  · exact congrArg (fun x : State => { x with mfe := { x.mfe with fast := s.mfe.fast, below := s.mfe.below } }) h

/-! ### A current that has fallen (R86, R87) -/

/-- A string whose indication is set enters PENDING_OPEN, and goes no further of itself (R89). -/
theorem State.pendingOpenQ_below {i : StringId} (h : s.below i = true) :
    (s.pendingOpenQ i).switchState i = .pendingOpen ∧ (s.pendingOpenQ i).sseq.rampList = s.sseq.rampList := by
  have hb : ((s.enter i .pendingOpen none).joinQueue i .toOpen).below i = true := by
    have e : ((s.enter i .pendingOpen none).joinQueue i .toOpen).mfe.below = s.mfe.below := by
      refine (State.mfe_of_beyond ?_).1
      rw [State.joinQueue_beyond, State.enter_beyond]
    rw [State.below, e]
    exact h
  constructor
  · rw [State.switchState_pendingOpenQ, if_pos rfl, if_pos hb]
  · unfold State.pendingOpenQ
    simp only []
    rw [if_pos hb, ← (State.queue_enter i .pendingOpen none s).2.2]
    unfold State.joinQueue
    split <;> rfl

theorem State.fellBelow_waiting {i : StringId} (h : s.switchState i = .interrupting ∨ s.switchState i = .curtailWait) :
    s.fellBelow i = (s.pendingOpenQ i).arbiter := by
  unfold State.fellBelow
  rcases h with h | h <;> simp only [h]

/-- A string that waits for its current to fall opens (R86, R87). -/
theorem State.fellBelow_opens {i : StringId} (hb : s.below i = true) (hf : s.feedback i = true)
    (hs : s.switchState i = .interrupting ∨ s.switchState i = .curtailWait) (hr : i ∉ s.sseq.rampList) :
    (s.fellBelow i).Opens i := by
  obtain ⟨h1, h2⟩ := State.pendingOpenQ_below hb
  have k : Acts i True 1 s (s.pendingOpenQ i) := (Acts.refl i True s).pendingOpenQ fun x => absurd trivial x
  rw [State.fellBelow_waiting hs]
  exact ((Moves.arbiter _).opening i ⟨(k.feedback_eq i).trans hf, .inl h1⟩ (h2 ▸ hr)).1

/-- A crossing that is delivered can only take SWITCH from a string whose retest succeeds on the way (R97). -/
theorem State.fellBelow_records (hi : s.gsu.state = .idle) (i : StringId) : Records s (s.fellBelow i) s.str := by
  have waiting : Records s (s.pendingOpenQ i).arbiter s.str := by
    have k : Acts i True 1 s (s.pendingOpenQ i) := (Acts.refl i True s).pendingOpenQ fun x => absurd trivial x
    exact (k.records hi).trans ((Moves.arbiter _).records (k.search.trans hi)) k.retest
  unfold State.fellBelow
  split
  · exact waiting
  · exact waiting
  · split
    · exact (Moves.arbiter s).records hi
    · exact fun _ => .inl rfl

/-! ### A current that has risen (R89) -/

/-- A string in CURTAIL_WAIT, its event yet to come (R87). -/
def State.curtails (i : StringId) (s : State) : State :=
  (s.modSwitch i fun w => { w with periods := 0 }).enter i .curtailWait (some (s.after (1000 * s.cfgNat .tCurtail)))

theorem State.enterCurtailWait_eq (i : StringId) (s : State) :
    s.enterCurtailWait i = (s.curtails i).emit .interruptFailed (some i) ((s.curtails i).fast i) 0 := rfl

/-- The CURTAIL line, the coil queue and the timer of a string in CURTAIL_WAIT (R87, R88). -/
theorem State.curtails_sseq (i : StringId) (s : State) : (s.curtails i).sseq.curtail = true ∧
    (s.curtails i).sseq.queue = s.sseq.queue ∧ ((s.curtails i).sw i).timer = some (s.now + 1000 * s.cfgNat .tCurtail) := by
  refine ⟨?_, (State.queue_enter i _ _ _).1, ?_⟩
  · rw [State.curtails, State.enter_sseq]
    refine List.any_eq_true.2 ⟨i, List.contains_iff_mem.1 (mem_allStrings i), decide_eq_true ?_⟩
    exact congrArg Switch.state ((State.sw_modSwitch i i _ _).trans (if_pos rfl))
  · rw [State.curtails, State.sw_enter, if_pos rfl]
    rfl

/-- What a string that enters CURTAIL_WAIT leaves of the records, the readings and the clock. -/
theorem State.curtails_stands (i : StringId) (hg : s.gsu.state = .idle) :
    (s.curtails i).stab = s.stab ∧ (s.curtails i).mfe = s.mfe ∧ (s.curtails i).now = s.now := by
  obtain ⟨a, b, r, c, l, x, st, e, hst⟩ := State.enter_eq i .curtailWait (some (s.after (1000 * s.cfgNat .tCurtail)))
    (s.modSwitch i fun w => { w with periods := 0 })
  rw [State.curtails, e]
  exact ⟨hst hg, rfl, rfl⟩

/-- A string in CURTAIL_WAIT: its timer, the CURTAIL line and the event (R87, R88). -/
theorem State.enterCurtailWait_leaves (i : StringId) (hg : s.gsu.state = .idle) :
    (s.enterCurtailWait i).sseq.curtail = true ∧ (s.enterCurtailWait i).sseq.queue = s.sseq.queue ∧
    ((s.enterCurtailWait i).sw i).timer = some (s.now + 1000 * s.cfgNat .tCurtail) ∧
    (s.enterCurtailWait i).stab = s.stab ∧
    Lately (s.enterCurtailWait i) (s.eventNow .interruptFailed (some i) (s.fast i) 0) 1 := by
  obtain ⟨curtail, queue, timer⟩ := s.curtails_sseq i
  obtain ⟨stab, mfe, now⟩ := State.curtails_stands i hg
  have event : (s.curtails i).eventNow .interruptFailed (some i) ((s.curtails i).fast i) 0 =
      s.eventNow .interruptFailed (some i) (s.fast i) 0 := by
    unfold State.eventNow State.uptime State.fast
    rw [mfe, now]
  have late : Lately (s.enterCurtailWait i) ((s.curtails i).eventNow .interruptFailed (some i) ((s.curtails i).fast i) 0)
      1 := Lately.route _ rfl (s.curtails i)
  obtain ⟨g, e⟩ := State.emit_eq .interruptFailed (some i) ((s.curtails i).fast i) 0 (s.curtails i)
  rw [event, State.enterCurtailWait_eq] at late
  rw [State.enterCurtailWait_eq]
  refine ⟨?_, ?_, ?_, ?_, late⟩ <;> rw [e]
  · exact curtail
  · exact queue
  · exact timer
  · exact stab

/-! ### The statement -/

theorem exec_currentFell {i : StringId} {n : Nat} (hp : s.powered = true) (h : min n 3200 < s.cfgNat .iZero) :
    exec (.currentFellBelowIZero i n) s = .next (s.readFast i n).finish := by
  have e : exec (.currentFellBelowIZero i n) s = s.happens (s.readsBelow n) fun s => (s.readFast i n).finish := rfl
  rw [e, State.happens, if_pos (by simp only [State.readsBelow, hp, h, decide_true, Bool.and_self])]

theorem exec_currentReached {i : StringId} {n : Nat} (hp : s.powered = true) (h : s.cfgNat .iZero ≤ min n 3200) :
    exec (.currentReachedIZero i n) s = .next (s.readFast i n).finish := by
  have e : exec (.currentReachedIZero i n) s = s.happens (!s.readsBelow n) fun s => (s.readFast i n).finish := rfl
  have hn : decide (min n 3200 < s.cfgNat .iZero) = false := decide_eq_false (by omega)
  rw [e, State.happens, if_pos (by simp only [State.readsBelow, hp, hn, Bool.not_false, Bool.and_self])]

/-- A reading that leaves the indication as it was (R9). -/
theorem State.readFast_same {i : StringId} {n : Nat} (h : decide (min n 3200 < s.cfgNat .iZero) = s.below i) :
    s.readFast i n = s.read i n := by
  rw [State.readFast_eq, if_pos h]

theorem State.readFast_fell {i : StringId} {n : Nat} (h : min n 3200 < s.cfgNat .iZero) (hb : s.below i = false) :
    s.readFast i n = (s.read i n).fellBelow i := by
  have hr : (s.read i n).below i = true := by rw [State.below_read, if_pos rfl, decide_eq_true h]
  rw [State.readFast_eq, if_neg (by simp only [h, hb]; decide), State.cross, if_pos hr]

/-- A reading at or above I_zero moves a string in PENDING_OPEN whose indication was set (R89). -/
theorem State.readFast_reached {i : StringId} {n : Nat} (h : s.cfgNat .iZero ≤ min n 3200) : s.readFast i n =
    if s.below i = true ∧ s.switchState i = .pendingOpen then (s.read i n).enterCurtailWait i else s.read i n := by
  have hn : decide (min n 3200 < s.cfgNat .iZero) = false := decide_eq_false (by omega)
  have hr : ¬(s.read i n).below i = true := by rw [State.below_read, if_pos rfl, hn]; decide
  by_cases hb : s.below i = true
  · rw [State.readFast_eq, if_neg (by rw [hn, hb]; decide), State.cross, if_neg hr, State.reachedIZero]
    simp only [hb, true_and]
    rfl
  · rw [State.readFast_same (by rw [hn, Bool.eq_false_iff.2 hb]), if_neg fun x => hb x.1]

/-- Settles O46: a reading sets the indication, and its crossing does what the fall or the rise of the current asks. -/
theorem crossingsOfZeroCurrentMoveWaitingStrings : Obligations.CrossingsOfZeroCurrentMoveWaitingStrings := by
  intro s i n hp hc hf
  obtain ⟨-, -, -, ramp, -⟩ := hf
  obtain ⟨fast, below, others, beyond⟩ := State.finish_readFast hc i n
  have idle : (s.readFast i n).gsu.state = .idle := by
    rw [State.readFast_eq]
    split
    · exact hc.1
    · exact (State.gsu_of_beyond (State.cross_beyond i (s.read i n))).trans hc.1
  obtain ⟨sseq, stab⟩ := State.finish_stands idle
  have off : ∀ j, s.switchState j ≠ .rampWait → j ∉ s.sseq.rampList := fun j hj m => hj (ramp j m)
  refine ⟨fun h => ⟨_, exec_currentFell hp h, fast, below.trans (decide_eq_true h), others, fun hb hfb hs => ?_,
    fun hb => ?_, ?_, beyond⟩, fun h => ⟨_, exec_currentReached hp h, fast, below.trans (decide_eq_false (by omega)),
    others, ?_, ?_, ?_, beyond⟩⟩
  · rw [State.switchState_of_sseq sseq, State.readFast_fell h hb]
    have o := State.fellBelow_opens (s := s.read i n) (by rw [State.below_read, if_pos rfl, decide_eq_true h]) hfb hs
      (off i (by rcases hs with e | e <;> rw [e] <;> decide))
    simpa using o.2
  · rw [State.readFast_same (by rw [hb]; exact decide_eq_true h), State.finish_calm (s := s.read i n) hc]
    obtain ⟨w, e⟩ := State.beginWrite_eq (s.read i n)
    rw [e]
    exact ⟨rfl, rfl, rfl⟩
  · have r : Records s (s.readFast i n) s.str := by
      by_cases hb : s.below i = true
      · rw [State.readFast_same (by rw [hb]; exact decide_eq_true h)]
        exact fun _ => .inl rfl
      · rw [State.readFast_fell h (by simpa using hb)]
        exact State.fellBelow_records (s := s.read i n) hc.1 i
    intro j
    rw [State.str, stab]
    exact r j
  · intro j hj
    rw [State.switchState_of_sseq sseq, State.readFast_reached h]
    split
    · rw [State.switchState_enterCurtailWait, if_neg hj]
      rfl
    · rfl
  · split
    · next hw =>
      obtain ⟨curtail, queue, timer, -, event⟩ := State.enterCurtailWait_leaves (s := s.read i n) i hc.1
      have run : s.readFast i n = (s.read i n).enterCurtailWait i := by rw [State.readFast_reached h, if_pos hw]
      rw [run] at sseq idle ⊢
      have noted := event.finish idle (by decide)
      rw [State.fast_read, if_pos rfl] at noted
      refine ⟨?_, ?_, ?_, ?_, noted⟩
      · rw [State.switchState_of_sseq sseq, State.switchState_enterCurtailWait, if_pos rfl]
      · rw [sseq, curtail]
      · rw [sseq, queue]
        rfl
      · rw [State.sw, sseq]
        exact timer
    · next hw =>
      rw [State.switchState_of_sseq sseq, State.readFast_reached h, if_neg hw]
      rfl
  · rw [stab, State.readFast_reached h]
    split
    · exact (State.enterCurtailWait_leaves (s := s.read i n) i hc.1).2.2.2.1
    · rfl

end Sys2Proof.Machine
end

section
/-! SUPPORT. The statement on an offset capture. -/

namespace Sys2Proof.Machine

variable {s t u : State}

/-! ### The tests of a completion (R79, R80) -/

theorem Moves.forStrings {f : StringId → State → State} (hf : ∀ i s, Moves s (f i s)) (xs : List StringId) (s : State) :
    Moves s (Machine.forStrings f xs s) := by
  induction xs generalizing s with
  | nil => exact Moves.refl s
  | cons i xs ih => exact (hf i s).trans (ih _)

/-- The test of a string that waits to close moves no other (R79, R80). -/
theorem Moves.testAndJoinQ {i : StringId} (h : s.switchState i = .pendingClose) : Moves s (s.testAndJoinQ i) := by
  refine (Acts.refl i False s).testAndJoinQ.moves (by rw [h]; decide) fun ho => ?_
  obtain ⟨-, ho | ho⟩ := ho <;> rw [h] at ho <;> cases ho

/-- The turn of one string in the tests of a completion. -/
def State.qualifyOne (i : StringId) (s : State) : State :=
  if s.switchState i = .pendingClose then (s.testAndJoinQ i).arbiter else s

theorem State.qualifyAll_eq (s : State) : s.qualifyAll = Machine.forStrings State.qualifyOne allStrings s := rfl

theorem Moves.qualifyOne (i : StringId) (s : State) : Moves s (s.qualifyOne i) := by
  unfold State.qualifyOne
  split
  · next h => exact (Moves.testAndJoinQ h).trans (Moves.arbiter _)
  · exact Moves.refl s

theorem Moves.qualifyAll (s : State) : Moves s s.qualifyAll := Moves.forStrings Moves.qualifyOne allStrings s

/-! ### The capture's part of a completion (R14 to R16) -/

/-- What a completion makes of a capture before its tests. -/
theorem State.captureStep_of (raw : RawScan) (v : Samples) {c : Capture} (h : s.mfe.capture = some c) :
    s.captureStep raw v = if (v.channels[c.string]).clipped
      then (s.modMfe fun m => { m with capture := none }).endUnitWait .capture
      else if 15 ≤ c.count then s.completeCapture c.string (c.sum + (raw.channels[c.string]).raw.toInt)
      else s.modMfe fun m => { m with capture := some { string := c.string, count := c.count + 1,
                                                        sum := c.sum + (raw.channels[c.string]).raw.toInt } } := by
  unfold State.captureStep State.abandonCapture
  simp only [h, if_true, captureSamples, Nat.succ_le_succ_iff]

/-- The end of a capture's request with STATE (R16). -/
theorem ended_of_endUnitWait {code : Byte} (ho : (u.port .m).outstanding = some ⟨code, .capture⟩)
    (hr : (u.port .m).ready = (s.port .m).ready) : Ended s (u.endUnitWait .capture) .m code .state [] := by
  have e : u.endUnitWait .capture = (u.modPort .m fun t => { t with outstanding := none }).reply .m code .state [] := by
    unfold State.endUnitWait State.endOutstanding
    simp only [ho, if_true]
  rw [e]
  unfold Ended
  rw [State.port_reply, if_pos rfl, State.port_modPort, if_pos rfl]
  refine ⟨rfl, _, List.getLast?_concat, ?_, rfl, rfl, rfl⟩
  rw [← hr]

theorem roundDiv_sixteen (n : Int) : roundDiv n captureSamples = if 0 ≤ n then (n + 8) / 16 else -((-n + 8) / 16) := by
  unfold roundDiv captureSamples
  split <;> omega

/-! ### The tests and the end of the step -/

/-- What the tests of a completion and the end of its step leave, while no ground search is under way. -/
structure Completed (s t : State) : Prop where
  settings : t.settings = s.settings
  port : (s.port .m).NoUnit → t.port .m = s.port .m
  free : s.mfe.capture = none → t.mfe.capture = none
  capture : ∀ c, s.Captures c → c.string ∉ s.sseq.rampList → t.mfe.capture = s.mfe.capture ∧ t.port .m = s.port .m
  awaits : ∀ r p, s.Awaits r p → t.Awaits r p

theorem State.completed (hg : s.gsu.state = .idle) : Completed s s.qualifyAll.finish := by
  have m := Moves.qualifyAll s
  generalize s.qualifyAll = v at m ⊢
  have k : Still v v.takeReports := (Still.refl v).takeReports
  obtain ⟨w, e⟩ := State.beginWrite_eq (v.takeReports.modGsu fun g => { g with left := [] })
  rw [v.finish_idle (m.search.trans hg), e]
  refine ⟨k.settings.trans m.still.settings, fun hp => ?_, fun hc => State.takeReports_free (m.free hc), fun c hc hr => ?_,
    fun r p h => ?_⟩
  · have hm := m.still.keeps .m fun _ => hp
    exact (k.keeps .m fun _ => hm ▸ hp).trans hm
  · obtain ⟨h1, h2⟩ := m.capture c hc hr
    obtain ⟨hcap, hop, hw⟩ := hc
    obtain ⟨h3, h4⟩ := State.takeReports_captures (s := v) (c := c) ⟨h1.trans hcap, (m.opened _ hop hr).1, h2 ▸ hw⟩
    exact ⟨h3.trans h1, (congrArg (fun x : Ports => x.port.get .m) h4).trans h2⟩
  · have hv := m.awaits r p h
    obtain ⟨a, g, c, q, eq⟩ := v.takeReports_eq
    rw [eq]
    exact hv

/-- The next interval and the record's takers are nothing to a capture. -/
theorem Completed.handsOver {raw : RawScan} {v : Samples} {r : ScanRecord} (h : Completed (u.handsOver raw v r) t) :
    Completed u t := ⟨h.settings, h.port, h.free, h.capture, h.awaits⟩

/-- What a completion leaves of its capture's part. -/
theorem State.completed_captured (raw : RawScan) (hg : s.gsu.state = .idle) :
    Completed (s.captured raw) (s.completeScan raw).finish := by
  have idle : (s.scanned raw).gsu.state = .idle := by
    obtain ⟨d, w, r, g, c, f, q, p, e⟩ := s.captured_eq raw
    have h : (s.captured raw).gsu.state = .idle := by rw [e]; exact hg
    exact h
  rw [State.completeScan_eq]
  exact (State.completed idle).handsOver

/-! ### The statement -/

/-- What becomes of a capture with the next sample `x` of its string (R14 to R16). -/
def CaptureGoesOn (s t : State) (c : Capture) (code : Byte) (x : Sample) (sample : Int) : Prop :=
  let sum := c.sum + sample
  let mean := if 0 ≤ sum then (sum + 8) / 16 else -((-sum + 8) / 16)
  if x.clipped then t.mfe.capture = none ∧ t.settings = s.settings ∧ Ended s t .m code .state []
  else if c.count < 15 then
    t.mfe.capture = some { string := c.string, count := c.count + 1, sum := sum } ∧ t.settings = s.settings ∧
    t.port .m = s.port .m
  else if -65536 ≤ mean ∧ mean ≤ 65535 then
    t.mfe.capture = none ∧
    t.settings = { s.settings with
      strings := s.settings.strings.set c.string { s.settings.strings[c.string] with offset := mean } } ∧
    (t.port .m).outstanding = some { code := code, wait := .commit .done (bytes32 (BitVec.ofInt 32 mean)) } ∧
    t.Awaits .settings .m
  else t.mfe.capture = none ∧ t.settings = s.settings ∧ Ended s t .m code .state []

/-- The sixteenth sample of a capture (R15). -/
theorem State.completeCapture_of {c : Capture} {code : Byte} {sum mean : Int} (hm : mean = roundDiv sum captureSamples)
    (ho : (u.port .m).outstanding = some ⟨code, .capture⟩) : u.completeCapture c.string sum =
      if -65536 ≤ mean ∧ mean ≤ 65535 then
        (((u.modMfe fun m => { m with capture := none }).modStringSettings c.string fun x => { x with offset := mean }
          ).startWait .m code (.commit .done (bytes32 (BitVec.ofInt 32 mean)))).askCommit .settings [.m]
      else (u.modMfe fun m => { m with capture := none }).endUnitWait .capture := by
  have hp : (((u.modMfe fun m => { m with capture := none }).modStringSettings c.string
    fun x => { x with offset := mean }).port .m).outstanding = some ⟨code, .capture⟩ := ho
  unfold State.completeCapture
  simp only [← hm]
  split
  · split
    · next e => rw [hp] at e; cases e; rfl
    · next hn => exact absurd hp (hn _)
  · rfl

/-- The capture's part of a completion (R14 to R16). -/
theorem captureStep_goesOn {c : Capture} {code : Byte} (raw : RawScan) (v : Samples) (hc : u.mfe.capture = some c)
    (ho : (u.port .m).outstanding = some ⟨code, .capture⟩) :
    CaptureGoesOn u (u.captureStep raw v) c code v.channels[c.string] (raw.channels[c.string]).raw.toInt := by
  have state : ((u.modMfe fun m => { m with capture := none }).endUnitWait .capture).mfe.capture = none ∧
      ((u.modMfe fun m => { m with capture := none }).endUnitWait .capture).settings = u.settings ∧
      Ended u ((u.modMfe fun m => { m with capture := none }).endUnitWait .capture) .m code .state [] := by
    have hend := ended_of_endUnitWait (s := u) (u := u.modMfe fun m => { m with capture := none }) ho rfl
    obtain ⟨q, e⟩ := State.endUnitWait_eq .capture (u.modMfe fun m => { m with capture := none })
    rw [e] at hend ⊢
    exact ⟨rfl, rfl, hend⟩
  rw [State.captureStep_of raw v hc]
  unfold CaptureGoesOn
  simp only []
  generalize hm : (if 0 ≤ c.sum + (raw.channels[c.string]).raw.toInt then
    (c.sum + (raw.channels[c.string]).raw.toInt + 8) / 16
    else -((-(c.sum + (raw.channels[c.string]).raw.toInt) + 8) / 16)) = mean
  rw [State.completeCapture_of (hm.symm.trans (roundDiv_sixteen _).symm) ho]
  by_cases hx : (v.channels[c.string]).clipped = true
  · simp only [hx, if_true]
    exact state
  · by_cases hn : 15 ≤ c.count
    · have hl : ¬c.count < 15 := by omega
      by_cases hr : -65536 ≤ mean ∧ mean ≤ 65535
      · simp only [if_neg hx, if_pos hn, if_neg hl, if_pos hr]
        refine ⟨rfl, rfl, ?_, State.askCommit_waits _ _ _⟩
        change (((State.modStringSettings _ _ _).startWait .m code _).port .m).outstanding = _
        rw [State.port_startWait, if_pos rfl]
      · simp only [if_neg hx, if_pos hn, if_neg hl, if_neg hr]
        exact state
    · have hl : c.count < 15 := by omega
      simp only [if_neg hx, if_neg hn, if_pos hl]
      exact ⟨rfl, rfl, rfl⟩

/-- What becomes of a capture outlasts the tests of the completion and the end of the step. -/
theorem CaptureGoesOn.completed {c : Capture} {code : Byte} {x : Sample} {n : Int} (h : CaptureGoesOn s u c code x n)
    (hs : u.switchState c.string = .opened) (hr : c.string ∉ u.sseq.rampList)
    (ho : (s.port .m).outstanding = some ⟨code, .capture⟩) (k : Completed u t) : CaptureGoesOn s t c code x n := by
  have ended (h1 : u.mfe.capture = none ∧ u.settings = s.settings ∧ Ended s u .m code .state []) :
      t.mfe.capture = none ∧ t.settings = s.settings ∧ Ended s t .m code .state [] := by
    obtain ⟨hc, hset, hend⟩ := h1
    refine ⟨k.free hc, k.settings.trans hset, ?_⟩
    unfold Ended
    rw [k.port (PortState.noUnit_of_none hend.1)]
    exact hend
  unfold CaptureGoesOn at h ⊢
  simp only [] at h ⊢
  generalize (if 0 ≤ c.sum + n then (c.sum + n + 8) / 16 else -((-(c.sum + n) + 8) / 16)) = mean at h ⊢
  by_cases hx : x.clipped = true
  · simp only [if_pos hx] at h ⊢
    exact ended h
  · by_cases hl : c.count < 15
    · simp only [if_neg hx, if_pos hl] at h ⊢
      obtain ⟨hc, hset, hport⟩ := h
      obtain ⟨h1, h2⟩ := k.capture _ ⟨hc, hs, _, hport ▸ ho, rfl⟩ hr
      exact ⟨h1.trans hc, k.settings.trans hset, h2.trans hport⟩
    · by_cases hm : -65536 ≤ mean ∧ mean ≤ 65535
      · simp only [if_neg hx, if_neg hl, if_pos hm] at h ⊢
        obtain ⟨hc, hset, hport, hwait⟩ := h
        have free : (u.port .m).NoUnit := fun o mo => by
          rw [hport, Option.mem_some_iff] at mo
          subst mo
          exact ⟨by simp, by simp⟩
        exact ⟨k.free hc, k.settings.trans hset, (congrArg PortState.outstanding (k.port free)).trans hport,
          k.awaits _ _ hwait⟩
      · simp only [if_neg hx, if_neg hl, if_neg hm] at h ⊢
        exact ended h

/-- Settles O42: what the completion makes of the capture, and what its tests and its end leave of that. -/
theorem captureTakesSixteenSamples : Obligations.CaptureTakesSixteenSamples := by
  intro s raw c code hp hq hf ho hc hs hw
  obtain ⟨-, -, -, ramp, -⟩ := hf
  have off : c.string ∉ s.sseq.rampList := fun m => by
    rw [ramp c.string m] at hs
    cases hs
  obtain ⟨d, w, r, g, ed⟩ := s.daylightStep_eq (s.convert raw).bus
  have goes : CaptureGoesOn s (s.captured raw) c code (s.convert raw).channels[c.string]
      (raw.channels[c.string]).raw.toInt := by
    have h := captureStep_goesOn (u := s.daylightStep (s.convert raw).bus) (code := code) raw (s.convert raw)
      (by rw [ed]; exact hc) (by rw [ed]; exact hw)
    rw [ed] at h
    rw [State.captured, ed]
    exact h
  have seq : (s.captured raw).sseq = s.sseq := by
    obtain ⟨d, w, r, g, c, f, q, p, e⟩ := s.captured_eq raw
    rw [e]
  exact ⟨_, exec_scanCompletion raw hp ho, goes.completed ((State.switchState_of_sseq seq _).trans hs) (seq ▸ off) hw
    (State.completed_captured raw hq.1)⟩

end Sys2Proof.Machine
end

section
/-! SUPPORT. What the Coil Arbiter does to strings that wait to close while their relays show open (R79 to R81, R93). -/

namespace Sys2Proof.Machine

variable {P Q : StringId → Prop} {s t u : State}

/-- No string in PENDING_CLOSE has its relay closed. -/
def State.ClosingOpen (s : State) : Prop := ∀ j, s.switchState j = .pendingClose → s.feedback j = false

/-- A string in PENDING_CLOSE waits in the coil queue, or its grant has come. -/
def State.Joined (s : State) (j : StringId) : Prop :=
  (s.switchState j = .pendingClose ∧ s.queued j = true) ∨ s.switchState j = .relayClosing

/-- Work that starts no ramp, and leaves each string of `P` that waits to close without an entry as it was. -/
structure Closes (P : StringId → Prop) (s t : State) : Prop where
  arcd : t.arcd = s.arcd
  closing : t.ClosingOpen
  waits : ∀ j, P j → s.switchState j = .pendingClose → s.queued j = false → t.sw j = s.sw j ∧ t.queued j = false
  joined : ∀ j, s.Joined j → t.Joined j

theorem Closes.refl (P : StringId → Prop) (h : s.ClosingOpen) : Closes P s s :=
  ⟨rfl, h, fun _ _ _ hq => ⟨rfl, hq⟩, fun _ hj => hj⟩

theorem Closes.trans (h : Closes P s t) (k : Closes P t u) : Closes P s u where
  arcd := k.arcd.trans h.arcd
  closing := k.closing
  waits := fun j hj hs hq => by
    obtain ⟨h1, h2⟩ := h.waits j hj hs hq
    obtain ⟨k1, k2⟩ := k.waits j hj ((congrArg Switch.state h1).trans hs) h2
    exact ⟨k1.trans h1, k2⟩
  joined := fun j hj => k.joined j (h.joined j hj)

theorem Closes.mono (h : Closes P s t) (hP : ∀ j, Q j → P j) : Closes Q s t :=
  { h with waits := fun j hj => h.waits j (hP j hj) }

/-! ### A grant -/

/-- A string whose relay shows closed does not come to wait for its close (R89, R97). -/
theorem State.goesOn_ne_pendingClose {i : StringId} (hf : s.feedback i = true) (hs : s.switchState i ≠ .pendingClose) :
    (s.goesOn i).switchState i ≠ .pendingClose := by
  unfold State.goesOn
  split
  · next h => exact absurd h hs
  · simp only []
    rw [State.feedback_enter, if_pos hf, State.switchState_enter, if_pos rfl]
    decide
  · rw [State.switchState, State.setTimer, State.sw_modSwitch, if_pos rfl]
    exact hs
  · split
    · next r hr =>
      simp only []
      split
      · next hm =>
        have shown : r.step.mark.shown true = true := hf ▸ hm
        cases hstep : r.step with
        | firstOpen => rw [hstep] at shown; cases shown
        | secondOpen => rw [hstep] at shown; cases shown
        | close =>
          simp only [State.retestPassesQ, State.retestStepQ, State.switchState_joinQueue]
          exact hs
      · exact hs
    · exact hs
  · exact hs

/-- The grant of a string that waits to close (R81). -/
theorem State.goesOn_pendingClose {i : StringId} (hf : s.feedback i = false) (hs : s.switchState i = .pendingClose) :
    (s.goesOn i).switchState i = .relayClosing := by
  unfold State.goesOn
  simp only [hs, State.feedback_enter, hf, Bool.false_eq_true, if_false, State.switchState_enter, if_true]

theorem State.goesOn_relayClosing {i : StringId} (hs : s.switchState i = .relayClosing) : s.goesOn i = s := by
  unfold State.goesOn
  simp only [hs]

/-- A grant while no string that waits to close shows closed. -/
theorem Closes.grant {e : CoilEntry} (he : e ∈ s.sseq.queue) (hg : s.grantable e = true) (ho : s.ClosingOpen) :
    Closes P s (s.grant e) := by
  obtain ⟨q, p, eq, -⟩ := s.pulseStarts_eq e
  have hq : ∀ j, j ≠ e.string → (s.pulseStarts e).queued j = s.queued j := fun j hj => queued_filter _ hj
  rw [State.grant_eq]
  generalize s.pulseStarts e = v at eq hq ⊢
  have hsw : ∀ j, v.sw j = s.sw j := fun j => by rw [eq]; rfl
  have hfb : ∀ j, v.feedback j = s.feedback j := fun j => by rw [eq]; rfl
  have hv : v.ClosingOpen := fun j hj => (hfb j).trans (ho j ((congrArg Switch.state (hsw j)).symm.trans hj))
  have noRamp : ¬(v.switchState e.string = .pendingClose ∧ v.feedback e.string = true) := fun h => by
    rw [hv _ h.1] at h
    cases h.2
  have k := Acts.goesOn (i := e.string) (t := v) fun hf => by
    rw [eq] at hf ⊢
    exact State.underRetest_of_grantable hg hf
  have other : ∀ j, j ≠ e.string → (v.goesOn e.string).sw j = s.sw j ∧ (v.goesOn e.string).queued j = s.queued j :=
    fun j hj => by
      obtain ⟨h1, h2⟩ := k.other j hj fun h => absurd h noRamp
      exact ⟨h1.trans (hsw j), h2.trans (hq j hj)⟩
  refine ⟨(k.arcd noRamp).trans (by rw [eq]), fun j hj => ?_, fun j _ _ hn => ?_, fun j hj => ?_⟩
  · rw [k.feedback_eq]
    by_cases hi : j = e.string
    · subst hi
      by_contra hb
      refine State.goesOn_ne_pendingClose (eq_true_of_ne_false hb) (fun h => hb (hv _ h)) hj
    · exact (hfb j).trans (ho j ((congrArg Switch.state (other j hi).1).symm.trans hj))
  · have hi : j ≠ e.string := fun h => by
      have : s.queued e.string = true := List.any_eq_true.2 ⟨e, he, beq_self_eq_true _⟩
      rw [← h, hn] at this
      cases this
    exact ⟨(other j hi).1, (other j hi).2.trans hn⟩
  · by_cases hi : j = e.string
    · subst hi
      refine .inr ?_
      rcases hj with ⟨hs, -⟩ | hs
      · have hs : v.switchState e.string = .pendingClose := (congrArg Switch.state (hsw _)).trans hs
        exact State.goesOn_pendingClose (hv _ hs) hs
      · have hs : v.switchState e.string = .relayClosing := (congrArg Switch.state (hsw _)).trans hs
        rw [State.goesOn_relayClosing hs]
        exact hs
    · rwa [State.Joined, State.switchState, (other j hi).1, (other j hi).2]

theorem Closes.grants (n : Nat) (ho : s.ClosingOpen) : Closes P s (State.grants n s) := by
  induction n generalizing s with
  | zero => exact Closes.refl P ho
  | succ n ih =>
    unfold State.grants
    split
    · split
      · next e he =>
        obtain ⟨hm, hg⟩ := s.nextGrant_mem e he
        have k := Closes.grant (P := P) hm hg ho
        exact k.trans (ih k.closing)
      · exact Closes.refl P ho
    · exact Closes.refl P ho

theorem Closes.arbiter (ho : s.ClosingOpen) : Closes P s s.arbiter := Closes.grants _ ho

/-! ### The tests of a completion (R79, R80) -/

/-- A test leaves its string where it is. -/
theorem State.switchState_testAndJoinQ (i j : StringId) (s : State) :
    (s.testAndJoinQ i).switchState j = s.switchState j := by
  have made : (s.modSwitch i fun w => { w with lastTest := s.qualTest i }).switchState j = s.switchState j := by
    rw [State.switchState, State.sw_modSwitch]
    split
    · next e => rw [e]; rfl
    · rfl
  unfold State.testAndJoinQ State.joinIfReadyQ
  split
  · split
    · rw [State.switchState_joinQueue, made]
    · exact made
  · rfl

theorem Closes.testAndJoinQ (i : StringId) (ho : s.ClosingOpen) : Closes (· ≠ i) s (s.testAndJoinQ i) := by
  have k := (Acts.refl i False s).testAndJoinQ
  have state := s.switchState_testAndJoinQ i
  refine ⟨k.arcd id, fun j hj => (k.feedback_eq j).trans (ho j ((state j).symm.trans hj)), fun j hj _ hn => ?_,
    fun j hj => ?_⟩
  · obtain ⟨h1, h2⟩ := k.other j hj False.elim
    exact ⟨h1, h2.trans hn⟩
  · by_cases hi : j = i
    · subst hi
      have same : s.queued j = true → (s.testAndJoinQ j).queued j = true := fun h => by
        rw [State.testAndJoinQ, if_neg (by simp [h])]
        exact h
      rw [State.Joined, state]
      exact hj.imp_left fun ⟨h1, h2⟩ => ⟨h1, same h2⟩
    · rwa [State.Joined, state, (k.other j hi False.elim).2]

theorem Closes.qualifyOne (i : StringId) (ho : s.ClosingOpen) : Closes (· ≠ i) s (s.qualifyOne i) := by
  unfold State.qualifyOne
  split
  · have k := Closes.testAndJoinQ i ho
    exact k.trans (Closes.arbiter k.closing)
  · exact Closes.refl _ ho

theorem Closes.forStrings (xs : List StringId) (ho : s.ClosingOpen) :
    Closes (· ∉ xs) s (Machine.forStrings State.qualifyOne xs s) := by
  induction xs generalizing s with
  | nil => exact Closes.refl _ ho
  | cons i xs ih =>
    have k := Closes.qualifyOne i ho
    exact (k.mono fun j hj e => hj (e ▸ List.mem_cons_self)).trans
      ((ih k.closing).mono fun j hj m => hj (List.mem_cons_of_mem i m))

theorem forStrings_append (f : StringId → State → State) (xs ys : List StringId) (s : State) :
    forStrings f (xs ++ ys) s = forStrings f ys (forStrings f xs s) := by
  induction xs generalizing s with
  | nil => rfl
  | cons i xs ih => exact ih (f i s)

/-! ### One string's test -/

/-- A string that waits to close joins the queue where its dwell has passed and its test with it, and else keeps the
test's result (R79, R80). -/
def State.Tested (t : State) (i : StringId) (ripe : Bool) (q : QualTest) : Prop :=
  if ripe = true ∧ q.isPassed = true then t.Joined i
  else t.queued i = false ∧ t.switchState i = .pendingClose ∧ (t.sw i).lastTest = q

theorem State.tested_testAndJoinQ {i : StringId} (hs : s.switchState i = .pendingClose) (hq : s.queued i = false) :
    (s.testAndJoinQ i).Tested i (s.dwellOver i) (s.qualTest i) := by
  have hsw : (s.modSwitch i fun w => { w with lastTest := s.qualTest i }).sw i =
      { s.sw i with lastTest := s.qualTest i } := (s.sw_modSwitch i i _).trans (if_pos rfl)
  have hst : (s.modSwitch i fun w => { w with lastTest := s.qualTest i }).switchState i = .pendingClose :=
    (congrArg Switch.state hsw).trans hs
  have hd : (s.modSwitch i fun w => { w with lastTest := s.qualTest i }).dwellOver i = s.dwellOver i := by
    unfold State.dwellOver
    rw [hsw]
    rfl
  have hn : (s.modSwitch i fun w => { w with lastTest := s.qualTest i }).queued i = false := hq
  rw [State.testAndJoinQ, if_pos ⟨hs, hq⟩, State.joinIfReadyQ, State.Tested, hst, hd, hsw]
  generalize s.modSwitch i (fun w => { w with lastTest := s.qualTest i }) = v at hsw hst hn ⊢
  by_cases h : s.dwellOver i = true ∧ (s.qualTest i).isPassed = true
  · rw [if_pos h, if_pos ⟨rfl, h⟩]
    refine .inl ⟨(State.switchState_joinQueue ..).trans hst, ?_⟩
    unfold State.joinQueue
    rw [hn]
    simp [State.queued]
  · rw [if_neg h, if_neg fun x => h x.2]
    exact ⟨hn, hst, by rw [hsw]⟩

/-- What a test has come to outlasts the turns of the others. -/
theorem State.Tested.closes {i : StringId} {ripe : Bool} {q : QualTest} (h : s.Tested i ripe q) (k : Closes P s t)
    (hi : P i) : t.Tested i ripe q := by
  unfold State.Tested at h ⊢
  split at h
  · next hc =>
    rw [if_pos hc]
    exact k.joined i h
  · next hc =>
    rw [if_neg hc]
    obtain ⟨h1, h2, h3⟩ := h
    obtain ⟨k1, k2⟩ := k.waits i hi h2 h1
    exact ⟨k2, (congrArg Switch.state k1).trans h2, (congrArg Switch.lastTest k1).trans h3⟩

/-- Each string that waits to close has its one test in the tests of a completion. -/
theorem State.tested_qualifyAll {i : StringId} (ho : s.ClosingOpen) (hs : s.switchState i = .pendingClose)
    (hq : s.queued i = false) : s.qualifyAll.Tested i (s.dwellOver i) (s.qualTest i) := by
  obtain ⟨xs, ys, e⟩ := List.append_of_mem (List.contains_iff_mem.1 (mem_allStrings i))
  have nodup : (xs ++ i :: ys).Nodup := e ▸ (by decide : allStrings.Nodup)
  have hx : i ∉ xs := fun m => (List.nodup_append.1 nodup).2.2 i m i List.mem_cons_self rfl
  have hy : i ∉ ys := (List.nodup_cons.1 (List.nodup_append.1 nodup).2.1).1
  have k1 := Closes.forStrings xs ho
  have same : Still s (Machine.forStrings State.qualifyOne xs s) := (Moves.forStrings Moves.qualifyOne xs s).still
  rw [State.qualifyAll_eq, e, forStrings_append]
  generalize Machine.forStrings State.qualifyOne xs s = v at k1 same ⊢
  obtain ⟨h1, h2⟩ := k1.waits i hx hs hq
  have hs' : v.switchState i = .pendingClose := (congrArg Switch.state h1).trans hs
  have turn := State.tested_testAndJoinQ hs' h2
  have ripe : v.dwellOver i = s.dwellOver i := by
    unfold State.dwellOver
    rw [h1, same.now]
  have test : v.qualTest i = s.qualTest i := by
    unfold State.qualTest
    rw [same.samples, State.cfgNat, State.cfg, same.settings]
    rfl
  have k2 := Closes.testAndJoinQ i k1.closing
  have k3 := Closes.arbiter (P := fun _ => True) k2.closing
  have k4 := Closes.forStrings ys k3.closing
  rw [ripe, test] at turn
  change (Machine.forStrings State.qualifyOne ys (v.qualifyOne i)).Tested _ _ _
  rw [State.qualifyOne, if_pos hs']
  exact (turn.closes k3 trivial).closes k4 hy

end Sys2Proof.Machine
end

section
/-! SUPPORT. The statement on a scan completion. -/

namespace Sys2Proof.Machine

variable {s t : State} {raw : RawScan}

/-! ### Daylight (R10 to R12) -/

/-- What the daylight tests on a bus voltage at a time make of the front end's state (R10, R11). -/
def DaylightFollows (m n : Mfe) (bus wake : Nat) (time : Uptime) : Prop :=
  if m.daylight = .night then
    if bus < wake then n.daylight = .night ∧ n.wakeCount = 0
    else if m.wakeCount < 9 then n.daylight = .night ∧ n.wakeCount = m.wakeCount + 1
    else n.daylight = .day ∧ n.wakeCount = 0 ∧ n.darkRun = none
  else
    if wake / 2 ≤ bus then n.daylight = .day ∧ n.darkRun = none
    else if m.darkRun = none then n.daylight = .day ∧ n.darkRun = some time
    else if ∀ d ∈ m.darkRun, 6000 ≤ (time - d).toNat then n.daylight = .night ∧ n.darkRun = none
    else n.daylight = .day ∧ n.darkRun = m.darkRun

theorem Mfe.daylightTest_follows (m : Mfe) (bus wake : Nat) (time : Uptime) :
    DaylightFollows m (m.daylightTest bus wake time) bus wake time := by
  unfold DaylightFollows Mfe.daylightTest
  cases hd : m.daylight with
  | night =>
    rw [if_pos rfl]
    by_cases hw : bus < wake
    · simp only [if_pos hw, if_neg (Nat.not_le.2 hw), and_self]
    · simp only [if_neg hw, if_pos (Nat.not_lt.1 hw)]
      by_cases hc : m.wakeCount < 9
      · rw [if_pos hc, if_neg (show ¬wakeScans ≤ m.wakeCount + 1 by unfold wakeScans; omega)]
        exact ⟨rfl, rfl⟩
      · rw [if_neg hc, if_pos (show wakeScans ≤ m.wakeCount + 1 by unfold wakeScans; omega)]
        exact ⟨rfl, rfl, rfl⟩
  | day =>
    rw [if_neg (by decide)]
    by_cases hw : wake / 2 ≤ bus
    · simp only [if_pos hw, if_neg (Nat.not_lt.2 hw), and_self]
    · simp only [if_neg hw, if_pos (Nat.not_le.1 hw)]
      cases hr : m.darkRun with
      | none =>
        rw [if_pos rfl]
        exact ⟨rfl, rfl⟩
      | some d =>
        simp only [reduceCtorEq, if_false, Option.mem_some_iff, forall_eq']
        by_cases ht : 6000 ≤ (time - d).toNat
        · rw [if_pos (show darkTime ≤ _ from ht), if_pos ht]
          exact ⟨rfl, rfl⟩
        · rw [if_neg (show ¬darkTime ≤ _ from ht), if_neg ht]
          exact ⟨hd, hr⟩

/-- The front end's state after the daylight tests of a completion. -/
def State.dawn (raw : RawScan) (s : State) : Mfe :=
  s.mfe.daylightTest (s.convert raw).bus (s.cfgNat .vWake) s.uptime

theorem State.daylightStep_mfe (raw : RawScan) (s : State) :
    (s.daylightStep (s.convert raw).bus).mfe = s.dawn raw := by
  unfold State.daylightStep
  simp only []
  split
  · rfl
  · obtain ⟨g, e⟩ := State.emitAt_eq s.uptime .daylight none (s.convert raw).bus (s.dawn raw).daylight.code
      (s.modMfe fun m => m.daylightTest (s.convert raw).bus (s.cfgNat .vWake) s.uptime)
    exact congrArg State.mfe e

/-- The daylight step changes the front end's state and the rings alone. -/
theorem State.daylightStep_dawn (raw : RawScan) (s : State) : ∃ g, s.daylightStep (s.convert raw).bus =
    { s with mfe := s.dawn raw, evr := { s.evr with ring := g } } := by
  obtain ⟨d, w, r, g, e⟩ := s.daylightStep_eq (s.convert raw).bus
  have h := s.daylightStep_mfe raw
  rw [e] at h
  exact ⟨g, by rw [e, ← h]⟩

/-- A changed daylight state has its event (R12). -/
theorem State.daylightStep_event (h : (s.dawn raw).daylight ≠ s.mfe.daylight) :
    Lately (s.daylightStep (s.convert raw).bus)
      (s.eventNow .daylight none (s.convert raw).bus (if (s.dawn raw).daylight = .day then 1 else 0)) 1 := by
  have code : (if (s.dawn raw).daylight = .day then (1 : Int) else 0) = ((s.dawn raw).daylight.code : Nat) := by
    cases (s.dawn raw).daylight <;> rfl
  have e : s.daylightStep (s.convert raw).bus = (s.modMfe fun _ => s.dawn raw).emitAt s.uptime .daylight none
      (s.convert raw).bus (s.dawn raw).daylight.code := if_neg h
  rw [e, code]
  exact Lately.route _ rfl _

/-! ### A completion beyond the switching of strings -/

/-- The state that a completion comes to, beyond the switching of strings (R1 to R3). -/
def State.beyondScan (raw : RawScan) (s : State) : State :=
  { s with
    mfe := { s.dawn raw with samples := some (s.convert raw), scanStart := s.now
                             scanLength := if (s.dawn raw).daylight = .day then s.cfgNat .tScan else 1000 }
    handed := (s.scanned raw).handed
    settings := (s.captured raw).settings
    arcd := { s.arcd with latest := some (raw.arcIndex, s.arcd.intervalBlank) } }

theorem State.scanned_beyond (raw : RawScan) (s : State) :
    (s.scanned raw).beyondSwitching = (s.beyondScan raw).beyondSwitching := by
  obtain ⟨g, ed⟩ := s.daylightStep_dawn raw
  obtain ⟨c, f, q, p, ec⟩ := State.captureStep_eq raw (s.convert raw) (s.daylightStep (s.convert raw).bus)
  have e : s.captured raw = { s with
      mfe := { s.dawn raw with capture := c }, evr := { s.evr with ring := g }
      settings := { s.settings with strings := f }, cfs := { s.cfs with queue := q }
      ports := { s.ports with port := p } } := by rw [State.captured, ec, ed]
  have length : (match (s.dawn raw).daylight with | .day => s.cfgNat .tScan | .night => 1000) =
      if (s.dawn raw).daylight = .day then s.cfgNat .tScan else 1000 := by
    cases (s.dawn raw).daylight <;> rfl
  unfold State.beyondScan
  rw [← length]
  unfold State.scanned
  rw [e]
  rfl

theorem State.qualifyAll_beyond (s : State) : s.qualifyAll.beyondSwitching = s.beyondSwitching := by
  have test (i : StringId) (u : State) : (u.testAndJoinQ i).beyondSwitching = u.beyondSwitching := by
    unfold State.testAndJoinQ
    split
    · rw [State.joinIfReadyQ_beyond, State.modSwitch_beyond]
    · rfl
  refine forStrings_keeps State.beyondSwitching State.qualifyOne (fun i u => ?_) allStrings s
  unfold State.qualifyOne
  split
  · rw [State.arbiter_beyond, test]
  · rfl

theorem State.completeScan_beyond (raw : RawScan) (hg : s.gsu.state = .idle) :
    (s.completeScan raw).finish.beyondSwitching = (s.beyondScan raw).beyondSwitching := by
  have h : (s.completeScan raw).beyondSwitching = (s.beyondScan raw).beyondSwitching := by
    rw [State.completeScan_eq, State.qualifyAll_beyond, State.scanned_beyond]
  have idle : (s.completeScan raw).gsu.state = .idle := (State.gsu_of_beyond h).trans hg
  exact (State.finish_beyond idle).trans h

/-- The next interval and the record's takers are nothing to what the tests go by. -/
theorem State.handsOver_stands (raw : RawScan) (v : Samples) (r : ScanRecord) (s : State) :
    (s.handsOver raw v r).gsu = s.gsu ∧ (s.handsOver raw v r).stab = s.stab ∧ (s.handsOver raw v r).sseq = s.sseq ∧
    (s.handsOver raw v r).now = s.now ∧ (s.handsOver raw v r).arcd = s.arcd.nextInterval raw.arcIndex ∧
    (s.handsOver raw v r).settings = s.settings := ⟨rfl, rfl, rfl, rfl, rfl, rfl⟩

/-- What a completion leaves, before its tests, of what they go by. -/
theorem State.scanned_stands (raw : RawScan) (s : State) :
    (s.scanned raw).gsu = s.gsu ∧ (s.scanned raw).stab = s.stab ∧ (s.scanned raw).sseq = s.sseq ∧
    (s.scanned raw).now = s.now ∧ (s.scanned raw).arcd = s.arcd.nextInterval raw.arcIndex ∧
    (s.scanned raw).settings.values = s.settings.values := by
  obtain ⟨h1, h2, h3, h4, h5, h6⟩ := State.handsOver_stands raw (s.convert raw) (s.recordOf raw) (s.captured raw)
  obtain ⟨d, w, r, g, c, f, q, p, e⟩ := s.captured_eq raw
  rw [State.scanned, h1, h2, h3, h4, h5, h6, e]
  exact ⟨rfl, rfl, rfl, rfl, rfl, rfl⟩

theorem State.scanned_idle (raw : RawScan) (hg : s.gsu.state = .idle) : (s.scanned raw).gsu.state = .idle := by
  rw [(s.scanned_stands raw).1, hg]

/-- The rings keep a changed daylight state's event through the rest of the completion. -/
theorem State.completeScan_noted (hg : s.gsu.state = .idle) (h : (s.dawn raw).daylight ≠ s.mfe.daylight) :
    Noted (s.completeScan raw).finish
      (s.eventNow .daylight none (s.convert raw).bus (if (s.dawn raw).daylight = .day then 1 else 0)) := by
  have k := State.daylightStep_event h
  obtain ⟨c, f, q, p, e⟩ := State.captureStep_eq raw (s.convert raw) (s.daylightStep (s.convert raw).bus)
  have capture := k.congr (t := s.captured raw) (by rw [State.captured, e]) (by rw [State.captured, e])
  have scan := capture.congr (t := s.scanned raw) rfl rfl
  have m := Moves.qualifyAll (s.scanned raw)
  obtain ⟨g, hp, hl, n, hn, hs⟩ := m.pays
  have ha := (s.scanned raw).setAllowance_le
  have pulses : g ≤ 2 := by
    unfold pulseLimit at hl
    omega
  have few : n ≤ 5 := by omega
  have room : 1 + n + 2 ≤ ringSize := by unfold ringSize; omega
  rw [State.completeScan_eq]
  exact (hs _ 1 (by omega) scan).finish (m.search.trans (State.scanned_idle raw hg)) room

/-- A completion leaves the string records alone, but for a retest that passes on the way (R97). -/
theorem State.completeScan_records (raw : RawScan) (hg : s.gsu.state = .idle) :
    Records s (s.completeScan raw).finish s.str := by
  have m := Moves.qualifyAll (s.scanned raw)
  have idle := State.scanned_idle raw hg
  obtain ⟨-, stab⟩ := State.finish_stands (m.search.trans idle)
  obtain ⟨-, stab', seq, -⟩ := s.scanned_stands raw
  have r := m.records idle
  intro i
  have same : (s.scanned raw).str i = s.str i := congrArg (fun x : Stab => x.strings[i]) stab'
  have retest : (s.scanned raw).underRetest i = s.underRetest i := by rw [State.underRetest, seq, State.underRetest]
  have last : (s.completeScan raw).finish.str i = (s.scanned raw).qualifyAll.str i :=
    congrArg (fun x : Stab => x.strings[i]) stab
  have here := r i
  rwa [same, retest, ← last] at here

/-- Without a capture a completion leaves the settings alone (R15). -/
theorem State.completeScan_settings (raw : RawScan) (hg : s.gsu.state = .idle) (hc : s.mfe.capture = none) :
    (s.completeScan raw).finish.settings = s.settings := by
  obtain ⟨d, w, r, g, e⟩ := s.daylightStep_eq (s.convert raw).bus
  refine (State.completed_captured raw hg).settings.trans ?_
  rw [State.captured, e]
  simp only [State.captureStep, hc]

/-! ### Strings that wait to close -/

/-- The end of a step leaves the arc detector alone, while no ground search is under way. -/
theorem State.finish_arcd (h : s.gsu.state = .idle) : s.finish.arcd = s.arcd := by
  obtain ⟨a, g, c, p, e⟩ := s.takeReports_eq
  obtain ⟨w, k⟩ := State.beginWrite_eq (s.takeReports.modGsu fun g => { g with left := [] })
  rw [s.finish_idle h, k, e]
  rfl

/-- What a completion makes of the arc detector and of a string that waits to close, while the relays that should be
open are (R79, R80, R146). -/
theorem State.completeScan_closes (raw : RawScan) (hg : s.gsu.state = .idle) (ho : s.relaysOpen) :
    (s.completeScan raw).finish.arcd = s.arcd.nextInterval raw.arcIndex ∧
    ∀ i, s.switchState i = .pendingClose → s.queued i = false →
      (s.completeScan raw).finish.Tested i (s.dwellOver i) ((s.scanned raw).qualTest i) := by
  obtain ⟨-, -, seq, now, arcd, -⟩ := s.scanned_stands raw
  have idle := State.scanned_idle raw hg
  have m := Moves.qualifyAll (s.scanned raw)
  obtain ⟨sseq, -⟩ := State.finish_stands (m.search.trans idle)
  have closing : (s.scanned raw).ClosingOpen := fun j hj => by
    rw [State.switchState_of_sseq seq] at hj
    rw [State.feedback, seq]
    exact ho.1 j (.inr (.inl hj))
  rw [State.completeScan_eq]
  refine ⟨(State.finish_arcd (m.search.trans idle)).trans ((Closes.forStrings allStrings closing).arcd.trans arcd),
    fun i hs hq => ?_⟩
  have tested := State.tested_qualifyAll (i := i) closing ((State.switchState_of_sseq seq i).trans hs)
    (by rw [State.queued, seq]; exact hq)
  have ripe : (s.scanned raw).dwellOver i = s.dwellOver i := by
    unfold State.dwellOver State.sw
    rw [seq, now]
  rw [ripe] at tested
  rw [State.Tested, State.Joined, State.queued, State.switchState, State.sw, sseq]
  exact tested

/-- The test of a completion on its new samples (R79). -/
theorem State.scanned_qualTest (raw : RawScan) (i : StringId) (s : State) : (s.scanned raw).qualTest i =
    .made (decide ((s.convert raw).bus < 500) || decide ((s.convert raw).bus * s.cfgNat .kQual / 1000 ≤
      ((s.convert raw).channels[i]).sideVoltage)) ((s.convert raw).channels[i]).sideVoltage (s.convert raw).bus := by
  obtain ⟨-, -, -, -, -, values⟩ := s.scanned_stands raw
  have k : (s.scanned raw).cfgNat .kQual = s.cfgNat .kQual := by
    unfold State.cfgNat State.cfg
    rw [values]
  unfold State.qualTest
  rw [State.scanned_samples, k]

/-! ### The statement -/

/-- The front end's state but for a capture is beyond the switching of strings. -/
theorem State.frontEnd_of_beyond (h : t.beyondSwitching = s.beyondSwitching) :
    t.mfe = { s.mfe with capture := t.mfe.capture } :=
  congrArg (fun x : State => { x.mfe with capture := t.mfe.capture }) h

theorem State.recordOf_daylight (raw : RawScan) (s : State) : (s.recordOf raw).completion = s.uptime ∧
    (s.recordOf raw).daylight = (s.dawn raw).daylight ∧ (s.recordOf raw).arcBlank = s.arcd.intervalBlank := by
  obtain ⟨g, e⟩ := s.daylightStep_dawn raw
  unfold State.recordOf
  rw [e]
  exact ⟨rfl, rfl, rfl⟩

theorem State.arcd_of_beyond (h : t.beyondSwitching = s.beyondSwitching) :
    t.arcd.latest = s.arcd.latest ∧ t.arcd.window = s.arcd.window :=
  ⟨congrArg (fun x => x.arcd.latest) h, congrArg (fun x => x.arcd.window) h⟩

theorem QualTest.isPassed_made (q : Bool) (side bus : Nat) : (QualTest.made q side bus).isPassed = q := by
  cases q <;> rfl

/-- A state with what a completion moves beyond the switching of strings as another has it. -/
def State.besideScan (s a : State) : State :=
  { s with mfe := { a.mfe with capture := none }, handed := a.handed, settings := a.settings
           arcd := { s.arcd with latest := a.arcd.latest } }

/-- Settles O40: what a completion comes to beyond the switching of strings, and for the strings that wait to close the
turn of each in the tests. -/
theorem scanCompletionHandsTheRecordOn : Obligations.ScanCompletionHandsTheRecordOn := by
  intro s raw hp hc ho
  obtain ⟨hg, -, -⟩ := hc
  have beyond := State.completeScan_beyond raw hg
  have noted := State.completeScan_noted (raw := raw) hg
  have records := State.completeScan_records raw hg
  have settings := State.completeScan_settings raw hg
  have handed := (s.completeScan_handed raw).2.trans (s.scanned_handed raw)
  have closes := State.completeScan_closes raw hg
  refine ⟨_, exec_scanCompletion raw hp ho, ?_⟩
  generalize (s.completeScan raw).finish = t at beyond noted records settings handed closes ⊢
  have mfe : t.mfe = { s.dawn raw with
      samples := some (s.convert raw), scanStart := s.now, capture := t.mfe.capture
      scanLength := if (s.dawn raw).daylight = .day then s.cfgNat .tScan else 1000 } :=
    State.frontEnd_of_beyond beyond
  have arcd : t.arcd.latest = some (raw.arcIndex, s.arcd.intervalBlank) ∧ t.arcd.window = s.arcd.window :=
    State.arcd_of_beyond beyond
  have daylight : t.mfe.daylight = (s.dawn raw).daylight := by rw [mfe]
  have stands : (s.dawn raw).fast = s.mfe.fast ∧ (s.dawn raw).below = s.mfe.below := by
    obtain ⟨d, w, r, e⟩ := s.mfe.daylightTest_eq (s.convert raw).bus (s.cfgNat .vWake) s.uptime
    rw [State.dawn, e]
    exact ⟨rfl, rfl⟩
  obtain ⟨completion, day, blank⟩ := s.recordOf_daylight raw
  refine ⟨?_, fun h => ?_, by rw [mfe], by rw [mfe], by rw [daylight, mfe], ?_, arcd.1, arcd.2, by rw [mfe, ← stands.1],
    by rw [mfe, ← stands.2], records, settings, ?_, fun hr => ?_⟩
  · have f := s.mfe.daylightTest_follows (s.convert raw).bus (s.cfgNat .vWake) s.uptime
    rw [mfe]
    exact f
  · rw [daylight] at h ⊢
    exact noted h
  · rw [handed, daylight]
    exact ⟨s.recordOf raw, by simp, rfl, completion, day, s.recordOf_entry raw, rfl, rfl, rfl, blank⟩
  · exact congrArg (fun x : State => x.besideScan s) beyond
  · obtain ⟨arcd, tested⟩ := closes hr
    refine ⟨by rw [arcd]; rfl, by rw [arcd]; rfl, ?_, fun i hs hq => ?_⟩
    · rw [arcd]
      cases hl : s.arcd.ramping <;> simp [Arcd.nextInterval, hl]
    · have h := tested i hs hq
      rw [State.scanned_qualTest, State.Tested, QualTest.isPassed_made] at h
      simp only []
      split
      · next c =>
        rw [if_pos c] at h
        exact h.imp_left fun x => x.2
      · next c =>
        rw [if_neg c] at h
        exact h

end Sys2Proof.Machine
end

section
/-! SUPPORT. The statement on the reset state, block by block: no string conducts, waits or is under retest there. -/

namespace Sys2Proof.Machine

theorem resetSettings_inRange : defaultSettings.inRange :=
  ⟨fun k => by cases k <;> decide, by decide⟩

/-- The records of the String Table, and what they are worked out from, right after reset (R42 to R47, R115). -/
theorem reset_table : State.reset.detailsExact ∧ State.reset.conditionsCover ∧ State.reset.frozenRight ∧
    State.reset.stackRight :=
  ⟨by decide, by decide, by decide, by decide⟩

/-- The switches, relays and coil queue right after reset (R77, R82, R88, R92, R93, R155). -/
theorem reset_sequencer : State.reset.closesOnlyFree ∧ State.reset.relaysClosed ∧ State.reset.relaysOpen ∧
    State.reset.waitsRight ∧ State.reset.entriesRight ∧ State.reset.arraySafeRight ∧ State.reset.curtailRight ∧
    State.reset.coilsRight :=
  ⟨by decide, by decide, by decide, by decide, by decide, by decide, by decide, by decide⟩

/-- The rings, counters and commits right after reset (R19, R173, R178). -/
theorem reset_bounds : State.reset.ringsBounded ∧ State.reset.countersBounded ∧ State.reset.dwellsBounded ∧
    State.reset.commitsRight :=
  ⟨fun p => by cases p <;> decide, by decide, by decide, by decide⟩

/-- The settings of the reset state are the defaults, in force, in both copies and in the image of the write that has
begun (R180). -/
theorem reset_settingsRight : State.reset.settingsRight := by
  refine ⟨resetSettings_inRange, resetSettings_inRange, resetSettings_inRange, fun w hw c hc => ?_⟩
  cases hw
  cases hc
  exact resetSettings_inRange

/-- Settles O6: each block of the reset state meets its invariants. -/
theorem resetMeetsTheInvariants : Obligations.ResetMeetsTheInvariants := by
  obtain ⟨details, conditions, frozen, stack⟩ := reset_table
  obtain ⟨closes, closed, opened, waits, entries, safe, curtail, coils⟩ := reset_sequencer
  obtain ⟨rings, counters, dwells, commits⟩ := reset_bounds
  exact ⟨details, conditions, closes, closed, opened, waits, entries, frozen, safe, curtail, coils, rings, counters,
    dwells, commits, stack, reset_settingsRight⟩

end Sys2Proof.Machine
end

section
/-! SUPPORT. What the reports of a change of switch state write into the blocks' books of strings: evaluator states,
reclose timers, the arc detector's ramps, and the string records (R22, R36, R105, R128, R146). -/

namespace Sys2Proof.Machine

variable {s t : State} {i j : StringId} {old new : SwitchState}

/-- The books that other blocks keep of what the Switch Sequencer reports. -/
structure Books where
  evals : Seval
  timers : Vector RecloseTimers 16
  ramps : Arcd

def State.books (s : State) : Books := { evals := s.seval, timers := s.rcl, ramps := s.arcd }

/-- What the arc detector takes from one change of switch state (R146). -/
def Arcd.told (a : Arcd) (i : StringId) (old new : SwitchState) (now length : Nat) : Arcd :=
  let a := if old = .ramping ∧ new ≠ .ramping then a.rampEnd i now length else a
  let a := if new = .ramping then a.rampStart i else a
  if new = .interrupting then { a with intervalBlank := true } else a

/-- A string's leaving of CLOSED, in the books (R36, R105). -/
def State.leaves (i : StringId) (s : State) : State :=
  (s.modEval i EvalString.leftClosed).modRcl i fun t => { t with stable := none }

theorem State.connectedCheck_books (s : State) : s.connectedCheck.books = s.books := by
  obtain ⟨e, h⟩ := State.connectedCheck_eq s
  rw [h]
  rfl

theorem State.freezeArrival_books (i : StringId) (s : State) : (s.freezeArrival i).books = s.books := by
  obtain ⟨r, h⟩ := State.freezeArrival_eq i s
  rw [h]
  rfl

/-- A change that does not lead to CLOSED, in the books. -/
theorem State.report_books (hn : new ≠ .closed) (s : State) : (s.report i old new).books =
    { (if old = .closed then s.leaves i else s).books with
      ramps := s.arcd.told i old new s.now (s.cfgNat .tBlank) } := by
  have skip (c : Prop) [Decidable c] (t : State) (f : State → State) (hf : (f t).books = t.books) :
      (if c then f t else t).books = t.books := by
    split
    · exact hf
    · rfl
  have note (t : State) : t.noteStates.books = t.books := rfl
  have arcd (c : Prop) [Decidable c] (t : State) (f : Arcd → Arcd) :
      (if c then t.modArcd f else t) = t.modArcd fun a => if c then f a else a := by
    split <;> rfl
  have told (t : State) (a : Arcd) (ha : t = { s with arcd := a }) :
      (if old = .closed then t.reportLeftClosed i else t).books =
        { (if old = .closed then s.leaves i else s).books with ramps := a } := by
    subst ha
    split <;> rfl
  unfold State.report
  simp only [ne_eq, hn, not_false_eq_true, and_true, false_and, if_false]
  rw [note, skip _ _ State.connectedCheck (State.connectedCheck_books _),
    skip _ _ (State.freezeArrival i) (State.freezeArrival_books i _), skip _ _ (State.modTsc _) rfl]
  simp only [arcd]
  exact told _ _ rfl

/-- A string's entry into a state other than CLOSED, in the books. -/
theorem State.enter_books (hn : new ≠ .closed) (i : StringId) (timer : Option Nat) (s : State) :
    (s.enter i new timer).books = { (if s.switchState i = .closed then s.leaves i else s).books with
      ramps := s.arcd.told i (s.switchState i) new s.now (s.cfgNat .tBlank) } := by
  refine (State.report_books hn _).trans ?_
  split <;> rfl

/-- A present string that arrives in OPEN may gain SEARCH, and no other record changes (R128). -/
theorem State.str_freezeArrival (i j : StringId) (s : State) : (s.freezeArrival i).str j = s.str j ∨
    (j = i ∧ s.present i = true ∧ (s.freezeArrival i).str j = (s.str j).put .search) := by
  unfold State.freezeArrival
  split
  · next hc =>
    simp only [Bool.and_eq_true] at hc
    rw [State.str_modString]
    by_cases hj : j = i
    · exact .inr ⟨hj, hc.1.1.2, by rw [if_pos hj, hj]⟩
    · exact .inl (if_neg hj)
  · exact .inl rfl

/-- A record after a string's entry into a state: where that is OPEN, its own may gain SEARCH (R128). -/
theorem State.str_enter (i j : StringId) (new : SwitchState) (timer : Option Nat) (s : State) :
    (s.enter i new timer).str j = s.str j ∨
    (new = .opened ∧ j = i ∧ s.present i = true ∧ (s.enter i new timer).str j = (s.str j).put .search) := by
  obtain ⟨a, e, r, c, l, v, h⟩ := State.report_eq i (s.switchState i) new
    ((s.modSwitch i fun w => { w with state := new, timer := timer }).modSseq fun q =>
      { q with curtail := allStrings.any fun j => decide ((q.switches[j]).state = .curtailWait) })
  have stab : (s.enter i new timer).stab = _ := congrArg State.stab h
  have frozen := State.str_freezeArrival i j
    ((s.modSwitch i fun w => { w with state := new, timer := timer }).modSseq fun q =>
      { q with curtail := allStrings.any fun j => decide ((q.switches[j]).state = .curtailWait) })
  rw [State.str, stab]
  by_cases ho : new = .opened
  · simp only [if_pos ho]
    exact frozen.imp id fun x => ⟨ho, x⟩
  · simp only [if_neg ho]
    exact .inl rfl

end Sys2Proof.Machine
end

section
/-! SUPPORT. What the Coil Arbiter's work can do to the part, one deed at a time, and that each operation of the
sequencer which the arbiter or a changed target sets going is a run of such deeds (R76 to R99). -/

namespace Sys2Proof.Machine

variable {R : Prop} {T : StringId → Prop} {s t u : State} {i : StringId}

/-! ### Deeds -/

/-- The states that the work may take a string to. The targets of the strings of `T` have turned OPEN (R84 to R86). -/
inductive Leads (T : StringId → Prop) (s : State) (i : StringId) : SwitchState → Prop
  | granted (h : s.switchState i = .pendingClose) : Leads T s i .relayClosing
  | closed (h : s.switchState i = .relayClosing) (hf : s.feedback i = true) : Leads T s i .rampWait
  | back (h : s.switchState i = .relayClosing) (hf : s.feedback i = true) : Leads T s i .pendingOpen
  | curtailed (h : s.switchState i = .pendingOpen) (hb : s.below i = false) : Leads T s i .curtailWait
  | pulsed (h : s.switchState i = .pendingOpen) : Leads T s i .relayOpening
  | arrived (h : s.switchState i = .relayOpening) (hf : s.feedback i = false) : Leads T s i .opened
  | passed (h : s.switchState i = .faulted) (hf : s.feedback i = false) : Leads T s i .opened
  | wanted (h : s.switchState i = .opened) (ht : s.target i = true) : Leads T s i .pendingClose
  | turned (h : s.switchState i = .pendingClose) (hT : T i) : Leads T s i .opened
  | unlisted (h : s.switchState i = .rampWait) (hT : T i) : Leads T s i .pendingOpen
  | interrupted (h : s.switchState i = .ramping ∨ s.switchState i = .closed) (hT : T i) : Leads T s i .interrupting
  | fallen (h : s.switchState i = .interrupting) (hT : T i) (hb : s.below i = true) : Leads T s i .pendingOpen

/-- The states in which the work may set a string's timers and tests. -/
def workingStates : List SwitchState := [.absent, .pendingClose, .pendingOpen, .relayOpening, .faulted]

/-- One deed of the work. Ramps start only where `R` allows it. -/
inductive Deed (R : Prop) (T : StringId → Prop) (s : State) : State → Prop
  | enter {i : StringId} {new : SwitchState} (h : Leads T s i new) (timer : Option Nat) : Deed R T s (s.enter i new timer)
  | modSwitch {i : StringId} (hs : s.switchState i ∈ workingStates) (f : Switch → Switch)
      (h : ∀ w, (f w).state = w.state ∧ (f w).drive = w.drive) : Deed R T s (s.modSwitch i f)
  | off {i : StringId} (h : T i) : Deed R T s (s.drive i .off)
  | modSseq (f : Sseq → Sseq) (h : (f s.sseq).switches = s.sseq.switches ∧ (f s.sseq).feedback = s.sseq.feedback)
      (hr : (f s.sseq).slot = s.sseq.slot ∧ (f s.sseq).rampList = s.sseq.rampList)
      (hu : ∀ j, (s.modSseq f).underRetest j = true → s.underRetest j = true) : Deed R T s (s.modSseq f)
  | leaveRampList {i : StringId} (h : T i) : Deed R T s (s.leaveRampList i)
  | joinRampList {i : StringId} (hr : R) (h : s.switchState i = .rampWait) :
      Deed R T s (s.modSseq fun q => { q with rampList := q.rampList ++ [i] })
  | startRamp {i : StringId} (hr : R) (h : i ∈ s.sseq.rampList) : Deed R T s (s.startRamp i)
  | emit (k : EventKind) (x : Option StringId) (a b : Int) : Deed R T s (s.emit k x a b)
  | takeReports : Deed R T s s.takeReports
  | setRetestMark (i : StringId) (b : Bool) : Deed R T s (s.setRetestMark i b)
  | takeSwitch {i : StringId} (h : s.underRetest i = true) : Deed R T s (s.takeHold .switch i)
  | deferRetest {code : Byte} (ho : (s.port .m).outstanding = some ⟨code, .retest⟩) :
      Deed R T s ((s.startWait .m code (.commit .done [])).askCommit .holds [.m])
  | putHold {i : StringId} (hT : T i) (h : Hold) (hk : h.kind ≠ .switch) : Deed R T s (s.putHold h i)

/-- A run of deeds. -/
def Deeds (R : Prop) (T : StringId → Prop) : State → State → Prop := Relation.ReflTransGen (Deed R T)

theorem Deeds.refl (s : State) : Deeds R T s s := Relation.ReflTransGen.refl

theorem Deeds.trans (h : Deeds R T s t) (k : Deeds R T t u) : Deeds R T s u := Relation.ReflTransGen.trans h k

theorem Deeds.deed (h : Deeds R T s t) (k : Deed R T t u) : Deeds R T s u := Relation.ReflTransGen.tail h k

theorem Deeds.ite {c : Prop} [Decidable c] {a b : State} (ha : Deeds R T s a) (hb : Deeds R T s b) :
    Deeds R T s (if c then a else b) := by
  split
  · exact ha
  · exact hb

/-- What each deed keeps, a run keeps. -/
theorem Deeds.keeps {P : State → Prop} (h : Deeds R T s t) (hP : ∀ {s t}, Deed R T s t → P s → P t) (hs : P s) : P t := by
  induction h with
  | refl => exact hs
  | tail _ d ih => exact hP d ih

/-- More may be allowed. -/
theorem Deed.mono {R' : Prop} {T' : StringId → Prop} (hR : R → R') (hT : ∀ j, T j → T' j) (h : Deed R T s t) :
    Deed R' T' s t := by
  cases h with
  | enter h timer =>
    refine .enter ?_ timer
    cases h with
    | granted h => exact .granted h
    | closed h hf => exact .closed h hf
    | back h hf => exact .back h hf
    | curtailed h hb => exact .curtailed h hb
    | pulsed h => exact .pulsed h
    | arrived h hf => exact .arrived h hf
    | passed h hf => exact .passed h hf
    | wanted h ht => exact .wanted h ht
    | turned h hi => exact .turned h (hT _ hi)
    | unlisted h hi => exact .unlisted h (hT _ hi)
    | interrupted h hi => exact .interrupted h (hT _ hi)
    | fallen h hi hb => exact .fallen h (hT _ hi) hb
  | modSwitch hs f h => exact .modSwitch hs f h
  | off h => exact .off (hT _ h)
  | modSseq f h hr hu => exact .modSseq f h hr hu
  | leaveRampList h => exact .leaveRampList (hT _ h)
  | joinRampList hr h => exact .joinRampList (hR hr) h
  | startRamp hr h => exact .startRamp (hR hr) h
  | emit k x a b => exact .emit k x a b
  | takeReports => exact .takeReports
  | setRetestMark i b => exact .setRetestMark i b
  | takeSwitch h => exact .takeSwitch h
  | deferRetest ho => exact .deferRetest ho
  | putHold hi h hk => exact .putHold (hT _ hi) h hk

theorem Deeds.mono {R' : Prop} {T' : StringId → Prop} (hR : R → R') (hT : ∀ j, T j → T' j) (h : Deeds R T s t) :
    Deeds R' T' s t := Relation.ReflTransGen.mono (fun _ _ => Deed.mono hR hT) _ _ h

/-! ### Small operations -/

theorem Deeds.emit (h : Deeds R T s t) (k : EventKind) (x : Option StringId) (a b : Int) :
    Deeds R T s (t.emit k x a b) := h.deed (.emit k x a b)

theorem Deeds.takeReports (h : Deeds R T s t) : Deeds R T s t.takeReports := h.deed .takeReports

theorem Deeds.enter {new : SwitchState} (h : Deeds R T s t) (hl : Leads T t i new) (timer : Option Nat) :
    Deeds R T s (t.enter i new timer) := h.deed (.enter hl timer)

theorem Deeds.joinQueue (h : Deeds R T s t) (i : StringId) (m : Mark) : Deeds R T s (t.joinQueue i m) := by
  unfold State.joinQueue
  exact Deeds.ite h (h.deed (.modSseq _ ⟨rfl, rfl⟩ ⟨rfl, rfl⟩ fun _ hj => hj))

theorem Deeds.leaveQueue (h : Deeds R T s t) (i : StringId) : Deeds R T s (t.leaveQueue i) :=
  h.deed (.modSseq _ ⟨rfl, rfl⟩ ⟨rfl, rfl⟩ fun _ hj => hj)

theorem Deeds.startDwell (h : Deeds R T s t) (hs : t.switchState i = .relayOpening ∨ t.switchState i = .faulted) :
    Deeds R T s (t.startDwell i) :=
  h.deed (.modSwitch (by rcases hs with e | e <;> rw [e] <;> decide) _ fun _ => ⟨rfl, rfl⟩)

theorem Deeds.setTimer (h : Deeds R T s t) (hs : t.switchState i = .absent) (x : Option Nat) :
    Deeds R T s (t.setTimer i x) :=
  h.deed (.modSwitch (by rw [hs]; decide) _ fun _ => ⟨rfl, rfl⟩)

theorem State.below_of_beyond (h : t.beyondSwitching = s.beyondSwitching) (i : StringId) : t.below i = s.below i :=
  congrArg (fun v : Vector Bool 16 => v[i]) (State.mfe_of_beyond h).1

theorem State.feedback_of_beyond (h : t.beyondSwitching = s.beyondSwitching) (i : StringId) :
    t.feedback i = s.feedback i := by
  have same : t.sseq.feedback = s.sseq.feedback := congrArg (fun x => x.sseq.feedback) h
  rw [State.feedback, same]
  rfl

theorem State.feedback_startDwell (i j : StringId) (s : State) : (s.startDwell i).feedback j = s.feedback j := rfl

theorem State.feedback_endRetest (i j : StringId) (s : State) : (s.endRetest i).feedback j = s.feedback j := rfl

/-! ### Opening -/

theorem Deeds.enterCurtailWait (h : Deeds R T s t) (hs : t.switchState i = .pendingOpen) (hb : t.below i = false) :
    Deeds R T s (t.enterCurtailWait i) := by
  unfold State.enterCurtailWait
  have k := h.deed (.modSwitch (by rw [hs]; decide) (fun w => { w with periods := 0 }) fun _ => ⟨rfl, rfl⟩)
  refine (k.enter (.curtailed ?_ hb) _).emit _ _ _ _
  rw [State.switchState, State.sw_modSwitch, if_pos rfl]
  exact hs

theorem Deeds.pendingOpenQ (h : Deeds R T s t) (hl : Leads T t i .pendingOpen) : Deeds R T s (t.pendingOpenQ i) := by
  have k := (h.enter hl none).joinQueue i .toOpen
  unfold State.pendingOpenQ
  simp only []
  split
  · exact k
  · next hb =>
    refine k.enterCurtailWait ?_ (Bool.eq_false_iff.2 hb)
    rw [State.switchState_joinQueue, State.switchState_enter, if_pos rfl]

theorem Deeds.interruptQ (h : Deeds R T s t) (hs : t.switchState i = .ramping ∨ t.switchState i = .closed) (hT : T i) :
    Deeds R T s (t.interruptQ i) := by
  have same : (t.drive i .off).switchState i = t.switchState i := by
    rw [State.switchState, State.drive, State.sw_modSwitch, if_pos rfl]
    rfl
  have k := (h.deed (.off hT)).enter (.interrupted (by rwa [same]) hT)
    (some ((t.drive i .off).after ((t.drive i .off).cfgNat .tInterrupt)))
  unfold State.interruptQ
  simp only []
  split
  · next hb => exact k.pendingOpenQ (.fallen (by rw [State.switchState_enter, if_pos rfl]) hT hb)
  · exact k

/-! ### Closing -/

theorem Deeds.pendingCloseQ (h : Deeds R T s t) (hs : t.switchState i = .opened) (ht : t.target i = true) :
    Deeds R T s (t.pendingCloseQ i) := by
  unfold State.pendingCloseQ
  refine (h.enter (.wanted hs ht) _).deed (.modSwitch ?_ _ fun _ => ⟨rfl, rfl⟩)
  rw [State.switchState_enter, if_pos rfl]
  decide

theorem Deeds.joinIfReadyQ (h : Deeds R T s t) (i : StringId) : Deeds R T s (t.joinIfReadyQ i) :=
  Deeds.ite (h.joinQueue i _) h

/-- A string in OPEN goes on to PENDING_CLOSE where its target is CLOSED. -/
theorem Deeds.arrive (h : Deeds R T s t) (hs : t.switchState i = .opened) :
    Deeds R T s (if t.target i then t.pendingCloseQ i else t) := by
  split
  · next ht => exact h.pendingCloseQ hs ht
  · exact h

theorem Deeds.acceptOpenQ (h : Deeds R T s t) (hs : t.switchState i = .relayOpening) (hf : t.feedback i = false) :
    Deeds R T s (t.acceptOpenQ i) := by
  have k := (h.startDwell (.inl hs)).emit .stringIsolated (some i) 0 0
  have state : ((t.startDwell i).emit .stringIsolated (some i) 0 0).switchState i = .relayOpening := by
    rw [State.switchState_emit, State.switchState_startDwell, hs]
  have open_ : ((t.startDwell i).emit .stringIsolated (some i) 0 0).feedback i = false := by
    rw [State.feedback_of_beyond (State.emit_beyond _ _ _ _ _)]
    exact hf
  unfold State.acceptOpenQ
  exact (k.enter (.arrived state open_) none).takeReports.arrive
    (by rw [State.switchState_takeReports, State.switchState_enter, if_pos rfl])

theorem Deeds.rampStarts (hr : R) (n : Nat) (h : Deeds R T s t) : Deeds R T s (State.rampStarts n t) := by
  induction n generalizing t with
  | zero => exact h
  | succ n ih =>
    unfold State.rampStarts
    split
    · exact h
    · next hl => exact Deeds.ite (ih (h.deed (.startRamp hr (by simp [hl])))) h

theorem Deeds.acceptClosedQ (hr : R) (h : Deeds R T s t) (hs : t.switchState i = .relayClosing)
    (hf : t.feedback i = true) : Deeds R T s (t.acceptClosedQ i) := by
  unfold State.acceptClosedQ
  refine Deeds.ite (Deeds.rampStarts hr _ ?_) (h.pendingOpenQ (.back hs hf))
  exact (h.enter (.closed hs hf) none).deed (.joinRampList hr (by rw [State.switchState_enter, if_pos rfl]))

/-! ### The retest -/

theorem Deeds.retestStepQ (h : Deeds R T s t) (hu : t.underRetest i = true) (step : RetestStep) :
    Deeds R T s (t.retestStepQ i step) := by
  unfold State.retestStepQ
  refine (h.deed (.modSseq _ ⟨rfl, rfl⟩ ⟨rfl, rfl⟩ fun j hj => ?_)).joinQueue i _
  have e : i = j := by simpa [State.underRetest] using hj
  exact e ▸ hu

theorem Deeds.endRetest (h : Deeds R T s t) (i : StringId) : Deeds R T s (t.endRetest i) :=
  ((h.leaveQueue i).deed (.modSseq (fun q => { q with retest := none }) ⟨rfl, rfl⟩ ⟨rfl, rfl⟩
    fun j hj => by simp [State.underRetest] at hj)).deed (.setRetestMark i false)

theorem Deeds.retestSucceedsQ (h : Deeds R T s t) (hu : t.underRetest i = true) (hs : t.switchState i = .faulted)
    (hf : t.feedback i = false) : Deeds R T s (t.retestSucceedsQ i) := by
  have k := ((h.deed (.takeSwitch hu)).endRetest i).startDwell
    (.inr (by rw [State.switchState_endRetest, State.switchState_takeHold, hs]))
  have state : (((t.takeHold .switch i).endRetest i).startDwell i).switchState i = .faulted := by
    rw [State.switchState_startDwell, State.switchState_endRetest, State.switchState_takeHold, hs]
  have open_ : (((t.takeHold .switch i).endRetest i).startDwell i).feedback i = false := by
    rw [State.feedback_startDwell, State.feedback_endRetest,
      State.feedback_of_beyond (State.takeHold_beyond .switch i t (by decide)), hf]
  have k2 := (k.enter (.passed state open_) none).takeReports
  have here : (((((t.takeHold .switch i).endRetest i).startDwell i).enter i .opened none).takeReports).switchState i
      = .opened := by rw [State.switchState_takeReports, State.switchState_enter, if_pos rfl]
  unfold State.retestSucceedsQ
  simp only []
  generalize ((((t.takeHold .switch i).endRetest i).startDwell i).enter i .opened none).takeReports = v at k2 here ⊢
  split
  · next ho => exact (k2.deed (.deferRetest ho)).arrive here
  · exact k2.arrive here

theorem Deeds.retestPassesQ (h : Deeds R T s t) (hu : t.underRetest i = true) (hs : t.switchState i = .faulted)
    (step : RetestStep) (hf : step.mark.shown (t.feedback i) = true) : Deeds R T s (t.retestPassesQ i step) := by
  cases step with
  | firstOpen => exact h.retestStepQ hu _
  | close => exact h.retestStepQ hu _
  | secondOpen => exact h.retestSucceedsQ hu hs (by simpa [RetestStep.mark, Mark.shown] using hf)

/-! ### The Coil Arbiter -/

/-- A granted string goes on (R81, R89, R97, R99); ramps may start where its relay, still to close, shows closed. -/
theorem Deeds.goesOn (h : Deeds R T s t) (hu : t.switchState i = .faulted → t.underRetest i = true)
    (hr : t.switchState i = .pendingClose → t.feedback i = true → R) : Deeds R T s (t.goesOn i) := by
  unfold State.goesOn
  split
  · next hs =>
    have k := h.enter (.granted hs) (some (t.after (t.cfgNat .tConfirm)))
    simp only []
    split
    · next hf =>
      exact k.acceptClosedQ (hr hs ((State.feedback_enter ..) ▸ hf)) (by rw [State.switchState_enter, if_pos rfl]) hf
    · exact k
  · next hs =>
    have k := h.enter (.pulsed hs) (some (t.after (t.cfgNat .tConfirm)))
    simp only []
    split
    · exact k
    · next hf => exact k.acceptOpenQ (by rw [State.switchState_enter, if_pos rfl]) (Bool.eq_false_iff.2 hf)
  · next hs => exact h.setTimer hs _
  · next hs =>
    split
    · next r hret =>
      have mono (j : StringId) : (t.modSseq fun q => { q with
          retest := some { r with pulsed := true, timer := some (t.after (t.cfgNat .tConfirm)) } }).underRetest j =
          t.underRetest j := by simp [State.underRetest, hret]
      have k := h.deed (.modSseq (fun q => { q with
        retest := some { r with pulsed := true, timer := some (t.after (t.cfgNat .tConfirm)) } }) ⟨rfl, rfl⟩ ⟨rfl, rfl⟩
        fun j hj => (mono j) ▸ hj)
      simp only []
      split
      · next hf => exact k.retestPassesQ ((mono i).trans (hu hs)) hs r.step hf
      · exact k
    · exact h
  · exact h

theorem Deeds.grant {e : CoilEntry} (h : Deeds R T s t) (hg : t.grantable e = true)
    (hr : t.switchState e.string = .pendingClose → t.feedback e.string = true → R) : Deeds R T s (t.grant e) := by
  have k : Deeds R T s (t.pulseStarts e) :=
    (h.leaveQueue e.string).deed (.modSseq _ ⟨rfl, rfl⟩ ⟨rfl, rfl⟩ fun _ hj => hj)
  rw [State.grant_eq]
  exact k.goesOn (State.underRetest_of_grantable hg) hr

/-! ### What every deed keeps -/

theorem Deed.still (h : Deed R T s t) : Still s t := by
  have k := Still.refl s
  cases h with
  | enter _ timer => exact k.enter _ _ timer
  | modSwitch _ f => exact k.modSwitch _ f
  | off => exact k.drive _ _
  | modSseq f => exact k.modSseq f
  | leaveRampList => exact k.leaveRampList _
  | joinRampList => exact k.modSseq _
  | startRamp => exact k.startRamp _
  | emit x i a b => exact k.emit x i a b
  | takeReports => exact k.takeReports
  | setRetestMark i b => exact k.setRetestMark i b
  | takeSwitch => exact k.takeHold _ _
  | deferRetest ho => exact k.deferRetest ho _
  | putHold _ h => exact k.putHold h _

theorem Deed.beyond (h : Deed R T s t) : t.beyondSwitching = s.beyondSwitching := by
  cases h with
  | enter _ timer => exact State.enter_beyond _ _ timer s
  | modSwitch _ f => exact State.modSwitch_beyond _ f s
  | off => exact State.modSwitch_beyond _ _ s
  | modSseq f h => exact State.modSseq_beyond f s h.2
  | leaveRampList => exact State.modSseq_beyond _ s rfl
  | joinRampList => exact State.modSseq_beyond _ s rfl
  | startRamp => exact State.startRamp_beyond _ s
  | emit x i a b => exact State.emit_beyond x i a b s
  | takeReports => exact s.takeReports_beyond
  | setRetestMark i b => rfl
  | takeSwitch => exact State.takeHold_beyond .switch _ s (by decide)
  | deferRetest => rw [State.askCommit_beyond, State.startWait_beyond]
  | putHold _ h => exact State.putHold_beyond h _ s

theorem Deeds.still (h : Deeds R T s t) : Still s t :=
  h.keeps (P := Still s) (fun d k => k.trans d.still) (Still.refl s)

theorem Deeds.beyond (h : Deeds R T s t) : t.beyondSwitching = s.beyondSwitching :=
  h.keeps (P := fun v => v.beyondSwitching = s.beyondSwitching) (fun d k => d.beyond.trans k) rfl

theorem State.takeSwitch_sseq (i : StringId) (s : State) : (s.takeHold .switch i).sseq = s.sseq := by
  unfold State.takeHold
  simp only [HoldKind.stored, State.reportRemoval, if_true]
  split <;> rfl

/-- Each string's switch after a deed: as it was, in its timers and tests alone another, led to a state, turned off, or
ramping. -/
theorem Deed.sw (h : Deed R T s t) (j : StringId) : t.sw j = s.sw j ∨
    (s.switchState j ∈ workingStates ∧ t.switchState j = s.switchState j ∧ (t.sw j).drive = (s.sw j).drive) ∨
    (Leads T s j (t.switchState j) ∧ (t.sw j).drive = (s.sw j).drive) ∨
    (T j ∧ t.switchState j = s.switchState j ∧ (t.sw j).drive = .off) ∨
    (R ∧ j ∈ s.sseq.rampList ∧ t.switchState j = .ramping) := by
  have one {i : StringId} {a b : Switch} {C : Prop} (h : t.sw j = if j = i then b else a) (k : j = i → C) :
      t.sw j = a ∨ C := by
    by_cases hj : j = i
    · exact .inr (k hj)
    · exact .inl (h.trans (if_neg hj))
  cases h with
  | @enter i new h timer =>
    refine one (State.sw_enter i j new timer s) fun e => .inr (.inl ?_)
    subst e
    rw [State.switchState_enter, State.sw_enter, if_pos rfl, if_pos rfl]
    exact ⟨h, rfl⟩
  | @modSwitch i hs f h =>
    refine one (State.sw_modSwitch i j f s) fun e => .inl ?_
    subst e
    have e : (s.modSwitch j f).sw j = f (s.sw j) := (State.sw_modSwitch ..).trans (if_pos rfl)
    exact ⟨hs, (congrArg Switch.state e).trans (h _).1, (congrArg Switch.drive e).trans (h _).2⟩
  | @off i h =>
    refine one (State.sw_modSwitch i j _ s) fun e => .inr (.inr (.inl ?_))
    subst e
    rw [State.switchState, State.drive, State.sw_modSwitch, if_pos rfl]
    exact ⟨h, rfl, rfl⟩
  | modSseq f h => exact .inl (by rw [State.sw, State.modSseq_sseq, h.1]; rfl)
  | leaveRampList => exact .inl rfl
  | joinRampList => exact .inl rfl
  | @startRamp i hr h =>
    by_cases e : j = i
    · exact .inr (.inr (.inr (.inr ⟨hr, e ▸ h, by rw [State.startRamp, State.switchState_enter, if_pos e]⟩)))
    · left
      rw [State.startRamp, State.sw_enter, if_neg e, State.drive, State.sw_modSwitch, if_neg e]
      rfl
  | emit x i a b =>
    obtain ⟨g, e⟩ := State.emit_eq x i a b s
    exact .inl (by rw [e]; rfl)
  | takeReports => exact .inl (by rw [State.sw, State.takeReports_sseq]; rfl)
  | setRetestMark => exact .inl rfl
  | takeSwitch => exact .inl (by rw [State.sw, State.takeSwitch_sseq]; rfl)
  | deferRetest => exact .inl rfl
  | @putHold i _ h =>
    obtain ⟨r, q, x, e⟩ := State.putHold_eq h i s
    exact .inl (by rw [e]; rfl)

/-- The ramp slot and the ramp list after a deed. -/
theorem Deed.ramps (h : Deed R T s t) : (R ∨ t.sseq.slot = s.sseq.slot) ∧
    ∀ j, (j ∈ t.sseq.rampList → j ∈ s.sseq.rampList ∨ (R ∧ s.switchState j = .rampWait)) ∧
      (j ∈ s.sseq.rampList → j ∈ t.sseq.rampList ∨ R ∨ T j) := by
  have same (h : t.sseq.slot = s.sseq.slot) (k : t.sseq.rampList = s.sseq.rampList) :
      (R ∨ t.sseq.slot = s.sseq.slot) ∧
      ∀ j, (j ∈ t.sseq.rampList → j ∈ s.sseq.rampList ∨ (R ∧ s.switchState j = .rampWait)) ∧
        (j ∈ s.sseq.rampList → j ∈ t.sseq.rampList ∨ R ∨ T j) :=
    ⟨.inr h, fun j => ⟨fun m => .inl (k ▸ m), fun m => .inl (k ▸ m)⟩⟩
  cases h with
  | enter _ timer => exact same (by rw [State.enter_sseq]; rfl) (State.queue_enter ..).2.2
  | modSwitch _ f => exact same rfl rfl
  | off => exact same rfl rfl
  | modSseq f _ hr => exact same hr.1 hr.2
  | @leaveRampList i hT =>
    refine ⟨.inr rfl, fun j => ⟨fun m => .inl (List.mem_filter.1 m).1, fun m => ?_⟩⟩
    by_cases hj : j = i
    · exact .inr (.inr (hj ▸ hT))
    · exact .inl (List.mem_filter.2 ⟨m, by simpa using hj⟩)
  | @joinRampList i hr hs =>
    refine ⟨.inl hr, fun j => ⟨fun m => ?_, fun _ => .inr (.inl hr)⟩⟩
    rcases List.mem_append.1 m with m | m
    · exact .inl m
    · exact .inr ⟨hr, List.mem_singleton.1 m ▸ hs⟩
  | startRamp hr _ =>
    refine ⟨.inl hr, fun j => ⟨fun m => .inl ?_, fun _ => .inr (.inl hr)⟩⟩
    unfold State.startRamp at m
    rw [(State.queue_enter ..).2.2] at m
    exact List.mem_of_mem_drop m
  | emit x i a b =>
    obtain ⟨g, e⟩ := State.emit_eq x i a b s
    exact same (by rw [e]) (by rw [e])
  | takeReports => exact same (by rw [State.takeReports_sseq]) (by rw [State.takeReports_sseq])
  | setRetestMark => exact same rfl rfl
  | takeSwitch => exact same (by rw [State.takeSwitch_sseq]) (by rw [State.takeSwitch_sseq])
  | deferRetest => exact same rfl rfl
  | @putHold i _ h =>
    obtain ⟨r, q, x, e⟩ := State.putHold_eq h i s
    exact same (by rw [e]) (by rw [e])

end Sys2Proof.Machine
end

section
/-! SUPPORT. Grants and changed targets as runs of deeds, and what a run leaves of a string whose target has not turned
OPEN in it (R78 to R86, R93). -/

namespace Sys2Proof.Machine

variable {R : Prop} {T : StringId → Prop} {s t u : State} {i j : StringId}

/-! ### Runs -/

/-- The relays of the strings in OPEN, PENDING_CLOSE and RELAY_CLOSING show open. -/
def State.RestsOpen (s : State) : Prop :=
  ∀ j, s.switchState j ∈ [.opened, .pendingClose, .relayClosing] → s.feedback j = false

theorem State.restsOpen_of_relaysOpen (h : s.relaysOpen) : s.RestsOpen := fun j hj =>
  h.1 j (by
    simp only [List.mem_cons, List.not_mem_nil, or_false] at hj
    rcases hj with e | e | e
    · exact .inl e
    · exact .inr (.inl e)
    · exact .inr (.inr (.inl e)))

theorem Deed.restsOpen (h : Deed R T s t) (ho : s.RestsOpen) : t.RestsOpen := by
  intro j hj
  rw [State.feedback_of_beyond h.beyond]
  have rest (e : s.switchState j ∈ [SwitchState.opened, .pendingClose, .relayClosing]) := ho j e
  rcases h.sw j with e | ⟨-, e, -⟩ | ⟨hl, -⟩ | ⟨-, e, -⟩ | ⟨-, -, e⟩
  · exact rest (by rwa [State.switchState, e] at hj)
  · exact rest (e ▸ hj)
  · generalize t.switchState j = new at hj hl
    cases hl with
    | granted h => exact rest (by rw [h]; decide)
    | arrived h hf => exact hf
    | passed h hf => exact hf
    | wanted h ht => exact rest (by rw [h]; decide)
    | turned h hT => exact rest (by rw [h]; decide)
    | closed | back | curtailed | pulsed | unlisted | interrupted | fallen => simp at hj
  · exact rest (e ▸ hj)
  · rw [e] at hj
    simp at hj

theorem Deeds.restsOpen (h : Deeds R T s t) (ho : s.RestsOpen) : t.RestsOpen := h.keeps Deed.restsOpen ho

theorem Deeds.grants (n : Nat) (h : Deeds R T s t) (ho : ¬R → s.RestsOpen) : Deeds R T s (State.grants n t) := by
  induction n generalizing t with
  | zero => exact h
  | succ n ih =>
    unfold State.grants
    split
    · split
      · next e he =>
        refine ih (h.grant (t.nextGrant_mem e he).2 fun hs hf => ?_)
        by_contra hr
        have := h.restsOpen (ho hr) e.string (by rw [hs]; decide)
        rw [hf] at this
        cases this
      · exact h
    · exact h

theorem Deeds.arbiter (h : Deeds R T s t) (ho : ¬R → s.RestsOpen) : Deeds R T s t.arbiter := Deeds.grants _ h ho

theorem Deeds.targetTurnsOpen (h : Deeds R T s t) (ho : ¬R → s.RestsOpen) (hT : T i) :
    Deeds R T s (t.targetTurnsOpen i) := by
  unfold State.targetTurnsOpen
  split
  · next hs => exact (h.leaveQueue i).enter (.turned hs hT) none
  · next hs => exact ((h.deed (.leaveRampList hT)).pendingOpenQ (.unlisted hs hT)).arbiter ho
  · next hs => exact (h.interruptQ (.inl hs) hT).arbiter ho
  · next hs => exact (h.interruptQ (.inr hs) hT).arbiter ho
  · exact h

theorem Deeds.addHold (h : Deeds R T s t) (ho : ¬R → s.RestsOpen) (hT : T i) (x : Hold) (hx : x.kind ≠ .switch) :
    Deeds R T s (t.addHold x i) := by
  have k := h.deed (.putHold hT x hx)
  unfold State.addHold
  exact Deeds.ite (k.targetTurnsOpen ho hT) k

theorem Deeds.addHolds (ho : ¬R → s.RestsOpen) (x : Hold) (hx : x.kind ≠ .switch) (xs : List StringId)
    (hT : ∀ j ∈ xs, T j) (h : Deeds R T s t) : Deeds R T s (t.addHolds x xs) := by
  induction xs generalizing t with
  | nil => exact h
  | cons y ys ih =>
    exact ih (fun j hj => hT j (List.mem_cons_of_mem _ hj)) (h.addHold ho (hT y List.mem_cons_self) x hx)

/-! ### The ramp list -/

theorem Deeds.slot (hr : ¬R) (h : Deeds R T s t) : t.sseq.slot = s.sseq.slot :=
  h.keeps (P := fun v => v.sseq.slot = s.sseq.slot) (fun d k => (d.ramps.1.resolve_left hr).trans k) rfl

/-- A string does not come into the ramp list where no ramp may start. -/
theorem Deeds.unlisted (hr : ¬R) (h : Deeds R T s t) (hj : j ∉ s.sseq.rampList) : j ∉ t.sseq.rampList :=
  h.keeps (P := fun v => j ∉ v.sseq.rampList)
    (fun d k m => ((d.ramps.2 j).1 m).elim k fun x => hr x.1) hj

/-! ### Strings at rest -/

/-- The states that a string leaves only where its target turns, where no ramp may start for it. -/
def restStates : List SwitchState := [.closed, .ramping, .rampWait, .interrupting, .curtailWait]

/-- A string at rest stays as it is while other strings' targets turn, and out of the ramp list. -/
theorem Deed.rests (h : Deed R T s t) (hT : ¬T j) (hs : s.switchState j ∈ restStates)
    (hl : R → j ∉ s.sseq.rampList) (hw : R → s.switchState j ≠ .rampWait) :
    t.sw j = s.sw j ∧ (R → j ∉ t.sseq.rampList) := by
  refine ⟨?_, fun hr m => ((h.ramps.2 j).1 m).elim (hl hr) fun x => hw hr x.2⟩
  rcases h.sw j with e | ⟨hw, -⟩ | ⟨hl, -⟩ | ⟨hi, -⟩ | ⟨hr, m, -⟩
  · exact e
  · exfalso
    generalize s.switchState j = x at hs hw
    simp only [restStates, workingStates, List.mem_cons, List.not_mem_nil, or_false] at hs hw
    rcases hs with rfl | rfl | rfl | rfl | rfl <;> simp at hw
  · exfalso
    generalize t.switchState j = new at hl
    cases hl with
    | granted h | closed h | back h | curtailed h | pulsed h | arrived h | passed h | wanted h => simp [restStates, h] at hs
    | turned _ hi | unlisted _ hi | interrupted _ hi | fallen _ hi => exact hT hi
  · exact absurd hi hT
  · exact absurd m (hl hr)

theorem Deeds.rests (h : Deeds R T s t) (hT : ¬T j) (hs : s.switchState j ∈ restStates)
    (hl : R → j ∉ s.sseq.rampList) (hw : R → s.switchState j ≠ .rampWait) :
    t.sw j = s.sw j ∧ (R → j ∉ t.sseq.rampList) :=
  h.keeps (P := fun v => v.sw j = s.sw j ∧ (R → j ∉ v.sseq.rampList))
    (fun {v _} d k => by
      have same : v.switchState j = s.switchState j := congrArg Switch.state k.1
      obtain ⟨h1, h2⟩ := d.rests hT (same ▸ hs) k.2 (same ▸ hw)
      exact ⟨h1.trans k.1, h2⟩) ⟨rfl, hl⟩

/-- A string whose granted close its feedback has not shown goes on with it (R84). -/
theorem Deeds.goesOnClosing (hr : ¬R) (h : Deeds R T s t) (hT : ¬T j) (hs : s.switchState j = .relayClosing)
    (hf : s.feedback j = false) : t.sw j = s.sw j := by
  refine h.keeps (P := fun v => v.sw j = s.sw j ∧ v.feedback j = false) (fun {v w} d k => ?_) ⟨rfl, hf⟩ |>.1
  have here : v.switchState j = .relayClosing := (congrArg Switch.state k.1).trans hs
  refine ⟨?_, (State.feedback_of_beyond d.beyond j).trans k.2⟩
  rcases d.sw j with e | ⟨hw, -⟩ | ⟨hl, -⟩ | ⟨hi, -⟩ | ⟨hr', -⟩
  · exact e.trans k.1
  · rw [here] at hw
    simp [workingStates] at hw
  · exfalso
    generalize w.switchState j = new at hl
    cases hl with
    | closed _ hf | back _ hf =>
      rw [k.2] at hf
      cases hf
    | granted h | curtailed h | pulsed h | arrived h | passed h | wanted h | turned h | unlisted h | fallen h =>
      rw [here] at h
      cases h
    | interrupted h => rw [here] at h; simp at h
  · exact absurd hi hT
  · exact absurd hr' hr

end Sys2Proof.Machine
end

section
/-! SUPPORT. What the arbiter's deeds leave of the strings' records, of the evaluator's and the reclose timers' books and
of the arc detector's ramps (R22, R36, R42 to R46, R97, R105, R128, R146). -/

namespace Sys2Proof.Machine

variable {R : Prop} {T : StringId → Prop} {s t u : State} {i j : StringId} {new : SwitchState}

/-! ### Records -/

/-- A hold of a kind other than SWITCH put into a string's record, where it is put at all (R43). -/
theorem State.str_putHold_or (h : Hold) (hk : h.kind ≠ .switch) (i j : StringId) (s : State) :
    (s.putHold h i).str j = s.str j ∨
    (j = i ∧ s.present i = true ∧ s.has h.kind i = false ∧ (s.putHold h i).str j = (s.str j).put h) := by
  by_cases hp : s.present i = true
  · by_cases hh : s.has h.kind i = true
    · left
      unfold State.putHold
      rw [if_neg (by simp [hp]), if_pos hh]
      cases h with
      | switch => exact absurd rfl hk
      | _ => rfl
    · have hn : s.has h.kind i = false := Bool.eq_false_iff.2 hh
      rw [State.str_putHold h i j s hp hn]
      by_cases hj : j = i
      · exact .inr ⟨hj, hp, hn, by rw [if_pos hj, hj]⟩
      · exact .inl (if_neg hj)
  · left
    unfold State.putHold
    rw [if_pos (by simpa using hp)]

/-- The record that a taken hold leaves, where it is taken: the same without the kind, or with SEARCH in its place (R51). -/
theorem State.str_takeHold (k : HoldKind) (hk : k ≠ .svc) (i j : StringId) (s : State) :
    (s.takeHold k i).str j = s.str j ∨ (j = i ∧ ((s.takeHold k i).str j = (s.str j).take k ∨
      (s.searchActive = true ∧ s.present i = true ∧ (s.takeHold k i).str j = ((s.str j).take k).put .search))) := by
  unfold State.takeHold
  split
  · exact .inl rfl
  · simp only []
    have e (v : State) (f : StringRecord → StringRecord) (hv : v.stab = (s.modString i f).stab) :
        v.str j = if j = i then f (s.str i) else s.str j := by
      rw [State.str, hv]
      exact State.str_modString i j f s
    rw [e _ (fun r => if s.freezes k i then (r.take k).put .search else r.take k)
      (by
        cases k with
        | svc => exact absurd rfl hk
        | _ => rfl)]
    by_cases hj : j = i
    · subst hj
      refine .inr ⟨rfl, ?_⟩
      rw [if_pos rfl]
      by_cases hf : s.freezes k j = true
      · have hf' := hf
        simp only [State.freezes, Bool.and_eq_true] at hf'
        exact .inr ⟨hf'.1.1.1, hf'.1.1.2, if_pos hf⟩
      · exact .inl (if_neg hf)
    · exact .inl (if_neg hj)

/-- The record of a string after an entry while no search is active. -/
theorem State.str_enter_idle (timer : Option Nat) (hs : s.searchActive = false) (i j : StringId) :
    (s.enter i new timer).str j = s.str j := by
  obtain ⟨a, b, r, c, l, x, st, e, hst⟩ := State.enter_eq i new timer s
  rw [e, State.str, hst (by simpa [State.searchActive] using hs)]
  rfl

/-- Each string's record after a deed. -/
theorem Deed.str (h : Deed R T s t) (j : StringId) : t.str j = s.str j ∨
    (s.searchActive = true ∧ s.present j = true ∧ t.str j = (s.str j).put .search) ∨
    (s.underRetest j = true ∧ (t.str j = (s.str j).take .switch ∨
      (s.searchActive = true ∧ s.present j = true ∧ t.str j = ((s.str j).take .switch).put .search))) ∨
    (T j ∧ s.present j = true ∧ ∃ x : Hold, x.kind ≠ .switch ∧ t.str j = (s.str j).put x) := by
  cases h with
  | @enter i new _ timer =>
    rcases State.str_enter i j new timer s with e | ⟨-, rfl, hp, e⟩
    · exact .inl e
    · by_cases hs : s.searchActive = true
      · exact .inr (.inl ⟨hs, hp, e⟩)
      · exact .inl (State.str_enter_idle timer (by simpa using hs) j j)
  | @startRamp i =>
    exact .inl ((State.str_enter i j .ramping _ _).resolve_right fun x => nomatch x.1)
  | emit x i a b =>
    obtain ⟨g, e⟩ := State.emit_eq x i a b s
    exact .inl (by rw [e]; rfl)
  | takeReports =>
    obtain ⟨a, g, c, p, e⟩ := s.takeReports_eq
    exact .inl (by rw [e]; rfl)
  | @takeSwitch i hu =>
    rcases State.str_takeHold .switch (by decide) i j s with e | ⟨rfl, e⟩
    · exact .inl e
    · exact .inr (.inr (.inl ⟨hu, e⟩))
  | @putHold i hT x hx =>
    rcases State.str_putHold_or x hx i j s with e | ⟨rfl, hp, -, e⟩
    · exact .inl e
    · exact .inr (.inr (.inr ⟨hT, hp, x, hx, e⟩))
  | _ => exact .inl rfl

/-- A string is under retest after a deed only where it was before. -/
theorem Deed.retest (h : Deed R T s t) (hj : t.underRetest j = true) : s.underRetest j = true := by
  have same (e : t.sseq.retest = s.sseq.retest) : s.underRetest j = true := by
    rw [State.underRetest] at hj ⊢
    exact e ▸ hj
  cases h with
  | enter _ timer => exact same (by rw [State.enter_sseq]; rfl)
  | startRamp => exact same (by rw [State.startRamp, State.enter_sseq]; rfl)
  | modSseq f _ _ hu => exact hu j hj
  | emit x i a b =>
    obtain ⟨g, e⟩ := State.emit_eq x i a b s
    exact same (by rw [e])
  | takeReports => exact same (by rw [State.takeReports_sseq])
  | takeSwitch => exact same (by rw [State.takeSwitch_sseq])
  | @putHold i _ x =>
    obtain ⟨r, q, y, e⟩ := State.putHold_eq x i s
    exact same (by rw [e])
  | _ => exact hj

theorem Deeds.retest (h : Deeds R T s t) (hj : t.underRetest j = true) : s.underRetest j = true :=
  h.keeps (P := fun v => v.underRetest j = true → s.underRetest j = true) (fun d k m => k (d.retest m)) id hj

theorem Deed.search (h : Deed R T s t) : t.gsu.state = s.gsu.state := State.gsu_of_beyond h.beyond

theorem Deeds.search (h : Deeds R T s t) : t.gsu.state = s.gsu.state := State.gsu_of_beyond h.beyond

theorem State.searchActive_of_idle (h : s.gsu.state = .idle) : s.searchActive = false := by
  simp [State.searchActive, h]

/-- While no search is under way, the record of a string whose target the work does not turn can lose SWITCH alone,
by a retest that ends (R97). -/
theorem Deeds.records (h : Deeds R T s t) (hg : s.gsu.state = .idle) (hT : ¬T j) :
    t.str j = s.str j ∨ (s.underRetest j = true ∧ t.str j = (s.str j).take .switch) := by
  refine h.keeps (P := fun v => v.gsu.state = .idle ∧ (v.underRetest j = true → s.underRetest j = true) ∧
    (v.str j = s.str j ∨ (s.underRetest j = true ∧ v.str j = (s.str j).take .switch))) (fun {v w} d k => ?_)
    ⟨hg, id, .inl rfl⟩ |>.2.2
  obtain ⟨hi, hu, hk⟩ := k
  have off := State.searchActive_of_idle hi
  refine ⟨d.search.trans hi, fun m => hu (d.retest m), ?_⟩
  rcases d.str j with e | ⟨hs, -⟩ | ⟨hr, e | ⟨hs, -⟩⟩ | ⟨hi, -⟩
  · rw [e]
    exact hk
  · rw [off] at hs
    cases hs
  · refine .inr ⟨hu hr, ?_⟩
    rw [e]
    rcases hk with hk | ⟨-, hk⟩
    · rw [hk]
    · rw [hk, StringRecord.take_switch_twice]
  · rw [off] at hs
    cases hs
  · exact absurd hi hT

theorem HoldKind.slot_val (k : HoldKind) : k.slot.val = k.ctorIdx := by cases k <;> rfl

theorem HoldKind.slot_inj {a b : HoldKind} (h : a.slot = b.slot) : a = b := by
  have e : a.ctorIdx = b.ctorIdx := by rw [← HoldKind.slot_val, ← HoldKind.slot_val, h]
  rw [← HoldKind.ofNat_ctorIdx a, ← HoldKind.ofNat_ctorIdx b, e]

theorem HoldSet.get_set (v : HoldSet) (a b : HoldKind) (x : Bool) :
    (v.set a.slot x)[b.slot] = if b = a then x else v[b.slot] := by
  by_cases h : b = a
  · subst h
    simp
  · have hn : a.slot.val ≠ b.slot.val := fun e => h (HoldKind.slot_inj (Fin.ext e)).symm
    simp [h, hn]

theorem StringRecord.has_put (r : StringRecord) (x : Hold) (k : HoldKind) :
    (r.put x).holds[k.slot] = (decide (k = x.kind) || r.holds[k.slot]) := by
  rw [StringRecord.put_holds, HoldSet.get_set]
  by_cases h : k = x.kind <;> simp [h]

theorem StringRecord.has_take (r : StringRecord) (x k : HoldKind) :
    (r.take x).holds[k.slot] = (decide (k ≠ x) && r.holds[k.slot]) := by
  rw [StringRecord.take_holds, HoldSet.get_set]
  by_cases h : k = x <;> simp [h]

/-- The work takes no kind but SWITCH from a string. -/
theorem Deed.has (h : Deed R T s t) {k : HoldKind} (hk : k ≠ .switch) (hj : s.has k j = true) : t.has k j = true := by
  unfold State.has at hj ⊢
  rcases h.str j with e | ⟨-, -, e⟩ | ⟨-, e | ⟨-, -, e⟩⟩ | ⟨-, -, x, -, e⟩ <;> rw [e]
  · exact hj
  · rw [StringRecord.has_put, hj, Bool.or_true]
  · rw [StringRecord.has_take, hj, Bool.and_true, decide_eq_true hk]
  · rw [StringRecord.has_put, StringRecord.has_take, hj, Bool.and_true, decide_eq_true hk, Bool.or_true]
  · rw [StringRecord.has_put, hj, Bool.or_true]

theorem Deeds.has (h : Deeds R T s t) {k : HoldKind} (hk : k ≠ .switch) (hj : s.has k j = true) : t.has k j = true :=
  h.keeps (P := fun v => v.has k j = true) (fun d m => d.has hk m) hj

/-- A string that carries a hold has its target OPEN (R42). -/
theorem State.target_of_has {k : HoldKind} (h : s.has k j = true) : s.target j = false := by
  have : (s.str j).holds ≠ noHolds := fun e => by
    rw [State.has, e] at h
    cases k <;> cases h
  rw [State.target, decide_eq_false this, Bool.and_false]

/-! ### Other books -/

/-- The evaluator's and the reclose timers' part of a string after an entry that does not lead to CLOSED. -/
theorem State.strings_enter (hn : new ≠ .closed) (i j : StringId) (timer : Option Nat) (s : State) :
    (s.enter i new timer).eval j =
      (if j = i ∧ s.switchState j = .closed then (s.eval j).leftClosed else s.eval j) ∧
    (s.enter i new timer).rcl[j] =
      (if j = i ∧ s.switchState j = .closed then { s.rcl[j] with stable := none } else s.rcl[j]) := by
  have hb := State.enter_books hn i timer s
  have b1 : (s.enter i new timer).eval j = (if s.switchState i = .closed then s.leaves i else s).eval j :=
    congrArg (fun b : Books => b.evals.strings[j]) hb
  have b2 : (s.enter i new timer).rcl[j] = (if s.switchState i = .closed then s.leaves i else s).rcl[j] :=
    congrArg (fun b : Books => b.timers[j]) hb
  rw [b1, b2]
  by_cases hs : s.switchState i = .closed
  · have e1 : (s.leaves i).eval j = _ := State.eval_modEval i j EvalString.leftClosed s
    have e2 : (s.leaves i).rcl[j] = _ := State.rcl_modRcl i j (fun t => { t with stable := none }) s
    rw [if_pos hs, e1, e2]
    by_cases hj : j = i
    · subst hj
      simp [hs]
    · simp [hj]
  · have hn : ¬(j = i ∧ s.switchState j = .closed) := fun x => hs (x.1 ▸ x.2)
    rw [if_neg hs, if_neg hn, if_neg hn]
    exact ⟨rfl, rfl⟩

theorem Leads.ne_closed (h : Leads T s i new) : new ≠ .closed := by
  cases h <;> exact fun e => nomatch e

/-- What the evaluator and the reclose timers keep of a string goes only with its leaving of CLOSED (R36, R105). -/
theorem Deed.strings (h : Deed R T s t) (j : StringId) : (t.eval j = s.eval j ∧ t.rcl[j] = s.rcl[j]) ∨
    (s.switchState j = .closed ∧ (T j ∨ (R ∧ j ∈ s.sseq.rampList)) ∧
      t.eval j = (s.eval j).leftClosed ∧ t.rcl[j] = { s.rcl[j] with stable := none }) := by
  have same (e : t.seval = s.seval) (k : t.rcl = s.rcl) : t.eval j = s.eval j ∧ t.rcl[j] = s.rcl[j] :=
    ⟨by rw [State.eval, e]; rfl, by rw [k]⟩
  have entered {v : State} {i : StringId} {new : SwitchState} {timer : Option Nat} (hn : new ≠ .closed) :
      ((v.enter i new timer).eval j = v.eval j ∧ (v.enter i new timer).rcl[j] = v.rcl[j]) ∨
      (j = i ∧ v.switchState j = .closed ∧ (v.enter i new timer).eval j = (v.eval j).leftClosed ∧
        (v.enter i new timer).rcl[j] = { v.rcl[j] with stable := none }) := by
    obtain ⟨e1, e2⟩ := State.strings_enter hn i j timer v
    rw [e1, e2]
    by_cases hc : j = i ∧ v.switchState j = .closed
    · exact .inr ⟨hc.1, hc.2, if_pos hc, if_pos hc⟩
    · exact .inl ⟨if_neg hc, if_neg hc⟩
  cases h with
  | @enter i new h timer =>
    refine (entered h.ne_closed).imp id fun ⟨e, hs, x⟩ => ⟨hs, .inl ?_, x⟩
    subst e
    cases h with
    | interrupted _ hT => exact hT
    | turned h | unlisted h | granted h | closed h | back h | curtailed h | pulsed h | arrived h | passed h | wanted h
    | fallen h =>
      rw [hs] at h
      cases h
  | @startRamp i hr m =>
    unfold State.startRamp
    rcases entered (by decide : SwitchState.ramping ≠ .closed) (i := i) with x | ⟨e, hs, x⟩
    · exact .inl x
    · subst e
      refine .inr ⟨?_, .inr ⟨hr, m⟩, x⟩
      rw [State.switchState, State.drive, State.sw_modSwitch, if_pos rfl] at hs
      exact hs
  | emit x i a b =>
    obtain ⟨g, e⟩ := State.emit_eq x i a b s
    exact .inl (same (by rw [e]) (by rw [e]))
  | takeReports =>
    obtain ⟨a, g, c, p, e⟩ := s.takeReports_eq
    exact .inl (same (by rw [e]) (by rw [e]))
  | @takeSwitch i =>
    refine .inl (same ?_ ?_) <;>
    · simp only [State.takeHold, HoldKind.stored, State.reportRemoval, if_true]
      split <;> rfl
  | @putHold i _ x =>
    obtain ⟨r, q, y, e⟩ := State.putHold_eq x i s
    exact .inl (same (by rw [e]) (by rw [e]))
  | _ => exact .inl ⟨rfl, rfl⟩

/-- What is kept of a string that is not CLOSED stays, and that of a CLOSED one whose target does not turn. -/
theorem Deed.strings_kept (h : Deed R T s t) (hc : s.switchState j = .closed → ¬T j ∧ (R → j ∉ s.sseq.rampList)) :
    t.eval j = s.eval j ∧ t.rcl[j] = s.rcl[j] := by
  refine (h.strings j).resolve_right fun ⟨hs, ho, _⟩ => ?_
  obtain ⟨h1, h2⟩ := hc hs
  exact ho.elim h1 fun x => h2 x.1 x.2

/-- The work leads no string to CLOSED. -/
theorem Deed.off_closed (h : Deed R T s t) (hs : s.switchState j ≠ .closed) : t.switchState j ≠ .closed := by
  rcases h.sw j with e | ⟨-, e, -⟩ | ⟨hl, -⟩ | ⟨-, e, -⟩ | ⟨-, -, e⟩
  · rwa [State.switchState, e]
  · rwa [e]
  · exact hl.ne_closed
  · rwa [e]
  · rw [e]
    decide

theorem Deeds.strings_open (h : Deeds R T s t) (hs : s.switchState j ≠ .closed) :
    t.switchState j ≠ .closed ∧ t.eval j = s.eval j ∧ t.rcl[j] = s.rcl[j] :=
  h.keeps (P := fun v => v.switchState j ≠ .closed ∧ v.eval j = s.eval j ∧ v.rcl[j] = s.rcl[j])
    (fun {v _} d k => by
      obtain ⟨h1, h2⟩ := d.strings_kept (j := j) fun e => absurd e k.1
      exact ⟨d.off_closed k.1, h1.trans k.2.1, h2.trans k.2.2⟩) ⟨hs, rfl, rfl⟩

/-- A CLOSED string and what is kept of it stay while other strings' targets turn. -/
theorem Deeds.strings_closed (h : Deeds R T s t) (hT : ¬T j) (hs : s.switchState j = .closed)
    (hl : R → j ∉ s.sseq.rampList) :
    t.sw j = s.sw j ∧ (R → j ∉ t.sseq.rampList) ∧ t.eval j = s.eval j ∧ t.rcl[j] = s.rcl[j] :=
  h.keeps (P := fun v => v.sw j = s.sw j ∧ (R → j ∉ v.sseq.rampList) ∧ v.eval j = s.eval j ∧ v.rcl[j] = s.rcl[j])
    (fun {v _} d ⟨k1, k2, k3, k4⟩ => by
      have here : v.switchState j = .closed := (congrArg Switch.state k1).trans hs
      obtain ⟨h1, h2⟩ := d.rests hT (by rw [here]; decide) k2 fun _ => by rw [here]; decide
      obtain ⟨h3, h4⟩ := d.strings_kept (j := j) fun _ => ⟨hT, k2⟩
      exact ⟨h1.trans k1, h2, h3.trans k3, h4.trans k4⟩) ⟨rfl, hl, rfl, rfl⟩

/-! ### Ramps -/

theorem Arcd.told_ramping (hr : new ≠ .ramping) {a : Arcd} {old : SwitchState} {now length : Nat} :
    (a.intervalBlank = true ∨ old = .ramping ∨ new = .interrupting → (a.told i old new now length).intervalBlank = true) ∧
    (j ∈ (a.told i old new now length).ramping → j ∈ a.ramping ∧ (old = .ramping → j ≠ i)) := by
  unfold Arcd.told
  simp only [if_neg hr]
  have ended : (a.intervalBlank = true ∨ old = .ramping →
      (if old = .ramping ∧ new ≠ .ramping then a.rampEnd i now length else a).intervalBlank = true) ∧
      (j ∈ (if old = .ramping ∧ new ≠ .ramping then a.rampEnd i now length else a).ramping →
        j ∈ a.ramping ∧ (old = .ramping → j ≠ i)) := by
    by_cases ho : old = .ramping
    · rw [if_pos ⟨ho, hr⟩]
      refine ⟨fun _ => rfl, fun m => ?_⟩
      obtain ⟨m1, m2⟩ := List.mem_filter.1 m
      exact ⟨m1, fun _ e => by simp [e] at m2⟩
    · rw [if_neg fun x => ho x.1]
      exact ⟨fun x => x.resolve_right ho, fun m => ⟨m, fun e => absurd e ho⟩⟩
  generalize (if old = .ramping ∧ new ≠ .ramping then a.rampEnd i now length else a) = b at ended ⊢
  split
  · exact ⟨fun _ => rfl, ended.2⟩
  · next hn => exact ⟨fun x => ended.1 (x.imp id fun y => y.resolve_right hn), ended.2⟩

/-- The blanking mark of a scan interval stays, and no string begins to ramp where no ramp may start (R145, R146). -/
theorem Deed.arcd (hn : ¬R) (h : Deed R T s t) : (s.arcd.intervalBlank = true → t.arcd.intervalBlank = true) ∧
    (j ∈ t.arcd.ramping → j ∈ s.arcd.ramping) := by
  have same (e : t.arcd = s.arcd) : (s.arcd.intervalBlank = true → t.arcd.intervalBlank = true) ∧
      (j ∈ t.arcd.ramping → j ∈ s.arcd.ramping) := by
    rw [e]
    exact ⟨id, id⟩
  cases h with
  | @enter i new h timer =>
    have e : (s.enter i new timer).arcd = _ := congrArg Books.ramps (State.enter_books h.ne_closed i timer s)
    have hr : new ≠ .ramping := by cases h <;> exact fun e => nomatch e
    rw [e]
    exact ⟨fun hb => (Arcd.told_ramping hr (j := i)).1 (.inl hb), fun m => ((Arcd.told_ramping hr).2 m).1⟩
  | startRamp hr => exact absurd hr hn
  | emit x i a b =>
    obtain ⟨g, e⟩ := State.emit_eq x i a b s
    exact same (by rw [e])
  | takeReports =>
    obtain ⟨a, g, c, p, e⟩ := s.takeReports_eq
    exact same (by rw [e])
  | @takeSwitch i =>
    refine same ?_
    simp only [State.takeHold, HoldKind.stored, State.reportRemoval, if_true]
    split <;> rfl
  | @putHold i _ x =>
    obtain ⟨r, q, y, e⟩ := State.putHold_eq x i s
    exact same (by rw [e])
  | _ => exact same rfl

theorem Deeds.arcd (hn : ¬R) (h : Deeds R T s t) : (s.arcd.intervalBlank = true → t.arcd.intervalBlank = true) ∧
    (j ∈ t.arcd.ramping → j ∈ s.arcd.ramping) :=
  h.keeps (P := fun v => (s.arcd.intervalBlank = true → v.arcd.intervalBlank = true) ∧
    (j ∈ v.arcd.ramping → j ∈ s.arcd.ramping))
    (fun d k => ⟨fun x => (d.arcd hn (j := j)).1 (k.1 x), fun m => k.2 ((d.arcd hn).2 m)⟩) ⟨id, id⟩

end Sys2Proof.Machine
end

section
/-! SUPPORT. A string whose target turns OPEN: what its own work leaves of it, and what the work that follows keeps of
that (R84 to R88). -/

namespace Sys2Proof.Machine

variable {R : Prop} {T : StringId → Prop} {s t u : State} {i j : StringId} {k : HoldKind}

/-! ### On the way to OPEN -/

/-- Where a string that carries a hold, its current below I_zero, has come to on the way to OPEN. -/
def State.OpensBelow (s : State) (j : StringId) : Prop :=
  s.switchState j = .opened ∨ (s.below j = true ∧ (s.switchState j = .pendingOpen ∨ s.switchState j = .relayOpening))

theorem Deed.opensBelow (hr : ¬R) (h : Deed R T s t) (ht : s.target j = false) (ho : s.OpensBelow j) :
    t.OpensBelow j ∧ (s.switchState j = .opened → t.switchState j = .opened) := by
  have same (e : t.switchState j = s.switchState j) :
      t.OpensBelow j ∧ (s.switchState j = .opened → t.switchState j = .opened) := by
    rw [State.OpensBelow, e, State.below_of_beyond h.beyond]
    exact ⟨ho, id⟩
  rcases h.sw j with e | ⟨-, e, -⟩ | ⟨hl, -⟩ | ⟨-, e, -⟩ | ⟨x, -⟩
  · exact same (congrArg Switch.state e)
  · exact same e
  · rw [State.OpensBelow, State.below_of_beyond h.beyond]
    generalize t.switchState j = new at hl
    have other (h1 : s.switchState j ≠ .opened) (h2 : s.switchState j ≠ .pendingOpen)
        (h3 : s.switchState j ≠ .relayOpening) : False :=
      ho.elim h1 fun x => x.2.elim h2 h3
    cases hl with
    | pulsed hs =>
      have hb := ho.resolve_left fun e => by rw [hs] at e; cases e
      exact ⟨.inr ⟨hb.1, .inr rfl⟩, fun e => by rw [hs] at e; cases e⟩
    | arrived | passed => exact ⟨.inl rfl, fun _ => rfl⟩
    | curtailed hs hb =>
      have hb' := ho.resolve_left fun e => by rw [hs] at e; cases e
      rw [hb] at hb'
      cases hb'.1
    | wanted hs ht' =>
      rw [ht] at ht'
      cases ht'
    | granted hs | closed hs | back hs | turned hs | unlisted hs | fallen hs =>
      exact (other (by rw [hs]; decide) (by rw [hs]; decide) (by rw [hs]; decide)).elim
    | interrupted hs =>
      refine (other ?_ ?_ ?_).elim <;> rcases hs with e | e <;> rw [e] <;> decide
  · exact same e
  · exact absurd x hr

/-- A string that carries a hold goes on to OPEN and stays there, its current being below I_zero (R89, R90). -/
theorem Deeds.opensBelow (hr : ¬R) (h : Deeds R T s t) (hk : k ≠ .switch) (hj : s.has k j = true)
    (ho : s.OpensBelow j) : t.OpensBelow j ∧ (s.switchState j = .opened → t.switchState j = .opened) := by
  refine h.keeps (P := fun v => v.has k j = true ∧ v.OpensBelow j ∧
    (s.switchState j = .opened → v.switchState j = .opened)) (fun d m => ?_) ⟨hj, ho, id⟩ |>.2
  obtain ⟨m1, m2, m3⟩ := m
  obtain ⟨d1, d2⟩ := d.opensBelow hr (State.target_of_has m1) m2
  exact ⟨d.has hk m1, d1, fun e => d2 (m3 e)⟩

theorem State.OpensBelow.mem (h : s.OpensBelow j) :
    s.switchState j ∈ [SwitchState.pendingOpen, .relayOpening, .opened] := by
  rcases h with e | ⟨-, e | e⟩ <;> rw [e] <;> decide

/-- A string that waits for its current to fall, which is not below I_zero, goes on waiting (R86, R87). -/
theorem Deeds.waitsCurrent (hr : ¬R) (h : Deeds R T s t) (hb : s.below j = false)
    (hs : s.switchState j = .interrupting ∨ s.switchState j = .curtailWait) : t.switchState j = s.switchState j := by
  refine h.keeps (P := fun v => v.below j = false ∧ v.switchState j = s.switchState j) (fun {v w} d k => ?_)
    ⟨hb, rfl⟩ |>.2
  refine ⟨(State.below_of_beyond d.beyond j).trans k.1, ?_⟩
  have here : v.switchState j = .interrupting ∨ v.switchState j = .curtailWait := k.2 ▸ hs
  rcases d.sw j with e | ⟨-, e, -⟩ | ⟨hl, -⟩ | ⟨-, e, -⟩ | ⟨x, -⟩
  · exact (congrArg Switch.state e).trans k.2
  · exact e.trans k.2
  · exfalso
    generalize w.switchState j = new at hl
    cases hl with
    | fallen _ _ hb =>
      rw [k.1] at hb
      cases hb
    | granted h | closed h | back h | curtailed h | pulsed h | arrived h | passed h | wanted h | turned h | unlisted h =>
      rcases here with e | e <;> rw [h] at e <;> cases e
    | interrupted h => rcases here with e | e <;> rw [e] at h <;> simp at h
  · exact e.trans k.2
  · exact absurd x hr

/-- A solid-state switch that is off stays off where no ramp may start (R77). -/
theorem Deeds.staysOff (hr : ¬R) (h : Deeds R T s t) (hd : (s.sw j).drive = .off) : (t.sw j).drive = .off := by
  refine h.keeps (P := fun v => (v.sw j).drive = .off) (fun {v w} d k => ?_) hd
  rcases d.sw j with e | ⟨-, -, e⟩ | ⟨-, e⟩ | ⟨-, -, e⟩ | ⟨x, -⟩
  · rwa [e]
  · rwa [e]
  · rwa [e]
  · exact e
  · exact absurd x hr

/-- The drive of a string whose target does not turn stands where no ramp may start (R77). -/
theorem Deeds.drive (hr : ¬R) (h : Deeds R T s t) (hT : ¬T j) : (t.sw j).drive = (s.sw j).drive := by
  refine h.keeps (P := fun v => (v.sw j).drive = (s.sw j).drive) (fun {v w} d k => ?_) rfl
  rcases d.sw j with e | ⟨-, -, e⟩ | ⟨-, e⟩ | ⟨x, -⟩ | ⟨x, -⟩
  · rwa [e]
  · rwa [e]
  · rwa [e]
  · exact absurd x hT
  · exact absurd x hr

/-- A string that waits to close, its relay open, waits on or has its pulse (R81). -/
theorem Deeds.waitsClose (hr : ¬R) (h : Deeds R T s t) (hT : ¬T j) (hf : s.feedback j = false)
    (hs : s.switchState j = .pendingClose ∨ s.switchState j = .relayClosing) :
    t.switchState j = .pendingClose ∨ t.switchState j = .relayClosing := by
  refine h.keeps (P := fun v => v.feedback j = false ∧ (v.switchState j = .pendingClose ∨
    v.switchState j = .relayClosing)) (fun {v w} d k => ?_) ⟨hf, hs⟩ |>.2
  refine ⟨(State.feedback_of_beyond d.beyond j).trans k.1, ?_⟩
  rcases d.sw j with e | ⟨-, e, -⟩ | ⟨hl, -⟩ | ⟨x, -⟩ | ⟨x, -⟩
  · rw [State.switchState, e]
    exact k.2
  · rw [e]
    exact k.2
  · generalize w.switchState j = new at hl
    cases hl with
    | granted => exact .inr rfl
    | closed _ hf | back _ hf =>
      rw [k.1] at hf
      cases hf
    | turned _ x => exact absurd x hT
    | curtailed h | pulsed h | arrived h | passed h | wanted h | unlisted h | fallen h =>
      rcases k.2 with e | e <;> rw [h] at e <;> cases e
    | interrupted h => rcases k.2 with e | e <;> rw [e] at h <;> simp at h
  · exact absurd x hT
  · exact absurd x hr

/-! ### The string's own work -/

/-- The states that an interrupted string comes to at once (R86). -/
def interruptedTo (below : Bool) : SwitchState := if below then .pendingOpen else .interrupting

theorem Deeds.afterPendingOpen (h : Deeds R T s t) (hs : t.switchState i = .pendingOpen) :
    Deeds R T s (if (t.joinQueue i .toOpen).below i then t.joinQueue i .toOpen
      else (t.joinQueue i .toOpen).enterCurtailWait i) := by
  have k := h.joinQueue i .toOpen
  split
  · exact k
  · next hb => exact k.enterCurtailWait (by rw [State.switchState_joinQueue, hs]) (Bool.eq_false_iff.2 hb)

/-- What a CLOSED or RAMPING string's interruption leaves of it (R36, R77, R85, R86, R105, R146). -/
structure Interrupted (s t : State) (i : StringId) : Prop where
  state : t.switchState i = interruptedTo (s.below i)
  drive : (t.sw i).drive = .off
  strings : s.switchState i = .closed → t.eval i = (s.eval i).leftClosed ∧ t.rcl[i] = { s.rcl[i] with stable := none }
  blank : t.arcd.intervalBlank = true
  ramping : s.switchState i = .ramping → i ∉ t.arcd.ramping

/-- A string turned off, in INTERRUPTING (R85, R86). -/
def State.interrupts (i : StringId) (s : State) : State :=
  (s.drive i .off).enter i .interrupting (some (s.after (s.cfgNat .tInterrupt)))

theorem State.interruptQ_eq (i : StringId) (s : State) :
    s.interruptQ i = if s.below i = true then (s.interrupts i).pendingOpenQ i else s.interrupts i := by
  have low : (s.interrupts i).below i = s.below i := State.below_of_beyond (State.enter_beyond ..) i
  rw [← low]
  rfl

theorem State.switchState_drive (i j : StringId) (d : Drive) (s : State) :
    (s.drive i d).switchState j = s.switchState j := by
  rw [State.switchState, State.drive, State.sw_modSwitch]
  split
  · next h => rw [h]; rfl
  · rfl

theorem State.interrupts_leaves (i : StringId) (s : State) :
    (s.interrupts i).switchState i = .interrupting ∧ ((s.interrupts i).sw i).drive = .off ∧
    (s.switchState i = .closed → (s.interrupts i).eval i = (s.eval i).leftClosed ∧
      (s.interrupts i).rcl[i] = { s.rcl[i] with stable := none }) ∧
    (s.interrupts i).arcd.intervalBlank = true ∧ (s.switchState i = .ramping → i ∉ (s.interrupts i).arcd.ramping) := by
  have arcd : (s.interrupts i).arcd = _ := congrArg Books.ramps (State.enter_books (by decide) i _ (s.drive i .off))
  rw [State.switchState_drive] at arcd
  refine ⟨by rw [State.interrupts, State.switchState_enter, if_pos rfl], ?_, fun hc => ?_, ?_, fun hr m => ?_⟩
  · rw [State.interrupts, State.sw_enter, if_pos rfl, State.drive, State.sw_modSwitch, if_pos rfl]
  · have h := State.strings_enter (by decide : SwitchState.interrupting ≠ .closed) i i
      (some (s.after (s.cfgNat .tInterrupt))) (s.drive i .off)
    rw [State.switchState_drive, if_pos ⟨rfl, hc⟩, if_pos ⟨rfl, hc⟩] at h
    exact h
  · rw [arcd]
    exact (Arcd.told_ramping (j := i) (by decide)).1 (.inr (.inr rfl))
  · rw [arcd] at m
    exact ((Arcd.told_ramping (by decide)).2 m).2 hr rfl

/-- What an interruption leaves of its string. -/
theorem State.interruptQ_leaves (i : StringId) (s : State) :
    Interrupted s (s.interruptQ i) i := by
  obtain ⟨state, drive, strings, blank, ramping⟩ := State.interrupts_leaves i s
  have low : (s.interrupts i).below i = s.below i := State.below_of_beyond (State.enter_beyond ..) i
  rw [State.interruptQ_eq]
  by_cases hb : s.below i = true
  · have k : Deeds False (· = i) (s.interrupts i) ((s.interrupts i).pendingOpenQ i) :=
      (Deeds.refl _).pendingOpenQ (.fallen state rfl (low.trans hb))
    obtain ⟨h1, h2⟩ := (k.strings_open (j := i) (by rw [state]; decide)).2
    rw [if_pos hb]
    refine ⟨?_, k.staysOff id drive, fun hc => ?_, (k.arcd id (j := i)).1 blank,
      fun hr m => ramping hr ((k.arcd id).2 m)⟩
    · rw [(State.pendingOpenQ_below (low.trans hb)).1, interruptedTo, if_pos hb]
    · rw [h1, h2]
      exact strings hc
  · rw [if_neg hb]
    exact ⟨by rw [state, interruptedTo, if_neg hb], drive, strings, blank, ramping⟩

end Sys2Proof.Machine
end

section
/-! SUPPORT. What outlasts the Ground Search Unit's work at the end of a step, while a search is active (R127 to R138). -/

namespace Sys2Proof.Machine

variable {P : State → Prop} {s t : State} {i j : StringId} {k : HoldKind}

/-! ### The lists of a search -/

/-- How the unit's own work at the end of a step can change its lists: C loses strings, X is formed from C, V from the
open set, and K, F and E gain strings (R131 to R136). -/
structure Gsu.Works (g h : Gsu) : Prop where
  c : ∀ j ∈ h.c, j ∈ g.c
  x : ∀ j ∈ h.x, j ∈ g.c ∨ j ∈ g.x
  v : ∀ j ∈ h.v, j ∈ g.v ∨ j ∈ g.openSet
  p : h.p = g.p
  k : h.k = g.k
  f : ∀ j ∈ g.f, j ∈ h.f
  e : ∀ j ∈ g.e, j ∈ h.e

theorem mem_minus {xs ys : List StringId} : j ∈ minus xs ys ↔ j ∈ xs ∧ j ∉ ys := by
  simp [minus]

theorem mem_union {xs ys : List StringId} : j ∈ union xs ys ↔ j ∈ xs ∨ j ∈ ys := by
  simp only [union, stringsWhere, List.mem_filter, Bool.or_eq_true, List.contains_iff_mem]
  exact and_iff_right (List.contains_iff_mem.1 (mem_allStrings j))

theorem Gsu.Works.same {g h : Gsu} (hl : (h.p, h.c, h.x, h.v, h.k, h.f, h.e) = (g.p, g.c, g.x, g.v, g.k, g.f, g.e)) :
    g.Works h := by
  simp only [Prod.mk.injEq] at hl
  obtain ⟨p, c, x, v, k, f, e⟩ := hl
  exact ⟨fun j m => c ▸ m, fun j m => .inr (x ▸ m), fun j m => .inl (v ▸ m), p, k, fun j m => f ▸ m, fun j m => e ▸ m⟩

theorem Gsu.exclude_works (g : Gsu) (xs : List StringId) (st : SearchState) :
    g.Works { g.exclude xs with state := st } :=
  ⟨fun _ m => (mem_minus.1 m).1, fun _ m => .inr (mem_minus.1 m).1, fun _ m => .inl (mem_minus.1 m).1, rfl, rfl,
    fun _ m => m, fun _ m => mem_union.2 (.inl m)⟩

/-! ### What outlasts the work -/

/-- What each operation keeps that the unit's work at the end of a step is made of. -/
structure Outlasts (P : State → Prop) : Prop where
  addHold : ∀ {s} (x : Hold) (j : StringId), x.kind ≠ .switch → P s → P (s.addHold x j)
  removeHold : ∀ {s} (j : StringId), P s → P (s.removeHold .search j)
  takeReports : ∀ {s}, P s → P s.takeReports
  emit : ∀ {s} (k : EventKind) (x : Option StringId) (a b : Int), P s → P (s.emit k x a b)
  modImon : ∀ {s} (f : Imon → Imon), P s → P (s.modImon f)
  modGsu : ∀ {s} (f : Gsu → Gsu), s.gsu.Works (f s.gsu) → P s → P (s.modGsu f)

section Work

variable (o : Outlasts P)

include o

theorem Outlasts.addHolds (x : Hold) (hx : x.kind ≠ .switch) (xs : List StringId) (h : P s) : P (s.addHolds x xs) := by
  induction xs generalizing s with
  | nil => exact h
  | cons y ys ih => exact ih (o.addHold x y hx h)

theorem Outlasts.removeHolds (xs : List StringId) (h : P s) : P (s.removeHolds .search xs) := by
  induction xs generalizing s with
  | nil => exact h
  | cons y ys ih => exact ih (o.removeHold y h)

theorem Outlasts.modState (f : Gsu → Gsu) (h : P s)
    (hl : ∀ g, ((f g).p, (f g).c, (f g).x, (f g).v, (f g).k, (f g).f, (f g).e) = (g.p, g.c, g.x, g.v, g.k, g.f, g.e)) :
    P (s.modGsu f) := o.modGsu f (.same (hl _)) h

theorem Outlasts.startStepTimer (h : P s) : P s.startStepTimer := o.modState _ h fun _ => rfl

theorem Outlasts.startMeasurement (w : Owner) (q : Purpose) (h : P s) : P (s.startMeasurement w q) := o.modImon _ h

theorem Outlasts.searchMeasure (st : SearchState) (h : P s) : P (s.searchMeasure st) :=
  o.startMeasurement _ _ (o.modState (fun g => { g with state := st, timer := none, measurements := g.measurements + 1 }) h
    fun _ => rfl)

theorem Outlasts.abandonSearchMeasurement (h : P s) : P s.abandonSearchMeasurement := o.modImon _ h

theorem Outlasts.endSearch (r : SearchResult) (detail : GroundDetail) (held : List StringId) (h : P s) :
    P (s.endSearch r detail held) := by
  have k1 := o.takeReports (o.addHolds (.ground detail) (fun e => nomatch e) held h)
  have k2 := o.abandonSearchMeasurement (o.modState (fun g => { g with timer := none }) k1 fun _ => rfl)
  have k3 := o.modState (fun g => { g with state := .idle }) k2 fun _ => rfl
  have k4 (xs : List StringId) := o.takeReports (o.removeHolds xs k3)
  unfold State.endSearch
  simp only []
  split
  · exact o.modImon _ (o.modImon _ (o.emit _ _ _ _ (k4 _)))
  · exact o.modImon _ (o.emit _ _ _ _ (k4 _))

theorem Outlasts.verify (h : P s) : P s.verify := by
  have k : P (s.modGsu fun g => { g with
      v := minus s.gsu.openSet (s.faultedOf s.gsu.openSet), e := union g.e (s.faultedOf s.gsu.openSet) }) :=
    o.modGsu _ ⟨fun _ m => m, fun _ m => .inr m, fun _ m => .inr (mem_minus.1 m).1, rfl, rfl, fun _ m => m,
      fun _ m => mem_union.2 (.inl m)⟩ h
  unfold State.verify
  simp only []
  split
  · exact o.endSearch _ _ _ k
  · exact o.startStepTimer (o.removeHolds _ (o.modState _ k fun _ => rfl))

theorem Outlasts.locate (i : StringId) (h : P s) : P (s.locate i) :=
  o.verify (o.modGsu _ ⟨fun _ m => (mem_minus.1 m).1, fun _ m => .inr (mem_minus.1 m).1, fun _ m => .inl m, rfl, rfl,
    fun _ m => List.mem_append_left _ m, fun _ m => m⟩
    (o.takeReports (o.removeHold i (o.takeReports (o.addHold _ i (by decide) h)))))

theorem Outlasts.narrowSteps (n : Nat) (h : P s) : P (State.narrowSteps n s) := by
  induction n generalizing s with
  | zero => exact h
  | succ n ih =>
    have k : P (s.modGsu fun g => { g with
        x := minus (firstHalf s.gsu.c) (s.faultedOf (firstHalf s.gsu.c))
        c := minus g.c (s.faultedOf (firstHalf s.gsu.c)), e := union g.e (s.faultedOf (firstHalf s.gsu.c)) }) :=
      o.modGsu _ ⟨fun _ m => (mem_minus.1 m).1, fun _ m => .inl (List.mem_of_mem_take (mem_minus.1 m).1),
        fun _ m => .inl m, rfl, rfl, fun _ m => m, fun _ m => mem_union.2 (.inl m)⟩ h
    unfold State.narrowSteps
    simp only []
    split
    · split
      · exact o.endSearch _ _ _ k
      · exact o.locate _ k
      · exact ih k
    · exact o.startStepTimer (o.removeHolds _ (o.modState _ k fun _ => rfl))

theorem Outlasts.goOn (h : P s) : P s.goOn := by
  unfold State.goOn
  split
  · exact o.endSearch _ _ _ h
  · exact o.locate _ h
  · exact o.narrowSteps _ h

theorem Outlasts.excludeAndGoOn (xs : List StringId) (h : P s) : P (s.excludeAndGoOn xs) := by
  have k := o.takeReports (o.addHolds .search (by decide) xs (o.modGsu (fun g => g.exclude xs)
    (s.gsu.exclude_works xs _) h))
  unfold State.excludeAndGoOn
  simp only []
  split
  · split
    · exact o.goOn k
    · exact k
  · unfold State.goOnVerifying
    split
    · exact o.endSearch _ _ _ k
    · exact k
  · exact k

theorem Outlasts.discard (leavers : List StringId) (h : P s) : P (s.discard leavers) := by
  have k := o.takeReports (o.addHolds .search (by decide)
    (leavers.filter fun i => s.gsu.measuringSet.contains i && !s.gsu.k.contains i)
    (o.modGsu (fun g => { g.exclude (leavers.filter fun i => s.gsu.measuringSet.contains i && !s.gsu.k.contains i) with
      state := g.state.again }) (Gsu.exclude_works _ _ _) (o.abandonSearchMeasurement h)))
  unfold State.discard
  simp only []
  split
  · exact o.endSearch _ _ _ k
  · have k2 := o.modState (fun g => { g with restarts := g.restarts + 1 }) k fun _ => rfl
    split
    · split
      · exact o.goOn k2
      · exact o.startStepTimer k2
    · split
      · exact o.endSearch _ _ _ k2
      · exact o.startStepTimer k2
    · exact k2

theorem Outlasts.takeUpLeavers (h : P s) : P s.takeUpLeavers := by
  have k := o.modState (fun g => { g with left := [] }) h fun _ => rfl
  unfold State.takeUpLeavers
  simp only []
  split
  iterate 3
    · split
      · exact o.discard _ k
      · exact k
  iterate 2
    · split
      · exact o.excludeAndGoOn _ k
      · exact k
  · exact k

theorem Outlasts.searchProgress (h : P s) (hu : s.searchProgress = some t) : P t := by
  unfold State.searchProgress at hu
  split at hu
  · exact Option.some.inj hu ▸ o.takeUpLeavers h
  · split at hu
    · split at hu
      · cases hu
        split
        · exact o.goOn h
        · exact o.searchMeasure _ h
      · cases hu
    · split at hu
      · exact Option.some.inj hu ▸ o.goOn h
      · split at hu
        · exact Option.some.inj hu ▸ o.searchMeasure _ h
        · cases hu
    · split at hu
      · exact Option.some.inj hu ▸ o.endSearch _ _ _ h
      · split at hu
        · exact Option.some.inj hu ▸ o.searchMeasure _ h
        · cases hu
    · cases hu

theorem Outlasts.settle (h : P s) : P s.settle := by
  have steps (n : Nat) : ∀ s : State, P s → P (State.settleSteps n s) := by
    induction n with
    | zero => exact fun s h => h
    | succ n ih =>
      intro s h
      unfold State.settleSteps
      split
      · next u hu => exact ih _ (o.takeReports (o.searchProgress h hu))
      · exact h
  exact steps settleLimit s h

end Work

end Sys2Proof.Machine
end

section
/-! SUPPORT. What the end of a request's work leaves, while no ground search is under way: its replies, its waits for
commits, and the records that the rings keep (R55, R163, R178). -/

namespace Sys2Proof.Machine

variable {s t u : State} {p : Port} {q : RequestCode} {r : Result} {body : List Byte}

/-- The reports taken up at a request's end while no search is under way. -/
def State.reported (u : State) : State := u.takeReports.modGsu fun g => { g with left := [] }

theorem State.conclude_reported (hg : u.gsu.state = .idle) (waits : List StoreRecord) :
    u.conclude p q waits r body = (if waits.isEmpty then u.reported.reply p (requestCode q) r body
      else askAll p waits (u.reported.startWait p (requestCode q) (.commit r body))).beginWrite := by
  obtain ⟨a, g, c, o, e⟩ := u.takeReports_eq
  unfold State.conclude State.reported
  rw [State.settle_idle (by rw [e]; exact hg) (by rw [e])]
  split <;> rfl

/-- What a request's end can change. -/
theorem State.conclude_eq (hg : u.gsu.state = .idle) (waits : List StoreRecord) :
    ∃ a g c o x w, u.conclude p q waits r body =
      { u with fli := { u.fli with arraySafe := a }, evr := { u.evr with ring := g }
               mfe := { u.mfe with capture := c }, ports := { u.ports with port := o }
               cfs := { u.cfs with queue := x, writing := w }, gsu := { u.gsu with left := [] }, reports := false } := by
  obtain ⟨a, g, c, o, e⟩ := u.takeReports_eq
  rw [State.conclude_reported hg]
  have rep : u.reported = { u with
      fli := { u.fli with arraySafe := a }, evr := { u.evr with ring := g }, mfe := { u.mfe with capture := c }
      ports := { u.ports with port := o }, gsu := { u.gsu with left := [] }, reports := false } := by
    rw [State.reported, e]
    rfl
  split
  · obtain ⟨w, k⟩ := State.beginWrite_eq (u.reported.reply p (requestCode q) r body)
    exact ⟨a, g, c, _, u.cfs.queue, w, by rw [k, rep]; rfl⟩
  · obtain ⟨w, k⟩ := State.beginWrite_eq (askAll p waits (u.reported.startWait p (requestCode q) (.commit r body)))
    obtain ⟨x, l⟩ := askAll_eq p waits (u.reported.startWait p (requestCode q) (.commit r body))
    exact ⟨a, g, c, _, x, w, by rw [k, l, rep]; rfl⟩

theorem State.reported_still (u : State) : Still u u.reported := ((Keeps.refl u).takeReports.modGsu _).still

/-- A record that a ring has gained lately outlasts a request's end. -/
theorem Lately.conclude {e : EventRecord} {k : Nat} (h : Lately u e k) (hg : u.gsu.state = .idle)
    (hk : k + 2 ≤ ringSize) (waits : List StoreRecord) : Noted (u.conclude p q waits r body) e := by
  obtain ⟨m, hm, hl⟩ := (Spends.refl u).takeReports
  have ha := u.setAllowance_le
  have k1 : Lately u.reported e (k + m) := (hl e k (by omega) h).congr rfl rfl
  rw [State.conclude_reported hg]
  split
  · obtain ⟨w, eq⟩ := State.beginWrite_eq (u.reported.reply p (requestCode q) r body)
    rw [eq]
    exact (k1.congr rfl rfl).noted
  · obtain ⟨w, eq⟩ := State.beginWrite_eq (askAll p waits (u.reported.startWait p (requestCode q) (.commit r body)))
    obtain ⟨x, l⟩ := askAll_eq p waits (u.reported.startWait p (requestCode q) (.commit r body))
    rw [eq, l]
    exact (k1.congr rfl rfl).noted

/-- The reply of a request that waits for nothing. -/
theorem concludes_replied (hg : u.gsu.state = .idle) (hu : u.port p = (s.hear p).port p)
    (ho : (u.port p).outstanding = none) : Replied s (u.conclude p q [] r body) p q r body := by
  have port : u.reported.port p = (s.hear p).port p := (u.reported_still.port p fun _ => ho).trans hu
  rw [State.conclude_reported hg]
  obtain ⟨w, e⟩ := State.beginWrite_eq (u.reported.reply p (requestCode q) r body)
  simp only [List.isEmpty_nil, if_true]
  have reply : (u.reported.reply p (requestCode q) r body).beginWrite.replyNow p (requestCode q) r body =
      u.reported.replyNow p (requestCode q) r body := by
    rw [e]
    rfl
  change (u.reported.reply p (requestCode q) r body).beginWrite.port p = _
  rw [reply, e]
  have ready : (u.reported.reply p (requestCode q) r body).port p = { (u.reported.port p) with
      ready := (u.reported.port p).ready ++ [u.reported.replyNow p (requestCode q) r body] } :=
    (State.port_modPort p p _ u.reported).trans (if_pos rfl)
  refine ready.trans ?_
  rw [port, State.port_hear, if_pos rfl]
  rfl

/-- A request that waits for commits waits for each of them. -/
theorem askAll_awaits (waits : List StoreRecord) (u : State) : ∀ x ∈ waits, (askAll p waits u).Awaits x p := by
  induction waits generalizing u with
  | nil => exact fun x m => nomatch m
  | cons y ys ih =>
    have later (v : State) (x : StoreRecord) (h : v.Awaits x p) (zs : List StoreRecord) : (askAll p zs v).Awaits x p := by
      induction zs generalizing v with
      | nil => exact h
      | cons z zs ih => exact ih (v.askCommit z [p]) (h.askCommit z [p])
    intro x m
    rcases List.mem_cons.1 m with rfl | m
    · exact later _ _ (State.askCommit_waits x p u) ys
    · exact ih _ x m

/-- The waits of a request that is outstanding after it. -/
theorem concludes_deferred {waits : List StoreRecord} (hw : waits ≠ []) (hg : u.gsu.state = .idle)
    (hu : u.port p = (s.hear p).port p) (ho : (u.port p).outstanding = none) :
    Deferred s (u.conclude p q waits r body) p q r body waits := by
  have port : u.reported.port p = (s.hear p).port p := (u.reported_still.port p fun _ => ho).trans hu
  rw [State.conclude_reported hg]
  simp only [List.isEmpty_iff, if_neg hw]
  have awaits := askAll_awaits (p := p) waits (u.reported.startWait p (requestCode q) (.commit r body))
  obtain ⟨w, e⟩ := State.beginWrite_eq (askAll p waits (u.reported.startWait p (requestCode q) (.commit r body)))
  obtain ⟨x, l⟩ := askAll_eq p waits (u.reported.startWait p (requestCode q) (.commit r body))
  rw [e]
  refine ⟨?_, awaits⟩
  rw [l]
  change (u.reported.startWait p _ _).port p = _
  rw [State.port_startWait, if_pos rfl, port, State.port_hear, if_pos rfl]
  rfl

theorem State.conclude_beyond (hg : u.gsu.state = .idle) (waits : List StoreRecord) :
    (u.conclude p q waits r body).beyondSwitching = u.beyondSwitching := by
  obtain ⟨a, g, c, o, x, w, e⟩ := State.conclude_eq (p := p) (q := q) (r := r) (body := body) hg waits
  rw [e]
  rfl

end Sys2Proof.Machine
end

section
/-! SUPPORT. The statement on HOLD. -/

namespace Sys2Proof.Machine

variable {R : Prop} {T : StringId → Prop} {s t u : State} {i j : StringId} {p : Port} {b : List Byte} {k : HoldKind}
  {x : Hold}

/-! ### Lists that pass (R53, R54) -/

theorem mem_distinctValues {list : List Byte} {v : Byte} (h : v ∈ distinctValues list) : v ∈ list :=
  List.contains_iff_mem.1 (List.mem_filter.1 h).2

theorem State.firstFailure_none {list vs : List Byte} {particular : StringId → Option Result} {b : Bool}
    (h : ∀ v ∈ vs, s.checkValue list b particular v = none) : s.firstFailure list b particular vs = none := by
  induction vs with
  | nil => rfl
  | cons v vs ih =>
    unfold State.firstFailure
    rw [h v List.mem_cons_self]
    exact ih fun w m => h w (List.mem_cons_of_mem _ m)

/-- A list that passes R53 and steps 1 to 4 of R54 fails nothing where its strings pass the check of step 5. -/
theorem State.checkList_none {list : List Byte} {particular : StringId → Option Result} (hl : s.listPasses list)
    (hp : ∀ i, listed list i → particular i = none) : s.checkList list particular = none := by
  refine State.firstFailure_none fun v m => ?_
  have mem := mem_distinctValues m
  obtain ⟨hc, i, rfl, hi, hr⟩ := hl.2.2 v mem
  simp [State.checkValue, stringOfByte_number, hc, hi, hr, hp i mem]

theorem mem_stringsOf {list : List Byte} : i ∈ stringsOf list ↔ listed list i := by
  simp only [stringsOf, stringsWhere, List.mem_filter, List.contains_iff_mem]
  exact and_iff_right (List.contains_iff_mem.1 (mem_allStrings i))

theorem stringsOf_nodup (list : List Byte) : (stringsOf list).Nodup :=
  List.Nodup.filter _ (by decide : allStrings.Nodup)

/-! ### HOLD (R55 to R58) -/

theorem partyHold_kind (p : Port) (code : LockCode) : (partyHold p code).kind = partyKind p := by cases p <;> rfl

theorem partyKind_ne (p : Port) : partyKind p ≠ .switch ∧ partyKind p ≠ .search := by cases p <;> decide

/-- The strings of a HOLD that gain the sender's kind. -/
def State.gains (s : State) (p : Port) (b : List Byte) : List StringId :=
  stringsWhere fun i => decide (listed (listOf p b) i) && !s.has (partyKind p) i

theorem State.mem_gains : i ∈ s.gains p b ↔ listed (listOf p b) i ∧ s.has (partyKind p) i = false := by
  simp only [State.gains, stringsWhere, List.mem_filter, Bool.and_eq_true, decide_eq_true_eq, Bool.not_eq_true']
  exact and_iff_right (List.contains_iff_mem.1 (mem_allStrings i))

theorem State.gains_eq (s : State) (p : Port) (b : List Byte) :
    ((stringsOf (listOf p b)).filter fun i => !s.has (partyKind p) i) = s.gains p b := by
  unfold State.gains stringsOf stringsWhere
  rw [List.filter_filter]
  refine List.filter_congr fun i _ => ?_
  rw [Bool.and_comm]
  congr 1
  simp

/-- The strings with the sender's kind added, and the event (R56). -/
def State.held (p : Port) (b : List Byte) (s : State) : State :=
  (s.addHolds (partyHold p (lockCodeOf b)) (stringsOf (listOf p b))).emitHoldChanged (partyKind p) true (.port p)
    (s.gains p b)

/-- HOLD of a list that passes (R54, R58). -/
theorem exec_hold (ha : s.accepts p) (hl : s.listPasses (listOf p b))
    (hm : p = .m → s.ports.key.on = true ∧ 8 ≤ b.length ∧ lockCodeOf b ≠ 0 ∧
      ∀ i, listed (listOf p b) i → s.has .svc i = true → (s.str i).lockCode = some (lockCodeOf b)) :
    exec (.hold p b) s =
      .next (((s.hear p).held p b).conclude p .hold (partyWaits p (s.gains p b)) .done [0]) := by
  have size : sizeFits .hold p b = true := by
    by_cases h : p = .m
    · simp [sizeFits, h, (hm h).2.1]
    · simp [sizeFits, h]
  have perm : s.permitted .hold p b = true := by
    cases p with
    | m => exact (hm rfl).1
    | s => rfl
    | v => rfl
  have form : holdFormFails p b = false := by
    simp only [holdFormFails, listFits, hl.1, hl.2.1, decide_true, Bool.and_self, Bool.not_true, Bool.false_or,
      Bool.and_eq_false_iff, decide_eq_false_iff_not]
    exact Decidable.not_or_of_imp fun h => (hm h).2.2.1
  have list : (s.hear p).checkList (listOf p b) ((s.hear p).codeCheck p (lockCodeOf b) .heldOtherCode) = none := by
    refine State.checkList_none hl fun i hi => if_neg ?_
    rintro ⟨h1, h2, h3⟩
    exact h3 ((hm h1).2.2.2 i hi h2)
  have run : exec (.hold p b) s = .next ((s.hear p).holdRequest p b) :=
    congrArg Host.Outcome.next (State.serve_accepts _ ha size perm)
  rw [run]
  unfold State.holdRequest
  simp only [form, list, Bool.false_eq_true, if_false, State.gains_eq]
  rfl

/-! ### While a search may be active (R51, R56) -/

theorem Deeds.targetTurnsClosed (h : Deeds R T s t) (ho : ¬R → s.RestsOpen) (ht : t.target i = true) :
    Deeds R T s (t.targetTurnsClosed i) := by
  unfold State.targetTurnsClosed
  split
  · next hs => exact ((h.pendingCloseQ hs ht).joinIfReadyQ i).arbiter ho
  · exact h

/-- A kind that the search does not take away outlasts its work. -/
theorem State.has_outlasts (hk : k ≠ .switch ∧ k ≠ .search) : Outlasts fun s => s.has k i = true where
  addHold x j hx h :=
    Deeds.has (R := True) (T := fun _ => True) ((Deeds.refl _).addHold (fun n => absurd trivial n) trivial x hx) hk.1 h
  removeHold {s} j h := by
    have taken : (s.takeHold .search j).has k i = true := by
      rw [State.has] at h ⊢
      rcases State.str_takeHold .search (by decide) j i s with e | ⟨-, e | ⟨-, -, e⟩⟩ <;> rw [e]
      · exact h
      · rw [StringRecord.has_take, h, decide_eq_true hk.2]
        rfl
      · rw [StringRecord.has_put, StringRecord.has_take, h, decide_eq_true hk.2, Bool.and_true, Bool.or_true]
    unfold State.removeHold
    simp only []
    split
    · next ht =>
      exact Deeds.has (R := True) (T := fun _ => True)
        ((Deeds.refl _).targetTurnsClosed (fun n => absurd trivial n) ht.2) hk.1 taken
    · exact taken
  takeReports h := Deeds.has (R := True) (T := fun _ => True) (Deeds.refl _).takeReports hk.1 h
  emit e x a b h := Deeds.has (R := True) (T := fun _ => True) ((Deeds.refl _).emit e x a b) hk.1 h
  modImon f h := h
  modGsu f _ h := h

/-- The records at a request's end are those that the search's work has left. -/
theorem State.str_conclude (p : Port) (q : RequestCode) (waits : List StoreRecord) (r : Result) (body : List Byte)
    (u : State) (j : StringId) : (u.conclude p q waits r body).str j = u.takeReports.settle.str j := by
  unfold State.conclude
  simp only []
  split
  · obtain ⟨w, e⟩ := State.beginWrite_eq (u.takeReports.settle.reply p (requestCode q) r body)
    rw [e]
    rfl
  · obtain ⟨w, e⟩ := State.beginWrite_eq (askAll p waits (u.takeReports.settle.startWait p (requestCode q) (.commit r body)))
    obtain ⟨x, l⟩ := askAll_eq p waits (u.takeReports.settle.startWait p (requestCode q) (.commit r body))
    rw [e, l]
    rfl

/-- A string put on hold carries the kind where it is present (R43). -/
theorem State.has_putHold (hx : x.kind ≠ .switch) (hp : s.present i = true) : (s.putHold x i).has x.kind i = true := by
  by_cases hh : s.has x.kind i = true
  · rw [State.has] at hh ⊢
    rcases State.str_putHold_or x hx i i s with e | ⟨-, -, hn, -⟩
    · rw [e, hh]
    · rw [State.has, hh] at hn
      cases hn
  · rw [State.has, State.str_putHold x i i s hp (Bool.eq_false_iff.2 hh), if_pos rfl, StringRecord.has_put]
    simp

/-- A split of the addition of a hold to a list at one of its strings. -/
theorem addHolds_split {xs : List StringId} (hi : i ∈ xs) (hd : xs.Nodup) (hx : x.kind ≠ .switch)
    (ho : ¬R → s.RestsOpen) : ∃ u, Deeds R (· ≠ i) s u ∧ Deeds R (· ≠ i) (u.addHold x i) (s.addHolds x xs) := by
  obtain ⟨a, c, e⟩ := List.append_of_mem hi
  subst e
  have before : ∀ j ∈ a, j ≠ i := fun j m h => (List.nodup_append.1 hd).2.2 j m i List.mem_cons_self h
  have after : ∀ j ∈ c, j ≠ i := fun j m h => (List.nodup_cons.1 (List.nodup_append.1 hd).2.1).1 (h ▸ m)
  have d1 : Deeds R (· ≠ i) s (s.addHolds x a) := Deeds.addHolds ho x hx a before (Deeds.refl s)
  refine ⟨s.addHolds x a, d1, ?_⟩
  have whole : s.addHolds x (a ++ i :: c) = ((s.addHolds x a).addHold x i).addHolds x c := forStrings_append ..
  rw [whole]
  have d2 : Deeds R (fun _ => True) s ((s.addHolds x a).addHold x i) :=
    (d1.mono id fun _ _ => trivial).addHold ho trivial x hx
  exact Deeds.addHolds (fun n => d2.restsOpen (ho n)) x hx c after (Deeds.refl _)

/-- Every listed string carries the kind after a HOLD (R56). -/
theorem State.has_held (hp : s.present i = true) (hi : listed (listOf p b) i) :
    (s.held p b).has (partyKind p) i = true := by
  have hx : (partyHold p (lockCodeOf b)).kind ≠ .switch := partyHold_kind p (lockCodeOf b) ▸ (partyKind_ne p).1
  obtain ⟨u, d1, d2⟩ := addHolds_split (R := True) (s := s) (mem_stringsOf.2 hi) (stringsOf_nodup _) hx
    fun n => absurd trivial n
  have own : Deeds True (fun _ => True) (u.putHold (partyHold p (lockCodeOf b)) i)
      (u.addHold (partyHold p (lockCodeOf b)) i) := by
    unfold State.addHold
    exact Deeds.ite ((Deeds.refl _).targetTurnsOpen (fun n => absurd trivial n) trivial) (Deeds.refl _)
  have put := State.has_putHold hx ((d1.still.present i).trans hp)
  rw [partyHold_kind] at put
  have added := d2.has (partyKind_ne p).1 (own.has (partyKind_ne p).1 put)
  unfold State.held State.emitHoldChanged
  split
  · exact added
  · exact Deeds.has (R := True) (T := fun _ => True) ((Deeds.refl _).emit _ _ _ _) (partyKind_ne p).1 added

end Sys2Proof.Machine
end

section
/-! SUPPORT. What a hold added to a list of strings leaves of each of them, by the state that it was in (R84 to R86). -/

namespace Sys2Proof.Machine

variable {R : Prop} {T : StringId → Prop} {s t u : State} {i j : StringId} {k : HoldKind} {x : Hold}

/-! ### A string whose target is CLOSED -/

theorem StringRecord.take_noHolds {r : StringRecord} (h : r.holds = noHolds) (k : HoldKind) :
    (r.take k).holds = noHolds := by
  rw [StringRecord.take_holds, h]
  cases k <;> rfl

/-- The target of a string that the work does not turn stays CLOSED while no search is under way. -/
theorem Deeds.target (h : Deeds R T s t) (hg : s.gsu.state = .idle) (hT : ¬T i) (ht : s.target i = true) :
    t.target i = true := by
  rw [State.target, Bool.and_eq_true, decide_eq_true_eq] at ht ⊢
  refine ⟨(h.still.present i).trans ht.1, ?_⟩
  rcases h.records hg hT with e | ⟨-, e⟩ <;> rw [e]
  · exact ht.2
  · exact StringRecord.take_noHolds ht.2 _

theorem State.has_of_target (ht : s.target i = true) (k : HoldKind) : s.has k i = false := by
  by_contra h
  rw [State.target_of_has (eq_true_of_ne_false h)] at ht
  cases ht

/-- A hold added to a string whose target is CLOSED turns it OPEN. -/
theorem State.addHold_turns (hx : x.kind ≠ .switch) (ht : s.target i = true) :
    s.addHold x i = (s.putHold x i).targetTurnsOpen i ∧ (s.putHold x i).has x.kind i = true := by
  have hp : s.present i = true := (Bool.and_eq_true_iff.1 ht).1
  have hh := State.has_putHold hx hp
  unfold State.addHold
  exact ⟨if_pos ⟨ht, State.target_of_has hh⟩, hh⟩

theorem State.putHold_sseq (x : Hold) (i : StringId) (s : State) : (s.putHold x i).sseq = s.sseq := by
  obtain ⟨r, q, y, e⟩ := State.putHold_eq x i s
  rw [e]

/-- A hold comes to a string of the list: `u` is the part when its turn comes. -/
structure TurnOf (x : Hold) (i : StringId) (s u t : State) : Prop where
  before : Deeds False (· ≠ i) s u
  after : Deeds False (· ≠ i) (u.addHold x i) t

theorem TurnOf.restsOpen_put (h : TurnOf x i s u t) (hx : x.kind ≠ .switch) (ho : s.RestsOpen) : (u.putHold x i).RestsOpen :=
  Deeds.restsOpen (R := False) (T := fun _ => True) ((Deeds.refl u).deed (.putHold trivial x hx)) (h.before.restsOpen ho)

theorem TurnOf.below_put (h : TurnOf x i s u t) : (u.putHold x i).below i = s.below i :=
  (State.below_of_beyond (State.putHold_beyond x i u) i).trans (State.below_of_beyond h.before.beyond i)

/-- A CLOSED or RAMPING string is turned off and on its way to OPEN (R85, R86). -/
theorem TurnOf.interrupted (h : TurnOf x i s u t) (hx : x.kind ≠ .switch) (hg : s.gsu.state = .idle) (ho : s.RestsOpen)
    (ht : s.target i = true) (hs : s.switchState i = .ramping ∨ s.switchState i = .closed) :
    (t.sw i).drive = .off ∧
    t.switchState i ∈ (if s.below i = true then [.pendingOpen, .relayOpening, .opened] else [.interrupting]) ∧
    t.arcd.intervalBlank = true ∧
    (s.switchState i = .closed → (t.eval i).mark = false ∧ (t.eval i).reverseDwell = 0 ∧ (t.eval i).overDwell = 0 ∧
      (t.rcl[i]).stable = none) ∧
    (s.switchState i = .ramping → i ∉ t.arcd.ramping) := by
  obtain ⟨own, has⟩ := State.addHold_turns hx (h.before.target hg (fun e => e rfl) ht)
  have same : (u.putHold x i).switchState i = s.switchState i := by
    rw [State.switchState_putHold]
    exact congrArg Switch.state (h.before.rests (fun e => e rfl) (by rcases hs with e | e <;> rw [e] <;> decide)
      (fun e => e.elim) (fun e => e.elim)).1
  have low := h.below_put
  have rests := h.restsOpen_put hx ho
  have rest := h.after
  generalize u.putHold x i = v at own has same low rests
  have turn : u.addHold x i = (v.interruptQ i).arbiter := by
    rw [own, State.targetTurnsOpen]
    rcases hs with e | e <;> rw [same, e]
  have made : Deeds False (fun _ => True) v (v.interruptQ i) := (Deeds.refl v).interruptQ (by rwa [same]) trivial
  have d : Deeds False (· ≠ i) (v.interruptQ i) t :=
    ((Deeds.refl _).arbiter fun _ => made.restsOpen rests).trans (turn ▸ rest)
  obtain ⟨state, drive, strings, blank, ramping⟩ := v.interruptQ_leaves i
  rw [same] at strings ramping
  rw [low] at state
  have has' := made.has (fun e => hx e) has
  have low' : (v.interruptQ i).below i = s.below i := (State.below_of_beyond made.beyond i).trans low
  refine ⟨d.staysOff id drive, ?_, (d.arcd id (j := i)).1 blank, fun hc => ?_, fun hr m => ramping hr ((d.arcd id).2 m)⟩
  · by_cases hb : s.below i = true
    · rw [interruptedTo, if_pos hb] at state
      rw [if_pos hb]
      exact (d.opensBelow id hx has' (.inr ⟨low'.trans hb, .inl state⟩)).1.mem
    · rw [interruptedTo, if_neg hb] at state
      rw [if_neg hb, d.waitsCurrent id (low'.trans (Bool.eq_false_iff.2 hb)) (.inl state), state]
      exact List.mem_singleton.2 rfl
  · obtain ⟨e1, e2⟩ := strings hc
    have open_ : (v.interruptQ i).switchState i ≠ .closed := by
      rw [state, interruptedTo]
      split <;> decide
    obtain ⟨-, d1, d2⟩ := d.strings_open open_
    rw [d1, d2, e1, e2]
    exact ⟨rfl, rfl, rfl, rfl⟩

/-- A string in RAMP_WAIT leaves the list for PENDING_OPEN, and goes on where its current is below I_zero (R85). -/
theorem TurnOf.unlisted (h : TurnOf x i s u t) (hx : x.kind ≠ .switch) (hg : s.gsu.state = .idle) (ho : s.RestsOpen)
    (ht : s.target i = true) (hs : s.switchState i = .rampWait) :
    i ∉ t.sseq.rampList ∧ (t.sw i).drive = (s.sw i).drive ∧
    t.switchState i ∈ (if s.below i = true then [.pendingOpen, .relayOpening, .opened] else [.curtailWait]) := by
  obtain ⟨own, has⟩ := State.addHold_turns hx (h.before.target hg (fun e => e rfl) ht)
  have sw : (u.putHold x i).sw i = s.sw i := by
    rw [State.sw, State.putHold_sseq]
    exact (h.before.rests (fun e => e rfl) (by rw [hs]; decide) (fun e => e.elim) (fun e => e.elim)).1
  have low := h.below_put
  have rests := h.restsOpen_put hx ho
  have rest := h.after
  generalize u.putHold x i = v at own has sw low rests
  have here : v.switchState i = .rampWait := (congrArg Switch.state sw).trans hs
  have turn : u.addHold x i = ((v.leaveRampList i).pendingOpenQ i).arbiter := by
    rw [own, State.targetTurnsOpen, here]
  have left : Deeds False (fun _ => True) v (v.leaveRampList i) := (Deeds.refl v).deed (.leaveRampList trivial)
  have enters : Deeds False (fun _ => True) v ((v.leaveRampList i).enter i .pendingOpen none) :=
    left.enter (.unlisted here trivial) none
  have waits : Deeds False (fun _ => True) v ((v.leaveRampList i).pendingOpenQ i) :=
    left.pendingOpenQ (.unlisted here trivial)
  have state : ((v.leaveRampList i).enter i .pendingOpen none).switchState i = .pendingOpen := by
    rw [State.switchState_enter, if_pos rfl]
  have after : Deeds False (· ≠ i) ((v.leaveRampList i).pendingOpenQ i) t :=
    ((Deeds.refl _).arbiter fun _ => waits.restsOpen rests).trans (turn ▸ rest)
  have d : Deeds False (· ≠ i) ((v.leaveRampList i).enter i .pendingOpen none) t :=
    ((Deeds.refl _).afterPendingOpen state).trans after
  refine ⟨d.unlisted id ?_, ?_, ?_⟩
  · rw [(State.queue_enter ..).2.2]
    exact fun m => by simpa using (List.mem_filter.1 m).2
  · rw [d.drive id fun e => e rfl, State.sw_enter, if_pos rfl, ← sw]
    rfl
  · by_cases hb : s.below i = true
    · rw [if_pos hb]
      exact (d.opensBelow id hx (enters.has hx has)
        (.inr ⟨(State.below_of_beyond enters.beyond i).trans (low.trans hb), .inl state⟩)).1.mem
    · have hb := Bool.eq_false_iff.2 hb
      have curtail : ((v.leaveRampList i).pendingOpenQ i).switchState i = .curtailWait := by
        rw [State.switchState_pendingOpenQ, if_pos rfl, if_neg]
        have k := (enters.joinQueue i .toOpen).beyond
        rw [State.below_of_beyond k, low, hb]
        decide
      rw [hb, if_neg (by decide), after.waitsCurrent id ((State.below_of_beyond waits.beyond i).trans (low.trans hb))
        (.inr curtail), curtail]
      exact List.mem_singleton.2 rfl

/-- A string in PENDING_CLOSE is back in OPEN, but where its pulse was granted first (R84). -/
theorem TurnOf.waiting (h : TurnOf x i s u t) (hx : x.kind ≠ .switch) (hg : s.gsu.state = .idle)
    (ht : s.target i = true) (hs : s.switchState i = .pendingClose) (hf : s.feedback i = false) :
    t.switchState i ∈ [SwitchState.opened, .relayClosing] := by
  obtain ⟨own, has⟩ := State.addHold_turns hx (h.before.target hg (fun e => e rfl) ht)
  have state := h.before.waitsClose id (fun e => e rfl) hf (.inl hs)
  rw [← State.switchState_putHold x i u] at state
  have shown : (u.putHold x i).feedback i = false :=
    ((State.feedback_of_beyond (State.putHold_beyond x i u) i).trans (State.feedback_of_beyond h.before.beyond i)).trans hf
  have rest := h.after
  rw [own] at rest
  generalize u.putHold x i = v at has state shown rest
  rcases state with e | e
  · have turn : v.targetTurnsOpen i = (v.leaveQueue i).enter i .opened none := by rw [State.targetTurnsOpen, e]
    have made : Deeds False (fun _ => True) v ((v.leaveQueue i).enter i .opened none) :=
      ((Deeds.refl v).leaveQueue i).enter (.turned e trivial) none
    have opened : ((v.leaveQueue i).enter i .opened none).switchState i = .opened := by
      rw [State.switchState_enter, if_pos rfl]
    rw [turn] at rest
    rw [(rest.opensBelow id hx (made.has hx has) (.inl opened)).2 opened]
    decide
  · have turn : v.targetTurnsOpen i = v := by rw [State.targetTurnsOpen, e]
    rw [turn] at rest
    rw [State.switchState, rest.goesOnClosing id (fun e => e rfl) e shown, ← State.switchState, e]
    decide

/-- A string in RELAY_CLOSING goes on with its pulse (R84). -/
theorem TurnOf.closing (h : TurnOf x i s u t) (ho : s.RestsOpen) (hs : s.switchState i = .relayClosing) : t.sw i = s.sw i := by
  have hf : s.feedback i = false := ho i (by rw [hs]; decide)
  have sw := h.before.goesOnClosing id (fun e => e rfl) hs hf
  have sw' : (u.putHold x i).sw i = s.sw i := by
    rw [State.sw, State.putHold_sseq]
    exact sw
  have shown : (u.putHold x i).feedback i = false :=
    ((State.feedback_of_beyond (State.putHold_beyond x i u) i).trans (State.feedback_of_beyond h.before.beyond i)).trans hf
  have here : (u.putHold x i).switchState i = .relayClosing := (congrArg Switch.state sw').trans hs
  have turn : u.addHold x i = u.putHold x i := by
    unfold State.addHold
    simp only []
    split
    · rw [State.targetTurnsOpen, here]
    · rfl
  have rest := h.after
  rw [turn] at rest
  exact (rest.goesOnClosing id (fun e => e rfl) here shown).trans sw'

end Sys2Proof.Machine
end

section
/-! SUPPORT. The records after a HOLD, and the statement on it. -/

namespace Sys2Proof.Machine

variable {R : Prop} {T : StringId → Prop} {s t u : State} {i j : StringId} {k : HoldKind} {x : Hold} {p : Port}
  {b : List Byte}

/-! ### Records -/

/-- A target's turn to OPEN can take SWITCH alone, from a string whose retest ends on the way (R97). -/
theorem State.targetTurnsOpen_records (hg : s.gsu.state = .idle) (i : StringId) :
    Records s (s.targetTurnsOpen i) s.str := by
  have opens {v : State} {n : Nat} (k : Acts i True n s v) : Records s v.arbiter s.str :=
    (k.records hg).trans ((Moves.arbiter v).records (k.search.trans hg)) k.retest
  have free (n : ¬True) {c : Prop} : c := absurd trivial n
  have interrupted : Records s (s.interruptQ i).arbiter s.str := by
    have k := ((Acts.refl i True s).modSwitch fun w => { w with drive := .off }).enter .interrupting
      (some (s.after (s.cfgNat .tInterrupt))) fun n => free n
    rw [State.interruptQ_eq]
    split
    · exact opens (k.pendingOpenQ fun n => free n)
    · exact opens k
  unfold State.targetTurnsOpen
  split
  · exact (((Acts.refl i True s).leaveQueue).enter .opened none fun n => free n).records hg
  · have k : Acts i True 1 (s.leaveRampList i) ((s.leaveRampList i).pendingOpenQ i) :=
      (Acts.refl i True _).pendingOpenQ fun n => free n
    exact (k.records hg).trans ((Moves.arbiter _).records (k.search.trans hg)) k.retest
  · exact interrupted
  · exact interrupted
  · exact fun _ => .inl rfl

/-- The kinds that a party puts on a string do not meet SWITCH (R41, R43). -/
theorem StringRecord.take_put_party (r : StringRecord) (p : Port) (code : LockCode) :
    (r.take .switch).put (partyHold p code) = (r.put (partyHold p code)).take .switch := by
  cases p <;> simp only [StringRecord.take, StringRecord.put, partyHold, Hold.kind, HoldKind.slot] <;>
    rw [Vector.set_comm] <;> decide

/-- A record that is the one given, but for a SWITCH that a retest of its string has ended (R97). -/
def Retested (c : Bool) (w r : StringRecord) : Prop := r = w ∨ (c = true ∧ r = w.take .switch)

theorem Retested.trans {c d : Bool} {r w v : StringRecord} (h : Retested c w r) (k : Retested d r v)
    (hd : d = true → c = true) : Retested c w v := by
  rcases k with rfl | ⟨hc, rfl⟩
  · exact h
  · refine .inr ⟨hd hc, ?_⟩
    rcases h with rfl | ⟨-, rfl⟩
    · rfl
    · exact StringRecord.take_switch_twice w

theorem Retested.put {c : Bool} {r w : StringRecord} (h : Retested c w r) (p : Port) (code : LockCode) :
    Retested c (w.put (partyHold p code)) (r.put (partyHold p code)) := by
  rcases h with rfl | ⟨hc, rfl⟩
  · exact .inl rfl
  · exact .inr ⟨hc, StringRecord.take_put_party ..⟩

/-- The record of a string after a hold of a party is added to it: with the kind, where it lacked it. -/
theorem State.addHold_record (hg : s.gsu.state = .idle) (hp : s.present i = true) (code : LockCode) :
    Retested (s.underRetest i) (if s.has (partyKind p) i = true then s.str i else (s.str i).put (partyHold p code))
      ((s.addHold (partyHold p code) i).str i) := by
  have kind := partyHold_kind p code
  have put : (s.putHold (partyHold p code) i).str i =
      if s.has (partyKind p) i = true then s.str i else (s.str i).put (partyHold p code) := by
    split
    · next hh =>
      refine (State.str_putHold_or _ (kind ▸ (partyKind_ne p).1) i i s).resolve_right fun ⟨_, _, hn, _⟩ => ?_
      rw [kind, hh] at hn
      cases hn
    · next hh =>
      rw [State.str_putHold _ _ _ _ hp (kind ▸ Bool.eq_false_iff.2 hh), if_pos rfl]
  obtain ⟨r, q, y, e⟩ := State.putHold_eq (partyHold p code) i s
  have turned := State.targetTurnsOpen_records (s := s.putHold (partyHold p code) i) (by rw [e]; exact hg) i i
  have retest : (s.putHold (partyHold p code) i).underRetest i = s.underRetest i := by rw [e]; rfl
  rw [put, retest] at turned
  unfold State.addHold
  by_cases hc : s.target i = true ∧ (s.putHold (partyHold p code) i).target i = false
  · rw [if_pos hc]
    exact turned
  · rw [if_neg hc]
    exact .inl put

/-- The records after the holds of a party are added to a list of present strings. -/
theorem State.addHolds_records (hg : s.gsu.state = .idle) (code : LockCode) {xs : List StringId} (hd : xs.Nodup)
    (hp : ∀ i ∈ xs, s.present i = true) (i : StringId) :
    Retested (s.underRetest i)
      (if i ∈ xs ∧ s.has (partyKind p) i = false then (s.str i).put (partyHold p code) else s.str i)
      ((s.addHolds (partyHold p code) xs).str i) := by
  have hx : (partyHold p code).kind ≠ .switch := partyHold_kind p code ▸ (partyKind_ne p).1
  have run {s t : State} {T : StringId → Prop} (d : Deeds True T s t) (hg : s.gsu.state = .idle) (hT : ¬T i) :
      Retested (s.underRetest i) (s.str i) (t.str i) := d.records hg hT
  by_cases hi : i ∈ xs
  · obtain ⟨u, d1, d2⟩ := addHolds_split (R := True) (x := partyHold p code) hi hd hx fun n => absurd trivial n
    have before := run d1 hg fun e => e rfl
    have hgu : u.gsu.state = .idle := d1.search.trans hg
    have own := State.addHold_record (p := p) hgu ((d1.still.present i).trans (hp i hi)) code
    have mine : Deeds True (fun _ => True) u (u.addHold (partyHold p code) i) :=
      (Deeds.refl u).addHold (fun n => absurd trivial n) trivial _ hx
    have after := run d2 (mine.search.trans hgu) fun e => e rfl
    have has : u.has (partyKind p) i = s.has (partyKind p) i := by
      rcases before with e | ⟨-, e⟩ <;> rw [State.has, e]
      · rfl
      · rw [StringRecord.has_take, decide_eq_true (partyKind_ne p).1]
        rfl
    have base : Retested (s.underRetest i)
        (if i ∈ xs ∧ s.has (partyKind p) i = false then (s.str i).put (partyHold p code) else s.str i)
        (if u.has (partyKind p) i = true then u.str i else (u.str i).put (partyHold p code)) := by
      rw [has]
      by_cases hh : s.has (partyKind p) i = true
      · simpa [hi, hh] using before
      · simpa [hi, hh] using before.put p code
    exact (base.trans own fun e => d1.retest e).trans after fun e => d1.retest (mine.retest e)
  · rw [if_neg fun e => hi e.1]
    exact run (Deeds.addHolds (T := (· ∈ xs)) (fun n => absurd trivial n) _ hx xs (fun _ m => m) (Deeds.refl s)) hg hi

/-! ### The statement -/

/-- What a HOLD leaves once its work is done and before its end. -/
theorem State.held_leaves (hp : ∀ i, listed (listOf p b) i → s.present i = true) (hg : s.gsu.state = .idle) :
    Still s (s.held p b) ∧ (s.held p b).gsu.state = .idle ∧
    (s.held p b).beyondSwitching = s.beyondSwitching ∧
    (∀ i, Retested (s.underRetest i)
      (if i ∈ s.gains p b then (s.str i).put (partyHold p (lockCodeOf b)) else s.str i) ((s.held p b).str i)) ∧
    (s.gains p b ≠ [] → Lately (s.held p b) (s.eventNow .holdChanged none (setBits (s.gains p b))
      (partyCode (partyKind p) + 0x100 * (ChangeCause.port p).code)) 1) := by
  have hx : (partyHold p (lockCodeOf b)).kind ≠ .switch := partyHold_kind p (lockCodeOf b) ▸ (partyKind_ne p).1
  have d : Deeds True (fun _ => True) s (s.addHolds (partyHold p (lockCodeOf b)) (stringsOf (listOf p b))) :=
    Deeds.addHolds (fun n => absurd trivial n) _ hx _ (fun _ _ => trivial) (Deeds.refl s)
  have records := State.addHolds_records (p := p) hg (lockCodeOf b) (stringsOf_nodup (listOf p b))
    fun i m => hp i (mem_stringsOf.1 m)
  have held : Deeds True (fun _ => True) s (s.held p b) := by
    unfold State.held State.emitHoldChanged
    exact Deeds.ite d (d.emit _ _ _ _)
  refine ⟨held.still, held.search.trans hg, held.beyond, fun i => ?_, fun hn => ?_⟩
  · have mem : i ∈ s.gains p b ↔ (i ∈ stringsOf (listOf p b) ∧ s.has (partyKind p) i = false) := by
      rw [State.mem_gains, mem_stringsOf]
    have str : (s.held p b).str i = (s.addHolds (partyHold p (lockCodeOf b)) (stringsOf (listOf p b))).str i := by
      unfold State.held State.emitHoldChanged
      split
      · rfl
      · obtain ⟨g, e⟩ := State.emit_eq .holdChanged none (setBits (s.gains p b)) _
          (s.addHolds (partyHold p (lockCodeOf b)) (stringsOf (listOf p b)))
        rw [e]
        rfl
    rw [str, if_congr mem rfl rfl]
    exact records i
  · have now : (s.addHolds (partyHold p (lockCodeOf b)) (stringsOf (listOf p b))).uptime = s.uptime := by
      rw [State.uptime, d.still.now]
      rfl
    have made : s.held p b = (s.addHolds (partyHold p (lockCodeOf b)) (stringsOf (listOf p b))).emit .holdChanged none
        (setBits (s.gains p b)) (partyCode (partyKind p) + 0x100 * (ChangeCause.port p).code) := by
      unfold State.held State.emitHoldChanged
      rw [if_neg (by simpa using hn), if_pos rfl, add_zero]
    have event : s.eventNow .holdChanged none (setBits (s.gains p b))
        (partyCode (partyKind p) + 0x100 * (ChangeCause.port p).code) = (s.addHolds (partyHold p (lockCodeOf b))
          (stringsOf (listOf p b))).eventNow .holdChanged none (setBits (s.gains p b))
          (partyCode (partyKind p) + 0x100 * (ChangeCause.port p).code) := by
      rw [State.eventNow, State.eventNow, now]
    rw [made, event]
    exact Lately.route _ rfl _

/-- The turn of a string of a HOLD's list, where the relays of waiting strings show open. -/
theorem State.held_turn (ho : s.RestsOpen) (hi : listed (listOf p b) i) :
    ∃ u, TurnOf (partyHold p (lockCodeOf b)) i s u (s.held p b) := by
  have hx : (partyHold p (lockCodeOf b)).kind ≠ .switch := partyHold_kind p (lockCodeOf b) ▸ (partyKind_ne p).1
  obtain ⟨u, d1, d2⟩ := addHolds_split (R := False) (mem_stringsOf.2 hi) (stringsOf_nodup _) hx fun _ => ho
  refine ⟨u, d1, ?_⟩
  unfold State.held State.emitHoldChanged
  exact Deeds.ite d2 (d2.emit _ _ _ _)

theorem State.held_slot (ho : s.RestsOpen) : (s.held p b).sseq.slot = s.sseq.slot := by
  have hx : (partyHold p (lockCodeOf b)).kind ≠ .switch := partyHold_kind p (lockCodeOf b) ▸ (partyKind_ne p).1
  have d : Deeds False (fun _ => True) s (s.addHolds (partyHold p (lockCodeOf b)) (stringsOf (listOf p b))) :=
    Deeds.addHolds (fun _ => ho) _ hx _ (fun _ _ => trivial) (Deeds.refl s)
  have held : Deeds False (fun _ => True) s (s.held p b) := by
    unfold State.held State.emitHoldChanged
    exact Deeds.ite d (d.emit _ _ _ _)
  exact held.slot id

/-- Settles O25: the strings of the list take their turns one by one, and each is left by its state. -/
theorem holdAddsTheSendersKind : Obligations.HoldAddsTheSendersKind := by
  intro s p b ha hl hm
  have run := exec_hold ha hl hm
  have present : ∀ i, listed (listOf p b) i → (s.hear p).present i = true := fun i hi => by
    obtain ⟨-, j, hj, hp, -⟩ := hl.2.2 _ hi
    have e : i = j := Option.some.inj ((stringOfByte_number i).symm.trans (hj ▸ stringOfByte_number j))
    exact e ▸ hp
  refine ⟨⟨_, run, fun i hi => ?_⟩, fun hc => ⟨_, run, ?_⟩⟩
  · have o := State.has_outlasts (i := i) (partyKind_ne p)
    rw [State.has, State.str_conclude]
    exact o.settle (o.takeReports (State.has_held (present i hi) hi))
  · obtain ⟨still, hg, beyond, records, event⟩ := State.held_leaves (s := s.hear p) present hc.1
    obtain ⟨a, g, c, o, x, w, e⟩ := State.conclude_eq (p := p) (q := .hold) (r := .done) (body := [0]) hg
      (partyWaits p (s.gains p b))
    have end_ : ((s.hear p).held p b).conclude p .hold (partyWaits p (s.gains p b)) .done [0] = _ := e
    have free : ((s.hear p).port p).outstanding = none := by
      rw [State.port_hear, if_pos rfl]
      exact ha.2.2.1
    have port : ((s.hear p).held p b).port p = (s.hear p).port p := still.port p fun _ => free
    have out : (((s.hear p).held p b).port p).outstanding = none := port ▸ free
    have turn (hr : s.relaysOpen) {i : StringId} (hi : i ∈ s.gains p b) :
        ∃ u, TurnOf (partyHold p (lockCodeOf b)) i (s.hear p) u ((s.hear p).held p b) :=
      State.held_turn (State.restsOpen_of_relaysOpen (s := s.hear p) hr) (State.mem_gains.1 hi).1
    have hx : (partyHold p (lockCodeOf b)).kind ≠ .switch := partyHold_kind p (lockCodeOf b) ▸ (partyKind_ne p).1
    refine ⟨?_, fun hr i hi hs ht => ?_, fun hr i hi hs ht hf => ?_, fun hr i hi hs => ?_, fun hr i hi hs ht => ?_,
      fun hr i hi hs ht => ?_, fun hr => ?_, fun hn => (event hn).conclude hg (by decide) _, ?_,
      (State.conclude_beyond hg _).trans beyond⟩
    · rw [end_]
      exact records
    · obtain ⟨u, h⟩ := turn hr hi
      obtain ⟨h1, h2, h3, h4, -⟩ := h.interrupted hx hc.1 (State.restsOpen_of_relaysOpen hr) ht (.inr hs)
      obtain ⟨h5, h6, h7, h8⟩ := h4 hs
      rw [end_]
      refine ⟨h1, ?_, h5, h6, h7, h8, h3⟩
      split at h2
      · exact List.mem_cons_of_mem _ h2
      · exact List.mem_cons.2 (.inl (List.mem_singleton.1 h2))
    · obtain ⟨u, h⟩ := turn hr hi
      rw [end_]
      exact h.waiting hx hc.1 ht hs hf
    · obtain ⟨u, h⟩ := turn hr hi
      rw [end_]
      exact h.closing (State.restsOpen_of_relaysOpen hr) hs
    · obtain ⟨u, h⟩ := turn hr hi
      rw [end_]
      exact h.unlisted hx hc.1 (State.restsOpen_of_relaysOpen hr) ht hs
    · obtain ⟨u, h⟩ := turn hr hi
      obtain ⟨h1, h2, h3, -, h5⟩ := h.interrupted hx hc.1 (State.restsOpen_of_relaysOpen hr) ht (.inl hs)
      rw [end_]
      exact ⟨h1, h5 hs, h3, h2⟩
    · rw [end_]
      exact State.held_slot (State.restsOpen_of_relaysOpen (s := s.hear p) hr)
    · split
      · next hw =>
        have waits : partyWaits p (s.gains p b) = [.holds] := if_pos hw
        rw [waits]
        exact concludes_deferred (by decide) hg port out
      · next hw =>
        have waits : partyWaits p (s.gains p b) = [] := if_neg hw
        rw [waits]
        exact concludes_replied hg port out

end Sys2Proof.Machine
end

section
/-! SUPPORT. What a string made ABSENT loses: its holds and their details, its counts, its evaluator's and timers' part, and
its place in a search (R37, R52, R69, R141). -/

namespace Sys2Proof.Machine

variable {s t u : State} {i j : StringId} {k : HoldKind}

/-! ### Exact records (R43, R44) -/

theorem StringRecord.exact.take {r : StringRecord} (h : r.exact) (k : HoldKind) : (r.take k).exact := by
  obtain ⟨h1, h2, h3, h4⟩ := h
  refine ⟨?_, ?_, ?_, ?_⟩ <;> rw [StringRecord.has_take]
  · cases k <;> simp [StringRecord.take, h1]
  · cases k <;> simp [StringRecord.take, h2]
  · cases k <;> simp [StringRecord.take, h3]
  · cases k <;> simp [StringRecord.take, h4]

/-- The record after a kind has been taken, where the string carries it. -/
def StringRecord.without (r : StringRecord) (k : HoldKind) : StringRecord := if r.holds[k.slot] then r.take k else r

theorem StringRecord.exact.without {r : StringRecord} (h : r.exact) (k : HoldKind) : (r.without k).exact := by
  unfold StringRecord.without
  split
  · exact h.take k
  · exact h

theorem StringRecord.has_without (r : StringRecord) (x k : HoldKind) :
    (r.without x).holds[k.slot] = (decide (k ≠ x) && r.holds[k.slot]) := by
  unfold StringRecord.without
  split
  · exact StringRecord.has_take r x k
  · next h =>
    by_cases e : k = x
    · subst e
      simpa using h
    · simp [e]

theorem StringRecord.holds_without {r : StringRecord} (ks : List HoldKind) :
    (∀ k ∈ ks, (ks.foldl StringRecord.without r).holds[k.slot] = false) ∧
    ∀ k : HoldKind, r.holds[k.slot] = false → (ks.foldl StringRecord.without r).holds[k.slot] = false := by
  induction ks generalizing r with
  | nil => exact ⟨fun k m => (nomatch m), fun _ h => h⟩
  | cons x ks ih =>
    obtain ⟨h1, h2⟩ := ih (r := r.without x)
    refine ⟨fun k m => ?_, fun k h => h2 k (by rw [StringRecord.has_without, h, Bool.and_false])⟩
    rcases List.mem_cons.1 m with rfl | m
    · refine h2 k ?_
      rw [StringRecord.has_without, decide_eq_false (by simp), Bool.false_and]
    · exact h1 k m

theorem HoldSet.eq_noHolds {v : HoldSet} (h : ∀ k : HoldKind, v[k.slot] = false) : v = noHolds := by
  refine Vector.ext fun n hn => ?_
  have slot : ∀ m : Fin 14, (HoldKind.ofNat m).slot = m := by decide
  have hs : ((HoldKind.ofNat n).slot : Nat) = n := congrArg Fin.val (slot ⟨n, hn⟩)
  have e := h (HoldKind.ofNat n)
  simp only [Fin.getElem_fin, hs] at e
  rw [e, noHolds, Vector.getElem_replicate]

theorem mem_allHoldKinds (k : HoldKind) : k ∈ allHoldKinds := by cases k <;> decide

/-- A record that has lost every kind carries none. -/
theorem StringRecord.holds_stripped (r : StringRecord) :
    (allHoldKinds.foldl StringRecord.without r).holds = noHolds :=
  HoldSet.eq_noHolds fun k => (StringRecord.holds_without allHoldKinds).1 k (mem_allHoldKinds k)

/-- An exact record without a hold or a count is the empty one. -/
theorem StringRecord.exact.empty {r : StringRecord} (h : r.exact) (hn : r.holds = noHolds) :
    { r with overcurrentCount := 0 } = emptyRecord := by
  obtain ⟨h1, h2, h3, h4⟩ := h
  rw [hn] at h1 h2 h3 h4
  have e1 := Option.isSome_eq_false_iff.1 (h1.trans rfl)
  have e2 := Option.isSome_eq_false_iff.1 (h2.trans rfl)
  have e3 := Option.isSome_eq_false_iff.1 (h3.trans rfl)
  have e4 := Option.isSome_eq_false_iff.1 (h4.trans rfl)
  rw [Option.isNone_iff_eq_none] at e1 e2 e3 e4
  rw [emptyRecord, hn, e1, e2, e3, e4]

theorem StringRecord.exact.stripped {r : StringRecord} (h : r.exact) :
    { allHoldKinds.foldl StringRecord.without r with overcurrentCount := 0 } = emptyRecord := by
  have keeps (ks : List HoldKind) : ∀ r : StringRecord, r.exact → (ks.foldl StringRecord.without r).exact := by
    induction ks with
    | nil => exact fun _ h => h
    | cons k ks ih => exact fun r h => ih _ (h.without k)
  exact (keeps allHoldKinds r h).empty (StringRecord.holds_stripped r)

/-! ### The holds of a string that is no longer PRESENT -/

/-- What the removal of a hold can change, but for the string's record, its reclose timer and the shed stack. -/
def Loses (s t : State) : Prop :=
  ∃ r q c o x y, t = { s with
    stab := { s.stab with strings := r }, cfs := { s.cfs with queue := q }, mfe := { s.mfe with capture := c }
    ports := { s.ports with port := o }, tsc := { s.tsc with stack := x }, rcl := y }

theorem Loses.refl (s : State) : Loses s s := ⟨_, _, _, _, _, _, rfl⟩

theorem Loses.trans (h : Loses s t) (k : Loses t u) : Loses s u := by
  obtain ⟨r, q, c, o, x, y, rfl⟩ := h
  obtain ⟨r, q, c, o, x, y, rfl⟩ := k
  exact ⟨_, _, _, _, _, _, rfl⟩

theorem State.abandonCapture_loses (i : StringId) (s : State) : ∃ c o, s.abandonCapture i =
    { s with mfe := { s.mfe with capture := c }, ports := { s.ports with port := o } } := by
  unfold State.abandonCapture
  split
  · split
    · obtain ⟨o, e⟩ := State.endUnitWait_eq .capture (s.modMfe fun m => { m with capture := none })
      exact ⟨_, o, e⟩
    · exact ⟨_, _, rfl⟩
  · exact ⟨_, _, rfl⟩

/-- The shed stack without a string's entries (R52). -/
def State.unshed (i : StringId) (s : State) : List ShedEntry := s.tsc.stack.filter fun e => e.string != i

/-- Kinds taken from a string that is no longer PRESENT, and what their removals are reported to (R52). -/
structure Took (ks : List HoldKind) (i : StringId) (s t : State) : Prop where
  loses : Loses s t
  str : ∀ j, t.str j = if j = i then ks.foldl StringRecord.without (s.str i) else s.str j
  shed : .thermal ∈ ks → s.has .thermal i = true → t.tsc.stack = s.unshed i
  unshed : (.thermal ∈ ks → s.has .thermal i = false) → t.tsc.stack = s.tsc.stack
  reclose : .overcurrent ∈ ks → s.has .overcurrent i = true → (t.rcl[i]).reclose = none
  stopped : (s.rcl[i]).reclose = none → (t.rcl[i]).reclose = none
  timers : ∀ j : StringId, (t.rcl[j]).stable = (s.rcl[j]).stable

theorem State.takeHold_took (hp : s.present i = false) (k : HoldKind) : Took [k] i s (s.takeHold k i) := by
  have other {x : HoldKind} {c : Prop} (hx : x ≠ k) (m : x ∈ [k]) : c := absurd (List.mem_singleton.1 m) hx
  by_cases hh : s.has k i = true
  · have hf : s.freezes k i = false := by simp [State.freezes, hp]
    have e : s.takeHold k i = State.reportRemoval k i (if k.stored = true
        then (s.modString i fun r => r.take k).askCommit .holds [] else s.modString i fun r => r.take k) := by
      unfold State.takeHold
      rw [if_neg (by simp [hh])]
      simp only [hf, Bool.false_eq_true, if_false]
    have taken : ∀ j, (s.modString i fun r => r.take k).str j =
        if j = i then [k].foldl StringRecord.without (s.str i) else s.str j := fun j => by
      have : (s.str i).without k = (s.str i).take k := if_pos hh
      rw [State.str_modString, List.foldl_cons, this]
      rfl
    rw [e]
    cases k with
    | thermal =>
      have none_ : (s.has .thermal i = false) → False := fun h => by
        rw [hh] at h
        cases h
      exact ⟨⟨_, _, _, _, _, _, rfl⟩, taken, fun _ _ => rfl, fun h => (none_ (h (List.mem_singleton.2 rfl))).elim,
        other (by decide), id, fun _ => rfl⟩
    | overcurrent =>
      have rcl (j : StringId) := State.rcl_modRcl i j (fun t => { t with reclose := none })
        (s.modString i fun r => r.take .overcurrent)
      have stopped := congrArg RecloseTimers.reclose ((rcl i).trans (if_pos rfl))
      refine ⟨⟨_, _, _, _, _, _, rfl⟩, taken, other (by decide), fun _ => rfl, fun _ _ => stopped, fun _ => stopped,
        fun j => (congrArg RecloseTimers.stable (rcl j)).trans ?_⟩
      split
      · next hj =>
        rw [hj]
        rfl
      · rfl
    | svc =>
      obtain ⟨c, o, ha⟩ := State.abandonCapture_loses i ((s.modString i fun r => r.take .svc).askCommit .holds [])
      simp only [HoldKind.stored, if_true, State.reportRemoval]
      rw [ha]
      exact ⟨⟨_, _, _, _, _, _, rfl⟩, taken, other (by decide), fun _ => rfl, other (by decide), id, fun _ => rfl⟩
    | _ =>
      exact ⟨⟨_, _, _, _, _, _, rfl⟩, taken, other (by decide), fun _ => rfl, other (by decide), id, fun _ => rfl⟩
  · have hn := Bool.eq_false_iff.2 hh
    have without : (s.str i).without k = s.str i := if_neg hh
    rw [State.takeHold_none k i s hn]
    refine ⟨Loses.refl s, fun j => ?_, fun m h => ?_, fun _ => rfl, fun m h => ?_, id, fun _ => rfl⟩
    · by_cases hj : j = i
      · rw [if_pos hj, List.foldl_cons, without, hj]
        rfl
      · rw [if_neg hj]
    · exact absurd (List.mem_singleton.1 m ▸ h) hh
    · exact absurd (List.mem_singleton.1 m ▸ h) hh

theorem Took.has {ks : List HoldKind} (h : Took ks i s t) (k : HoldKind) :
    (k ∈ ks → t.has k i = false) ∧ (s.has k i = false → t.has k i = false) := by
  obtain ⟨h1, h2⟩ := StringRecord.holds_without (r := s.str i) ks
  rw [State.has, State.has, h.str i, if_pos rfl]
  exact ⟨h1 k, h2 k⟩

theorem Took.cons {ks : List HoldKind} (h : Took [k] i s t) (l : Took ks i t u) : Took (k :: ks) i s u := by
  have has (x : HoldKind) (hx : x ≠ k) : t.has x i = s.has x i := by
    rw [State.has, h.str i, if_pos rfl, List.foldl_cons, List.foldl_nil, StringRecord.has_without, decide_eq_true hx]
    rfl
  refine ⟨h.loses.trans l.loses, fun j => ?_, fun m hs => ?_, fun hs => ?_, fun m hs => ?_, fun hs => l.stopped (h.stopped hs),
    fun j => (l.timers j).trans (h.timers j)⟩
  · rw [l.str j, h.str i, if_pos rfl]
    split
    · rfl
    · next hj => rw [h.str j, if_neg hj]
  · by_cases hk : HoldKind.thermal = k
    · have gone : t.has .thermal i = false := (h.has _).1 (List.mem_singleton.2 hk)
      rw [l.unshed fun _ => gone, h.shed (List.mem_singleton.2 hk) hs]
    · have stack := h.unshed fun m => absurd (List.mem_singleton.1 m) hk
      rw [l.shed ((List.mem_cons.1 m).resolve_left hk) ((has _ hk).trans hs), State.unshed, stack]
      rfl
  · rw [l.unshed fun m => (h.has _).2 (hs (List.mem_cons_of_mem _ m)), h.unshed fun m =>
      hs (List.mem_cons.2 (.inl (List.mem_singleton.1 m)))]
  · by_cases hk : HoldKind.overcurrent = k
    · exact l.stopped (h.reclose (List.mem_singleton.2 hk) hs)
    · exact l.reclose ((List.mem_cons.1 m).resolve_left hk) ((has _ hk).trans hs)

theorem Loses.present (h : Loses s t) : t.present i = s.present i := by
  obtain ⟨r, q, c, o, x, y, rfl⟩ := h
  rfl

theorem State.takeAll_took (hp : s.present i = false) (ks : List HoldKind) : Took ks i s (State.takeAll i ks s) := by
  induction ks generalizing s with
  | nil =>
    refine ⟨Loses.refl s, fun j => ?_, fun m => (nomatch m), fun _ => rfl, fun m => (nomatch m), id, fun _ => rfl⟩
    split
    · next hj => rw [hj]; rfl
    · rfl
  | cons k ks ih =>
    have one := State.takeHold_took hp k
    exact one.cons (ih (one.loses.present.trans hp))

end Sys2Proof.Machine
end

section
/-! SUPPORT. The work that makes a string ABSENT, and what outlasts the search's work after it (R69, R141). -/

namespace Sys2Proof.Machine

variable {s t u : State} {i j : StringId} {k : HoldKind}

/-! ### The work -/

/-- The part with a string's presence taken from its settings, and a commit of the settings asked for. -/
def State.dropped (i : StringId) (s : State) : State :=
  (s.modStringSettings i fun c => { c with present := false }).askCommit .settings []

theorem State.present_dropped (i : StringId) (s : State) : (s.dropped i).present i = false := by
  have h := (State.strSet_modStringSettings i i (fun c => { c with present := false }) s).trans (if_pos rfl)
  exact congrArg StringSettings.present h

theorem State.dropped_took (i : StringId) (s : State) :
    Took allHoldKinds i (s.dropped i) (State.takeAll i allHoldKinds (s.dropped i)) :=
  State.takeAll_took (State.present_dropped i s) allHoldKinds

/-- The shape of a part that has stripped a string of its holds, counts and dwell. -/
theorem State.stripped_eq (i : StringId) (s : State) : ∃ g, s.stripped i =
    { State.takeAll i allHoldKinds (s.dropped i) with
      stab := ((State.takeAll i allHoldKinds (s.dropped i)).modString i fun r => { r with overcurrentCount := 0 }).stab
      seval := ((State.takeAll i allHoldKinds (s.dropped i)).modEval i fun _ => emptyEval).seval
      sseq := ((State.takeAll i allHoldKinds (s.dropped i)).modSwitch i fun w => { w with dwell := .stopped }).sseq
      gsu := ((State.takeAll i allHoldKinds (s.dropped i)).searchLoses i).gsu
      evr := { s.evr with ring := g } } := by
  have evr : (State.takeAll i allHoldKinds (s.dropped i)).evr = s.evr := by
    obtain ⟨r, q, c, o, x, y, e⟩ := (State.dropped_took i s).loses
    rw [e]
    rfl
  unfold State.stripped
  rw [← State.dropped]
  generalize State.takeAll i allHoldKinds (s.dropped i) = v at evr ⊢
  rw [← evr]
  have lost : v.searchLoses i = { v with gsu := (v.searchLoses i).gsu } := by
    unfold State.searchLoses
    split <;> rfl
  generalize (v.searchLoses i).gsu = g at lost ⊢
  rw [lost]
  unfold State.forgetEval
  simp only []
  split
  · obtain ⟨h, e⟩ := State.emit_eq .suspectCleared (some i) 0 2
      ((State.modString i (fun r => { r with overcurrentCount := 0 }) { v with gsu := g }).modEval i fun _ => emptyEval)
    rw [e]
    exact ⟨h, rfl⟩
  · exact ⟨v.evr.ring, rfl⟩

/-- A string in OPEN that enters ABSENT changes the sequencer's part alone. -/
theorem State.enter_absent (hs : s.switchState i = .opened) (timer : Option Nat) :
    s.enter i .absent timer = { s with sseq := (s.enter i .absent timer).sseq, reports := true } := by
  have e : s.enter i .absent timer = ((s.modSwitch i fun w => { w with state := .absent, timer := timer }).modSseq
      fun q => { q with
        curtail := allStrings.any fun j => decide ((q.switches[j]).state = .curtailWait) }).noteStates := by
    unfold State.enter State.report
    simp [hs]
  rw [e]
  rfl

theorem State.emitLost_eq (i : StringId) (held : HoldKind → Bool) (ks : List HoldKind) (s : State) :
    ∃ g, State.emitLost i held ks s = { s with evr := { s.evr with ring := g } } := by
  induction ks generalizing s with
  | nil => exact ⟨s.evr.ring, rfl⟩
  | cons k ks ih =>
    have one : ∃ g, (if held k then s.emitHoldChanged k false .presence [i] else s) =
        { s with evr := { s.evr with ring := g } } := by
      split
      · exact State.emit_eq _ _ _ _ _
      · exact ⟨s.evr.ring, rfl⟩
    obtain ⟨g, e⟩ := one
    obtain ⟨h, f⟩ := ih { s with evr := { s.evr with ring := g } }
    refine ⟨h, ?_⟩
    rw [State.emitLost, e, f]

/-- The part with a string that was in OPEN stripped and in ABSENT, its reports taken up. -/
def State.absented (i : StringId) (s : State) : State :=
  (((s.stripped i).enter i .absent none).modTsc fun t =>
    { t with restoreMark := if t.restoreMark = some i then none else t.restoreMark }).takeReports

theorem State.makeAbsent_absented (i : StringId) (s : State) : s.makeAbsent i =
    (State.emitLost i (fun k => s.has k i) [.sup, .inv, .svc, .fire] (s.absented i)).askCommit .holds [] := rfl

/-- The shape of a part that has made a string ABSENT. -/
theorem State.makeAbsent_shape (hs : s.switchState i = .opened) : ∃ a g c o q m, s.makeAbsent i =
    { s.stripped i with
      sseq := ((s.stripped i).enter i .absent none).sseq, fli := { (s.stripped i).fli with arraySafe := a }
      evr := { (s.stripped i).evr with ring := g }, mfe := { (s.stripped i).mfe with capture := c }
      ports := { (s.stripped i).ports with port := o }, cfs := { (s.stripped i).cfs with queue := q }
      tsc := { (s.stripped i).tsc with restoreMark := m }, reports := false } := by
  have here : (s.stripped i).switchState i = .opened := by
    obtain ⟨g, e⟩ := State.stripped_eq i s
    have l := (State.dropped_took i s).loses
    generalize State.takeAll i allHoldKinds (s.dropped i) = v at e l
    have h : (s.stripped i).switchState i = (v.modSwitch i fun w => { w with dwell := .stopped }).switchState i := by
      rw [e]
      rfl
    obtain ⟨r, q, c, o, x, y, l⟩ := l
    rw [h, State.switchState, State.sw_modSwitch, if_pos rfl, l]
    exact hs
  obtain ⟨h, f⟩ := State.emitLost_eq i (fun k => s.has k i) [.sup, .inv, .svc, .fire] (s.absented i)
  rw [State.makeAbsent_absented, f, State.absented]
  have ent := State.enter_absent here none
  generalize ((s.stripped i).enter i .absent none).sseq = q at ent ⊢
  rw [ent]
  generalize s.stripped i = v
  obtain ⟨a, g, c, o, e⟩ := ({ v with sseq := q, reports := true }.modTsc fun t =>
    { t with restoreMark := if t.restoreMark = some i then none else t.restoreMark }).takeReports_eq
  rw [e]
  exact ⟨_, _, _, _, _, _, rfl⟩

/-- What a string made ABSENT leaves (R37, R52, R69, R141). -/
structure Absented (i : StringId) (s t : State) : Prop where
  settings : t.settings = { s.settings with
    strings := s.settings.strings.set i { s.settings.strings[i] with present := false } }
  str : ∀ j, t.str j = if j = i
    then { allHoldKinds.foldl StringRecord.without (s.str i) with overcurrentCount := 0 } else s.str j
  eval : t.eval i = emptyEval
  state : t.switchState i = .absent
  rampList : t.sseq.rampList = s.sseq.rampList
  reclose : s.has .overcurrent i = true → (t.rcl[i]).reclose = none
  stack : t.tsc.stack = if s.has .thermal i = true then s.unshed i else s.tsc.stack
  search : t.gsu = if s.searchActive then s.gsu.dropAbsent i else s.gsu
  beyond : s.gsu.state = .idle →
    { t with settings := s.settings, seval := s.seval, rcl := s.rcl, tsc := s.tsc }.beyondSwitching = s.beyondSwitching

theorem State.makeAbsent_leaves (hs : s.switchState i = .opened) : Absented i s (s.makeAbsent i) := by
  obtain ⟨loses, str, shed, unshed, reclose, -, -⟩ := State.dropped_took i s
  obtain ⟨g, e⟩ := State.stripped_eq i s
  obtain ⟨a, g', c', o', q', m, f⟩ := State.makeAbsent_shape hs
  have entered := State.enter_sseq i .absent none (s.stripped i)
  have state : ((s.stripped i).enter i .absent none).switchState i = .absent := by
    rw [State.switchState_enter, if_pos rfl]
  rw [State.switchState, State.sw] at state
  generalize ((s.stripped i).enter i .absent none).sseq = w at entered f state
  rw [e] at f entered
  generalize State.takeAll i allHoldKinds (s.dropped i) = v at *
  have evals := State.eval_modEval i i (fun _ => emptyEval) v
  have lost : (v.searchLoses i).gsu = if v.searchActive then v.gsu.dropAbsent i else v.gsu := by
    unfold State.searchLoses
    split <;> rfl
  generalize (v.searchLoses i).gsu = found at entered f lost
  have records (j : StringId) := State.str_modString i j (fun r => { r with overcurrentCount := 0 }) v
  obtain ⟨r, q, c, o, x, y, l⟩ := loses
  have active : v.searchActive = s.searchActive ∧ v.gsu = s.gsu := by
    rw [l]
    exact ⟨rfl, rfl⟩
  rw [active.1, active.2] at lost
  rw [f]
  refine ⟨?_, fun j => ?_, evals.trans (if_pos rfl), state, ?_, fun h => reclose (mem_allHoldKinds _) h, ?_, ?_,
    fun hg => ?_⟩
  · rw [l]
    rfl
  · refine (records j).trans ?_
    by_cases hj : j = i
    · rw [if_pos hj, if_pos hj, str i, if_pos rfl]
      rfl
    · rw [if_neg hj, if_neg hj, str j, if_neg hj]
      rfl
  · rw [entered, l]
    rfl
  · change v.tsc.stack = _
    by_cases h : s.has .thermal i = true
    · rw [if_pos h]
      exact shed (mem_allHoldKinds _) h
    · rw [if_neg h]
      exact unshed fun _ => Bool.eq_false_iff.2 h
  · exact lost
  · rw [State.searchActive_of_idle hg, if_neg (by decide)] at lost
    have feedback : w.feedback = s.sseq.feedback := by
      rw [entered, l]
      rfl
    unfold State.beyondSwitching
    simp only [lost, feedback, l]
    rfl

end Sys2Proof.Machine
end

section
/-! SUPPORT. The statement on SET PRESENCE to ABSENT: the events of the party kinds lost, what outlasts an active search's
work, and the request's failures. -/

namespace Sys2Proof.Machine

variable {R : Prop} {T : StringId → Prop} {s t u : State} {i j : StringId} {k : HoldKind}

/-! ### Events (R69) -/

theorem State.uptime_of_now (h : t.now = s.now) : t.uptime = s.uptime := by rw [State.uptime, State.uptime, h]

/-- Each party kind that a string has lost is reported, and the reports of the others push the record back. -/
theorem Lately.emitLost_pushed {e : EventRecord} {n : Nat} (held : HoldKind → Bool) (ks : List HoldKind)
    (h : Lately s e n) (hn : n + ks.length < ringSize) : Lately (State.emitLost i held ks s) e (n + ks.length) := by
  induction ks generalizing s n with
  | nil => exact h
  | cons k ks ih =>
    rw [List.length_cons] at hn ⊢
    have one : Lately (if held k then s.emitHoldChanged k false .presence [i] else s) e (n + 1) := by
      split
      · exact h.push (by omega) _
      · exact h.mono (Nat.le_succ n)
    exact (ih one (by omega)).mono (by omega)

theorem Lately.emitLost (held : HoldKind → Bool) (ks : List HoldKind) (hk : k ∈ ks) (hh : held k = true)
    (hn : ks.length < ringSize) : Lately (State.emitLost i held ks s)
      (s.eventNow .holdChanged none (2 ^ i.val : Nat) (partyCode k + 0x410)) ks.length := by
  induction ks generalizing s with
  | nil => exact nomatch hk
  | cons x ks ih =>
    rw [List.length_cons] at hn ⊢
    rcases List.mem_cons.1 hk with rfl | hk
    · have new : Lately (s.emitHoldChanged k false .presence [i])
          (s.eventNow .holdChanged none (2 ^ i.val : Nat) (partyCode k + 0x410)) 1 := by
        have e : s.emitHoldChanged k false .presence [i] =
            s.emit .holdChanged none (2 ^ i.val : Nat) (partyCode k + 0x410) := by
          simp [State.emitHoldChanged, setBits, ChangeCause.code, add_assoc]
        rw [e]
        exact Lately.route _ rfl s
      rw [State.emitLost, if_pos hh]
      exact (new.emitLost_pushed held ks (by omega)).mono (by omega)
    · have now : (if held x then s.emitHoldChanged x false .presence [i] else s).uptime = s.uptime := by
        split
        · exact State.uptime_of_now ((Keeps.refl s).emitHoldChanged x false .presence [i]).still.now
        · rfl
      have later := ih (s := if held x then s.emitHoldChanged x false .presence [i] else s) hk (by omega)
      rw [State.eventNow, now] at later
      exact later.mono (Nat.le_succ _)

theorem State.absented_now (i : StringId) (s : State) : (s.absented i).now = s.now := by
  have k := (Keeps.refl ((s.stripped i).enter i .absent none)).modTsc fun t =>
    { t with restoreMark := if t.restoreMark = some i then none else t.restoreMark }
  exact (((Still.stripped i s).enter i .absent none).trans k.takeReports.still).now

theorem State.makeAbsent_still (i : StringId) (s : State) :
    Still (s.modStringSettings i fun c => { c with present := false }) (s.makeAbsent i) := by
  have k := (Keeps.refl ((s.stripped i).enter i .absent none)).modTsc fun t =>
    { t with restoreMark := if t.restoreMark = some i then none else t.restoreMark }
  exact ((Still.stripped i s).enter i .absent none).trans
    ((Keeps.emitLost i _ [.sup, .inv, .svc, .fire] k.takeReports).askCommit .holds []).still

theorem Lately.makeAbsent (hk : k ∈ [HoldKind.sup, .inv, .svc, .fire]) (hh : s.has k i = true) :
    Lately (s.makeAbsent i) (s.eventNow .holdChanged none (2 ^ i.val : Nat) (partyCode k + 0x410)) 4 := by
  have h := Lately.emitLost (s := s.absented i) (i := i) (fun k => s.has k i) _ hk hh (by decide)
  rw [State.eventNow, State.uptime_of_now (s.absented_now i)] at h
  rw [State.makeAbsent_absented]
  exact h.congr rfl rfl

/-! ### While a search is active (R141) -/

/-- A string that is no longer PRESENT, in ABSENT, without a hold, out of the ramp list and of the lists of a search. -/
structure Gone (E : Prop) (i : StringId) (s : State) : Prop where
  present : s.present i = false
  state : s.switchState i = .absent
  holds : (s.str i).holds = noHolds
  ramp : i ∉ s.sseq.rampList
  lists : i ∉ s.gsu.c ∧ i ∉ s.gsu.x ∧ i ∉ s.gsu.v ∧ i ∉ s.gsu.openSet
  excluded : E → i ∈ s.gsu.e

theorem Gone.deed {E : Prop} (h : Gone E i s) (d : Deed R T s t) : Gone E i t := by
  have same := congrArg State.gsu d.beyond
  have lists : t.gsu.c = s.gsu.c ∧ t.gsu.x = s.gsu.x ∧ t.gsu.v = s.gsu.v ∧ t.gsu.openSet = s.gsu.openSet ∧
      t.gsu.e = s.gsu.e :=
    ⟨(congrArg Gsu.c same :), (congrArg Gsu.x same :), (congrArg Gsu.v same :), (congrArg Gsu.openSet same :),
      (congrArg Gsu.e same :)⟩
  obtain ⟨c, x, v, o, e⟩ := lists
  refine ⟨(d.still.present i).trans h.present, ?_, ?_, fun m => ?_, by rw [c, x, v, o]; exact h.lists,
    fun hE => e ▸ h.excluded hE⟩
  · rcases d.sw i with e | ⟨-, e, -⟩ | ⟨hl, -⟩ | ⟨-, e, -⟩ | ⟨-, m, -⟩
    · rw [State.switchState, e]
      exact h.state
    · exact e.trans h.state
    · generalize t.switchState i = new at hl
      cases hl with
      | granted hs | closed hs | back hs | curtailed hs | pulsed hs | arrived hs | passed hs | wanted hs | turned hs
      | unlisted hs | fallen hs =>
        rw [h.state] at hs
        cases hs
      | interrupted hs =>
        rw [h.state] at hs
        simp at hs
    · exact e.trans h.state
    · exact absurd m h.ramp
  · have absent {c : Prop} (hp : s.present i = true) : c := by
      rw [h.present] at hp
      cases hp
    rcases d.str i with e | ⟨-, hp, -⟩ | ⟨-, e | ⟨-, hp, -⟩⟩ | ⟨-, hp, -⟩
    · rw [e]
      exact h.holds
    · exact absent hp
    · rw [e]
      exact StringRecord.take_noHolds h.holds _
    · exact absent hp
    · exact absent hp
  · rcases (d.ramps.2 i).1 m with m | ⟨-, hs⟩
    · exact h.ramp m
    · rw [h.state] at hs
      cases hs

theorem Gone.deeds {E : Prop} (h : Gone E i s) (d : Deeds R T s t) : Gone E i t := d.keeps (fun d k => k.deed d) h

/-- A string made ABSENT stays out of a search that goes on without it. -/
theorem Gone.outlasts (E : Prop) (i : StringId) : Outlasts (Gone E i) where
  addHold x j hx h :=
    h.deeds (R := True) (T := fun _ => True) ((Deeds.refl _).addHold (fun n => absurd trivial n) trivial x hx)
  removeHold {s} j h := by
    have taken : Gone E i (s.takeHold .search j) := by
      have str : ((s.takeHold .search j).str i).holds = noHolds := by
        rcases State.str_takeHold .search (by decide) j i s with e | ⟨hj, e | ⟨-, hp, -⟩⟩
        · rw [e]
          exact h.holds
        · rw [e]
          exact StringRecord.take_noHolds h.holds _
        · rw [← hj, h.present] at hp
          cases hp
      have same : (s.takeHold .search j).settings = s.settings ∧ (s.takeHold .search j).sseq = s.sseq ∧
          (s.takeHold .search j).gsu = s.gsu := by
        simp only [State.takeHold, HoldKind.stored, State.reportRemoval, Bool.false_eq_true, if_false]
        split <;> exact ⟨rfl, rfl, rfl⟩
      obtain ⟨e1, e2, e3⟩ := same
      exact ⟨by rw [State.present, State.strSet, e1]; exact h.present, by rw [State.switchState_of_sseq e2]; exact h.state,
        str, by rw [e2]; exact h.ramp, by rw [e3]; exact h.lists, fun hE => by rw [e3]; exact h.excluded hE⟩
    unfold State.removeHold
    simp only []
    split
    · next ht =>
      exact taken.deeds (R := True) (T := fun _ => True)
        ((Deeds.refl _).targetTurnsClosed (fun n => absurd trivial n) ht.2)
    · exact taken
  takeReports h := h.deeds (R := True) (T := fun _ => True) (Deeds.refl _).takeReports
  emit e x a b h := h.deeds (R := True) (T := fun _ => True) ((Deeds.refl _).emit e x a b)
  modImon f h := ⟨h.present, h.state, h.holds, h.ramp, h.lists, h.excluded⟩
  modGsu {s} f hw h := by
    obtain ⟨hc, hx, hv, ho⟩ := h.lists
    refine ⟨h.present, h.state, h.holds, h.ramp, ⟨fun m => hc (hw.c i m), fun m => (hw.x i m).elim hc hx,
      fun m => (hw.v i m).elim hv ho, fun m => ho ?_⟩, fun hE => hw.e i (h.excluded hE)⟩
    rw [Gsu.openSet, mem_minus, mem_minus, mem_minus] at m ⊢
    obtain ⟨⟨⟨mp, mk⟩, mf⟩, me⟩ := m
    exact ⟨⟨⟨hw.p ▸ mp, fun x => mk (hw.k ▸ x)⟩, fun x => mf (hw.f i x)⟩, fun x => me (hw.e i x)⟩

theorem Gsu.dropAbsent_lists (g : Gsu) (i : StringId) :
    (i ∉ (g.dropAbsent i).c ∧ i ∉ (g.dropAbsent i).x ∧ i ∉ (g.dropAbsent i).v ∧ i ∉ (g.dropAbsent i).openSet) ∧
    (i ∈ g.p → i ∉ g.k → i ∉ g.f → i ∈ (g.dropAbsent i).e) := by
  have own {xs : List StringId} : i ∉ minus xs [i] := fun m => (mem_minus.1 m).2 List.mem_cons_self
  have gained (hp : i ∈ g.p) (hk : i ∉ g.k) (hf : i ∉ g.f) : i ∈ (g.dropAbsent i).e := by
    have c : (g.p.contains i && !g.k.contains i && !g.f.contains i) = true := by simp [hp, hk, hf]
    rw [Gsu.dropAbsent]
    simp only [if_pos c]
    exact mem_union.2 (.inr List.mem_cons_self)
  refine ⟨⟨own, own, own, fun m => ?_⟩, gained⟩
  rw [Gsu.openSet, mem_minus, mem_minus, mem_minus] at m
  obtain ⟨⟨⟨mp, mk⟩, mf⟩, me⟩ := m
  exact me (gained mp mk mf)

/-! ### The request (R53, R68) -/

theorem exec_setPresenceAbsent {n b : Byte} {codes : List Byte} (ha : s.accepts .m) (hk : s.ports.key.on = true)
    (hl : codes.length = 8) (hb : b ≠ 1) : exec (.setPresenceAbsent .m ([n, b] ++ codes)) s =
      .next ((s.hear .m).presenceRequest false .m ([n, b] ++ codes)) := by
  have row : s.servePresence false .m ([n, b] ++ codes) =
      s.serve .setPresence .m ([n, b] ++ codes) (State.presenceRequest false .m ([n, b] ++ codes)) :=
    if_neg fun h => hb h.2
  have size : sizeFits .setPresence .m ([n, b] ++ codes) = true := by simp [sizeFits, hl]
  have run : exec (.setPresenceAbsent .m ([n, b] ++ codes)) s = .next (s.servePresence false .m ([n, b] ++ codes)) := rfl
  rw [run, row, State.serve_accepts _ ha size hk]

/-- A check of SET PRESENCE that fails is answered, and nothing else changes. -/
theorem setPresenceAbsent_fails {n b v : Byte} {codes : List Byte} {r : Result} (ha : s.accepts .m)
    (hk : s.ports.key.on = true) (hl : codes.length = 8) (hb : b ≠ 1)
    (hc : s.presenceCheck false ([n, b] ++ codes) = .fails r v) :
    exec (.setPresenceAbsent .m ([n, b] ++ codes)) s = .next (s.answered .m 0x0A r [v]) := by
  have check : (s.hear .m).presenceCheck false ([n, b] ++ codes) = .fails r v := hc
  rw [exec_setPresenceAbsent ha hk hl hb, State.presenceRequest, check]
  exact congrArg Host.Outcome.next (State.reply_hear ..)

theorem setPresenceAbsent_makes {codes : List Byte} (ha : s.accepts .m) (hk : s.ports.key.on = true)
    (hl : codes.length = 8) (hc : s.presenceCheck false (lockedRequest i [0] codes) = .changes i) :
    exec (.setPresenceAbsent .m (lockedRequest i [0] codes)) s =
      .next (((s.hear .m).makeAbsent i).conclude .m .setPresence [.settings, .holds] .done [0]) := by
  have check : (s.hear .m).presenceCheck false ([byte (stringNumber i), 0] ++ codes) = .changes i := hc
  have run := exec_setPresenceAbsent (n := byte (stringNumber i)) ha hk hl (by decide : (0 : Byte) ≠ 1)
  rw [State.presenceRequest, check] at run
  exact run

/-- The checks of a request for ABSENT whose form passes (R68). -/
theorem State.presenceCheck_absent {codes : List Byte} (hc : lockCodeOf codes ≠ 0) (n : Byte) :
    s.presenceCheck false ([n, 0] ++ codes) = match stringOfByte n with
      | none => .fails .badString n
      | some i => if s.has .retired i then .fails .retired n
        else if s.present i = false then .same
        else if s.switchState i ≠ .opened then .fails .state n
        else if s.has .svc i = true ∧ (s.str i).lockCode ≠ some (lockCodeOf codes) then .fails .wrongCode n
        else .changes i := by
  have form : ¬(lockCodeOf codes = 0 ∨ (0 : Byte) ≠ 0) := fun h => h.elim hc fun x => x rfl
  refine (if_neg form).trans ?_
  change (match stringOfByte n with | none => _ | some i => _) = _
  split
  · rfl
  · simp [byteAt]

/-- What a string made ABSENT leaves once the search, where one is active, has acted on it. -/
theorem Gone.conclude {E : Prop} {p : Port} {q : RequestCode} {waits : List StoreRecord} {r : Result} {body : List Byte}
    (h : Gone E i u) : Gone E i (u.conclude p q waits r body) := by
  have o := Gone.outlasts E i
  have k := o.settle (o.takeReports h)
  unfold State.conclude
  simp only []
  split
  · obtain ⟨w, e⟩ := State.beginWrite_eq (u.takeReports.settle.reply p (requestCode q) r body)
    rw [e]
    exact ⟨k.present, k.state, k.holds, k.ramp, k.lists, k.excluded⟩
  · obtain ⟨w, e⟩ := State.beginWrite_eq
      (askAll p waits (u.takeReports.settle.startWait p (requestCode q) (.commit r body)))
    obtain ⟨x, l⟩ := askAll_eq p waits (u.takeReports.settle.startWait p (requestCode q) (.commit r body))
    rw [e, l]
    exact ⟨k.present, k.state, k.holds, k.ramp, k.lists, k.excluded⟩

theorem Absented.present (h : Absented i s t) : t.present i = false := by
  have e := congrArg (fun c : Settings => c.strings[i].present) h.settings
  simp only [Fin.getElem_fin, Vector.getElem_set_self] at e
  exact e

theorem Absented.holds (h : Absented i s t) : (t.str i).holds = noHolds := by
  have e := (h.str i).trans (if_pos rfl)
  have k := StringRecord.holds_stripped (s.str i)
  generalize allHoldKinds.foldl StringRecord.without (s.str i) = r at e k
  rw [e]
  exact k

/-- Settles O30: the checks in their order, and the work of a string made ABSENT, field by field. -/
theorem madeAbsentHoldsNothing : Obligations.MadeAbsentHoldsNothing := by
  refine ⟨fun s n codes ha hk hl => ⟨fun hz => ?_, fun b hb => ?_, fun hz => ⟨fun hn => ?_, fun i hi hr => ?_⟩⟩,
    fun s i codes ha hk hl hz hp hr => ?_⟩
  · exact setPresenceAbsent_fails ha hk hl (by decide) (if_pos (.inl hz))
  · refine setPresenceAbsent_fails ha hk hl (fun e => by rw [e] at hb; exact absurd hb (by decide)) (if_pos (.inr ?_))
    intro e
    have e : b = 0 := e
    rw [e] at hb
    exact absurd hb (by decide)
  · refine setPresenceAbsent_fails ha hk hl (by decide) ?_
    rw [State.presenceCheck_absent hz, stringOfByte_none hn]
  · refine setPresenceAbsent_fails ha hk hl (by decide) ?_
    rw [State.presenceCheck_absent hz, hi, stringOfByte_number]
    exact if_pos hr
  · have check : s.presenceCheck false (lockedRequest i [0] codes) = _ :=
      State.presenceCheck_absent hz (byte (stringNumber i))
    simp only [stringOfByte_number, hr, hp, Bool.false_eq_true, Bool.true_eq_false, if_false] at check
    refine ⟨fun hs => ?_, fun hs hv hc => ?_, fun hf hs hv => ?_, fun hq hs he hv => ?_⟩
    · exact setPresenceAbsent_fails ha hk hl (by decide) (check.trans (if_pos hs))
    · exact setPresenceAbsent_fails ha hk hl (by decide)
        (check.trans ((if_neg fun x => x hs).trans (if_pos ⟨hv, hc⟩)))
    · have run := setPresenceAbsent_makes ha hk hl
        (check.trans ((if_neg fun x => x hs).trans (if_neg fun x => x.2 (hv x.1))))
      have made := State.makeAbsent_leaves (i := i) (s := s.hear .m) hs
      have ramp : i ∉ s.sseq.rampList := fun m => by
        have := hf.2.2.2.1 i m
        rw [hs] at this
        cases this
      refine ⟨_, run, ?_⟩
      by_cases hg : s.searchActive = true
      · have search : ((s.hear .m).makeAbsent i).gsu = s.gsu.dropAbsent i := made.search.trans (if_pos hg)
        obtain ⟨lists, excluded⟩ := s.gsu.dropAbsent_lists i
        have gone : Gone (i ∈ s.gsu.p ∧ i ∉ s.gsu.k ∧ i ∉ s.gsu.f) i ((s.hear .m).makeAbsent i) :=
          ⟨made.present, made.state, made.holds, by rw [made.rampList]; exact ramp, by rw [search]; exact lists,
            fun ⟨hp, hk, hf⟩ => by rw [search]; exact excluded hp hk hf⟩
        have left := gone.conclude (p := .m) (q := .setPresence) (waits := [.settings, .holds]) (r := .done) (body := [0])
        obtain ⟨hc, hx, hv, -⟩ := left.lists
        refine ⟨left.present, left.state, fun k => ?_, fun _ _ => ⟨hc, hx, hv, fun h1 h2 h3 => left.excluded ⟨h1, h2, h3⟩⟩⟩
        rw [State.has, left.holds]
        cases k <;> rfl
      · have idle : ((s.hear .m).makeAbsent i).gsu.state = .idle := by
          rw [made.search, if_neg (show ¬(s.hear .m).searchActive = true from hg)]
          change s.gsu.state = .idle
          simpa [State.searchActive] using hg
        obtain ⟨a, g, c, o, x, w, e⟩ := State.conclude_eq (p := .m) (q := .setPresence) (r := .done) (body := [0]) idle
          [.settings, .holds]
        rw [e]
        refine ⟨made.present, made.state, fun k => ?_, fun h => absurd h hg⟩
        change ((s.hear .m).makeAbsent i).has k i = false
        rw [State.has, made.holds]
        cases k <;> rfl
    · have run := setPresenceAbsent_makes ha hk hl
        (check.trans ((if_neg fun x => x hs).trans (if_neg fun x => x.2 (hv x.1))))
      have made := State.makeAbsent_leaves (i := i) (s := s.hear .m) hs
      have idle : ((s.hear .m).makeAbsent i).gsu.state = .idle := by
        rw [made.search, State.searchActive_of_idle (s := s.hear .m) hq.1]
        exact hq.1
      have still : Still ((s.hear .m).modStringSettings i fun c => { c with present := false }) ((s.hear .m).makeAbsent i) :=
        State.makeAbsent_still i (s.hear .m)
      have free : ((s.hear .m).port .m).outstanding = none := by
        rw [State.port_hear, if_pos rfl]
        exact ha.2.2.1
      have port : ((s.hear .m).makeAbsent i).port .m = (s.hear .m).port .m := still.port .m fun _ => free
      obtain ⟨a, g, c, o, x, w, e⟩ := State.conclude_eq (p := .m) (q := .setPresence) (r := .done) (body := [0]) idle
        [.settings, .holds]
      have deferred := concludes_deferred (s := s) (p := .m) (q := .setPresence) (r := .done) (body := [0])
        (waits := [.settings, .holds]) (by decide) idle port (port ▸ free)
      have noted : ∀ k ∈ [HoldKind.sup, .inv, .svc, .fire], s.has k i = true →
          Noted (((s.hear .m).makeAbsent i).conclude .m .setPresence [.settings, .holds] .done [0])
            (s.eventNow .holdChanged none (2 ^ i.val : Nat) (partyCode k + 0x410)) := fun k hk hh =>
        (Lately.makeAbsent (s := s.hear .m) hk hh).conclude idle (by decide) _
      refine ⟨_, run, ?_⟩
      rw [e] at deferred noted ⊢
      refine ⟨made.settings, ?_, fun j hj => (made.str j).trans (if_neg hj), made.eval, made.state, made.reclose, ?_, noted,
        deferred, ?_⟩
      · exact (made.str i).trans ((if_pos rfl).trans he.stripped)
      · refine made.stack.trans (if_congr Iff.rfl ?_ rfl)
        exact List.filter_congr fun e _ => by simp [bne, Bool.beq_eq_decide_eq]
      · exact made.beyond hq.1

end Sys2Proof.Machine
end

section
/-! SUPPORT. The String Evaluator's references, deficits, suspicion and dwell counts at a completion (R24 to R30, R33, R35). -/

namespace Sys2Proof.Machine

variable {s t u : State} {i j : StringId} {r : ScanRecord}

/-! ### References (R25) -/

theorem insertAscending_perm (x : Nat) (xs : List Nat) : (insertAscending x xs).Perm (x :: xs) := by
  induction xs with
  | nil => exact List.Perm.refl _
  | cons y ys ih =>
    unfold insertAscending
    split
    · exact List.Perm.refl _
    · exact (ih.cons y).trans (List.Perm.swap x y ys)

theorem sortAscending_perm (xs : List Nat) : (sortAscending xs).Perm xs := by
  induction xs with
  | nil => exact List.Perm.refl _
  | cons x xs ih => exact (insertAscending_perm x _).trans (ih.cons x)

/-- The middle of a list that is not empty lies between two of its members. -/
theorem middle_between {xs : List Nat} (h : xs ≠ []) : (∃ x ∈ xs, x ≤ middle xs) ∧ ∃ y ∈ xs, middle xs ≤ y := by
  have pos : 0 < xs.length := List.length_pos_iff.2 h
  have member {n : Nat} (hn : n < xs.length) : xs.getD n 0 ∈ xs := by
    rw [List.getD_eq_getElem _ _ hn]
    exact List.getElem_mem hn
  unfold middle
  simp only []
  split
  · have m : xs.getD (xs.length / 2) 0 ∈ xs := member (by omega)
    exact ⟨⟨_, m, le_rfl⟩, ⟨_, m, le_rfl⟩⟩
  · have m : xs.getD (xs.length / 2 - 1) 0 ∈ xs := member (by omega)
    have n : xs.getD (xs.length / 2) 0 ∈ xs := member (by omega)
    generalize xs.getD (xs.length / 2 - 1) 0 = a at m ⊢
    generalize xs.getD (xs.length / 2) 0 = b at n ⊢
    rcases Nat.le_total a b with hab | hab
    · exact ⟨⟨a, m, by omega⟩, ⟨b, n, by omega⟩⟩
    · exact ⟨⟨b, n, by omega⟩, ⟨a, m, by omega⟩⟩

/-- A reference is from three currents at least, not below its floor, and between two of them. -/
theorem referenceOf_mem {floor m : Nat} {xs : List Nat} (h : m ∈ referenceOf floor (sortAscending xs)) :
    3 ≤ xs.length ∧ floor ≤ m ∧ (∃ x ∈ xs, x ≤ m) ∧ ∃ y ∈ xs, m ≤ y := by
  have perm := sortAscending_perm xs
  have len := perm.length_eq
  unfold referenceOf at h
  split at h
  · cases h
  · next hl =>
    split at h
    · cases h
    · next hf =>
      obtain rfl := Option.mem_some.1 h
      obtain ⟨⟨x, hx, h1⟩, y, hy, h2⟩ := middle_between (xs := sortAscending xs) fun e => hl (by rw [e]; decide)
      exact ⟨by omega, by omega, ⟨x, perm.mem_iff.1 hx, h1⟩, y, perm.mem_iff.1 hy, h2⟩

/-- The eligible currents of a group (R24). -/
theorem State.eligibleCurrents_eq (s : State) (r : ScanRecord) (g : Fin 4) :
    s.eligibleCurrents r g = sortAscending (s.eligibleOf r g) := by
  unfold State.eligibleCurrents State.eligibleOf stringsWhere
  refine congrArg sortAscending (congrArg (List.map _) (List.filter_congr fun i _ => ?_))
  unfold State.eligible State.evaluated State.countedClosed State.counted
  by_cases hg : (s.strSet i).group.slot = some g
  · simp [hg, Bool.and_assoc]
  · have : ((s.strSet i).group.slot == some g) = false := by simpa using hg
    simp [this, hg]

/-! ### One string's judgement (R27 to R30, R33, R35) -/

/-- The evaluator's work on one string before the trips. -/
def State.judge (r : ScanRecord) (i : StringId) (s : State) : State := (s.judgeDeficit r i).countDwells r i

/-- What the evaluator's judgements change: its strings and the rings. -/
def Judges (s t : State) : Prop :=
  ∃ v g, t = { s with seval := { s.seval with strings := v }, evr := { s.evr with ring := g } }

theorem Judges.refl (s : State) : Judges s s := ⟨_, _, rfl⟩

theorem Judges.trans (h : Judges s t) (k : Judges t u) : Judges s u := by
  obtain ⟨v, g, rfl⟩ := h
  obtain ⟨v, g, rfl⟩ := k
  exact ⟨_, _, rfl⟩

theorem Judges.modEval (i : StringId) (f : EvalString → EvalString) (s : State) : Judges s (s.modEval i f) :=
  ⟨_, _, rfl⟩

theorem Judges.emitAt (time : Uptime) (k : EventKind) (x : Option StringId) (a b : Int) (s : State) :
    Judges s (s.emitAt time k x a b) := by
  obtain ⟨g, e⟩ := State.emitAt_eq time k x a b s
  exact ⟨_, g, e⟩

theorem State.eval_emitAt (time : Uptime) (k : EventKind) (x : Option StringId) (a b : Int) (s : State) (j : StringId) :
    (s.emitAt time k x a b).eval j = s.eval j := by
  obtain ⟨g, e⟩ := State.emitAt_eq time k x a b s
  rw [e]
  rfl

/-- The flag that a completion leaves of a string that received a deficit (R30). -/
def flagAfter (was : Bool) (threshold sus : Nat) : Bool :=
  if was then decide (threshold / 2 < sus) else decide (threshold ≤ sus)

/-- The deficit, the counter and the flag that a completion gives a string, and the event of a changed flag. -/
structure Suspected (r : ScanRecord) (i : StringId) (s t : State) : Prop where
  judges : Judges s t
  others : ∀ j, j ≠ i → t.eval j = s.eval j
  deficit : (t.eval i).lastDeficit = s.deficitAt r i
  none_ : s.deficitAt r i = none → (t.eval i).suspicion = (s.eval i).suspicion ∧ (t.eval i).suspect = (s.eval i).suspect
  some_ : ∀ d ∈ s.deficitAt r i,
    (t.eval i).suspicion = suspicionAfter (s.eval i).suspicion d (s.cfgNat .tD) (s.cfgNat .stepUp) ∧
    (t.eval i).suspect = flagAfter (s.eval i).suspect (s.cfgNat .sSuspect) (t.eval i).suspicion ∧
    ((s.eval i).suspect = false → (t.eval i).suspect = true →
      Lately t (eventAt r.completion .suspectSet (some i) (t.eval i).suspicion d) 1) ∧
    ((s.eval i).suspect = true → (t.eval i).suspect = false →
      Lately t (eventAt r.completion .suspectCleared (some i) (t.eval i).suspicion 0) 1)
  dwells : (t.eval i).mark = (s.eval i).mark ∧ (t.eval i).reverseDwell = (s.eval i).reverseDwell ∧
    (t.eval i).overDwell = (s.eval i).overDwell
  spends : Spends 1 s t

theorem State.eval_modEval_same (i : StringId) (f : EvalString → EvalString) (s : State) :
    (s.modEval i f).eval i = f (s.eval i) := (State.eval_modEval i i f s).trans (if_pos rfl)

theorem State.eval_modEval_ne (f : EvalString → EvalString) (s : State) (hj : j ≠ i) :
    (s.modEval i f).eval j = s.eval j := (State.eval_modEval i j f s).trans (if_neg hj)

/-- A deficit and a counter given to a string, and then the flag given, `t` differing in the rings at most. -/
theorem Suspected.of_flag {d sus : Nat} {b : Bool} (hd : s.deficitAt r i = some d)
    (hsus : sus = suspicionAfter (s.eval i).suspicion d (s.cfgNat .tD) (s.cfgNat .stepUp))
    (hb : b = flagAfter (s.eval i).suspect (s.cfgNat .sSuspect) sus) (hj : Judges s t)
    (ho : ∀ j, j ≠ i → t.eval j = s.eval j)
    (he : t.eval i = { (s.eval i) with lastDeficit := some d, suspicion := sus, suspect := b })
    (hset : (s.eval i).suspect = false → b = true → Lately t (eventAt r.completion .suspectSet (some i) sus d) 1)
    (hclear : (s.eval i).suspect = true → b = false → Lately t (eventAt r.completion .suspectCleared (some i) sus 0) 1)
    (hn : Spends 1 s t) : Suspected r i s t := by
  refine ⟨hj, ho, by rw [he, hd], fun h => absurd (hd.symm.trans h) (Option.some_ne_none d), fun d' m => ?_, ?_, hn⟩
  · obtain rfl : d = d' := Option.some.inj (hd.symm.trans m)
    rw [he]
    exact ⟨hsus, hb, hset, hclear⟩
  · rw [he]
    exact ⟨rfl, rfl, rfl⟩

theorem State.judgeDeficit_suspected (r : ScanRecord) (i : StringId) (s : State) :
    Suspected r i s (s.judgeDeficit r i) := by
  unfold State.judgeDeficit
  cases hd : s.deficitAt r i with
  | none =>
    have e := State.eval_modEval_same i (fun e => { e with lastDeficit := none }) s
    refine ⟨Judges.modEval _ _ _, fun j hj => State.eval_modEval_ne _ s hj, by rw [e, hd], fun _ => ?_,
      fun d m => absurd (hd.symm.trans m) (Option.some_ne_none d).symm, ?_,
      ((Spends.refl s).quiet rfl rfl rfl).mono (by decide)⟩ <;> rw [e]
    · exact ⟨rfl, rfl⟩
    · exact ⟨rfl, rfl, rfl⟩
  | some d =>
    simp only []
    generalize hsus : suspicionAfter (s.eval i).suspicion d (s.cfgNat .tD) (s.cfgNat .stepUp) = sus
    have cfg : (s.modEval i fun e => { e with lastDeficit := some d, suspicion := sus }).cfgNat .sSuspect =
      s.cfgNat .sSuspect := rfl
    have e := State.eval_modEval_same i (fun e => { e with lastDeficit := some d, suspicion := sus }) s
    have o (j : StringId) (hj : j ≠ i) :=
      State.eval_modEval_ne (fun e => { e with lastDeficit := some d, suspicion := sus }) s hj
    have q : Spends 0 s (s.modEval i fun e => { e with lastDeficit := some d, suspicion := sus }) :=
      (Spends.refl s).quiet rfl rfl rfl
    have jd := Judges.modEval i (fun e => { e with lastDeficit := some d, suspicion := sus }) s
    rw [cfg]
    generalize (s.modEval i fun e => { e with lastDeficit := some d, suspicion := sus }) = v at e o q jd ⊢
    have changed (b : Bool) (k : EventKind) (x : Int) :
        ((v.modEval i fun e => { e with suspect := b }).emitAt r.completion k (some i) sus x).eval i =
          { (s.eval i) with lastDeficit := some d, suspicion := sus, suspect := b } := by
      rw [State.eval_emitAt, State.eval_modEval_same, e]
    have others (b : Bool) (k : EventKind) (x : Int) (j : StringId) (hj : j ≠ i) :
        ((v.modEval i fun e => { e with suspect := b }).emitAt r.completion k (some i) sus x).eval j = s.eval j := by
      rw [State.eval_emitAt, State.eval_modEval_ne _ _ hj, o j hj]
    have judges (b : Bool) (k : EventKind) (x : Int) :
        Judges s ((v.modEval i fun e => { e with suspect := b }).emitAt r.completion k (some i) sus x) :=
      jd.trans ((Judges.modEval _ _ _).trans (Judges.emitAt ..))
    have spends (b : Bool) (k : EventKind) (x : Int) :
        Spends 1 s ((v.modEval i fun e => { e with suspect := b }).emitAt r.completion k (some i) sus x) :=
      (q.quiet (u := v.modEval i fun e => { e with suspect := b }) rfl rfl rfl).route _
    have late (b : Bool) (k : EventKind) (x : Int) :
        Lately ((v.modEval i fun e => { e with suspect := b }).emitAt r.completion k (some i) sus x)
          (eventAt r.completion k (some i) sus x) 1 := Lately.route _ rfl _
    split
    · next h =>
      exact .of_flag hd hsus.symm (by simp [flagAfter, h.1, h.2]) (judges _ _ _) (others _ _ _) (changed _ _ _)
        (fun _ _ => late _ _ _) (fun _ hb => nomatch hb) (spends _ _ _)
    · next h1 =>
      split
      · next h =>
        exact .of_flag hd hsus.symm (by simp [flagAfter, h.1, h.2]) (judges _ _ _) (others _ _ _) (changed _ _ _)
          (fun _ hb => nomatch hb) (fun _ _ => late _ _ _) (spends _ _ _)
      · next h2 =>
        have stands : (s.eval i).suspect = flagAfter (s.eval i).suspect (s.cfgNat .sSuspect) sus := by
          cases hw : (s.eval i).suspect
          · exact (decide_eq_false fun h => h1 ⟨hw, h⟩).symm
          · exact (decide_eq_true (Nat.lt_of_not_le fun h => h2 ⟨hw, h⟩)).symm
        refine .of_flag hd hsus.symm stands jd o e (fun h h' => ?_) (fun h h' => ?_) (q.mono (by decide)) <;>
        · rw [h] at h'
          cases h'

/-! ### Dwell counts (R33, R35) -/

theorem reverseCondition_iff {n : Nat} {x : Sample} :
    reverseCondition n x = true ↔ x.current ≤ -(n : Int) ∨ (x.clipped = true ∧ x.current < 0) := by
  simp [reverseCondition]

theorem overCondition_iff {n : Nat} {x : Sample} :
    overCondition n x = true ↔ (n : Int) ≤ x.current ∨ (x.clipped = true ∧ 0 < x.current) := by
  simp [overCondition]

theorem State.counted_eq (s : State) (r : ScanRecord) (i : StringId) :
    s.counted r i = (s.evaluated r i && s.countedClosed i) := by
  rw [State.counted, State.evaluated, State.countedClosed, Bool.and_assoc]

/-- The dwell counts of a string are those of the completion. -/
theorem State.countDwells_eval (r : ScanRecord) (i : StringId) (s : State) : (s.countDwells r i).eval i =
    { (s.eval i) with reverseDwell := s.reverseCount r i, overDwell := s.overCountAt r i } := by
  have counted := s.counted_eq r i
  unfold State.reverseCount State.overCountAt
  by_cases he : s.evaluated r i = true
  · have run : s.countDwells r i = s.modEval i fun e => { e with
        reverseDwell :=
          if s.countedClosed i && reverseCondition (s.cfgNat .iRev) (r.sample i) then e.reverseDwell + 1 else 0
        overDwell :=
          if s.countedClosed i && overCondition (s.cfgNat .iOver) (r.sample i) then e.overDwell + 1 else 0 } := if_pos he
    rw [he, Bool.true_and] at counted
    have he' : ((r.entries[i]).isSome && s.present i) = true := he
    rw [run, State.eval_modEval_same, if_pos he', if_pos he', counted]
    simp only [Bool.and_eq_true, reverseCondition_iff, overCondition_iff]
  · have run : s.countDwells r i = s := if_neg he
    have he' : ¬((r.entries[i]).isSome && s.present i) = true := he
    rw [run, if_neg he', if_neg he']

theorem State.countDwells_ne (r : ScanRecord) (s : State) (hj : j ≠ i) : (s.countDwells r i).eval j = s.eval j := by
  unfold State.countDwells
  split
  · exact State.eval_modEval_ne _ s hj
  · rfl

theorem Judges.countDwells (r : ScanRecord) (i : StringId) (s : State) : Judges s (s.countDwells r i) := by
  unfold State.countDwells
  split
  · exact Judges.modEval _ _ _
  · exact Judges.refl s

/-! ### The judgement of every string -/

/-- What of a string's completion is read from the part, beside the string's own evaluator state. -/
theorem Judges.reads (h : Judges s t) : t.settings = s.settings ∧ t.sseq = s.sseq ∧ t.stab = s.stab ∧
    t.seval.groups = s.seval.groups ∧ t.now = s.now ∧ t.gsu = s.gsu ∧ t.rcl = s.rcl ∧ t.fli = s.fli ∧
    t.mfe = s.mfe ∧ t.handed = s.handed := by
  obtain ⟨v, g, rfl⟩ := h
  exact ⟨rfl, rfl, rfl, rfl, rfl, rfl, rfl, rfl, rfl, rfl⟩

/-- A string's deficit and dwell counts are the same wherever its mark and its counts stand. -/
theorem Judges.same (h : Judges s t) (he : (t.eval i).mark = (s.eval i).mark ∧
      (t.eval i).reverseDwell = (s.eval i).reverseDwell ∧ (t.eval i).overDwell = (s.eval i).overDwell) :
    t.deficitAt r i = s.deficitAt r i ∧ t.reverseCount r i = s.reverseCount r i ∧
    t.overCountAt r i = s.overCountAt r i := by
  obtain ⟨v, g, rfl⟩ := h
  obtain ⟨mark, reverse, high⟩ := he
  have counted : ({ s with seval := { s.seval with strings := v }, evr := { s.evr with ring := g } } : State).counted r i =
      s.counted r i := by
    rw [State.counted, State.counted, mark]
    rfl
  refine ⟨?_, ?_, ?_⟩
  · rw [State.deficitAt, State.deficitAt, State.countedClosed, mark]
    rfl
  · rw [State.reverseCount, State.reverseCount, counted, reverse]
    rfl
  · rw [State.overCountAt, State.overCountAt, counted, high]
    rfl

/-- What the evaluator's judgement of one string leaves. -/
structure Judged (n : Nat) (r : ScanRecord) (i : StringId) (s t : State) : Prop where
  judges : Judges s t
  deficit : (t.eval i).lastDeficit = s.deficitAt r i
  none_ : s.deficitAt r i = none → (t.eval i).suspicion = (s.eval i).suspicion ∧ (t.eval i).suspect = (s.eval i).suspect
  some_ : ∀ d ∈ s.deficitAt r i,
    (t.eval i).suspicion = suspicionAfter (s.eval i).suspicion d (s.cfgNat .tD) (s.cfgNat .stepUp) ∧
    (t.eval i).suspect = flagAfter (s.eval i).suspect (s.cfgNat .sSuspect) (t.eval i).suspicion ∧
    ((s.eval i).suspect = false → (t.eval i).suspect = true →
      Lately t (eventAt r.completion .suspectSet (some i) (t.eval i).suspicion d) n) ∧
    ((s.eval i).suspect = true → (t.eval i).suspect = false →
      Lately t (eventAt r.completion .suspectCleared (some i) (t.eval i).suspicion 0) n)
  mark : (t.eval i).mark = (s.eval i).mark
  dwells : (t.eval i).reverseDwell = s.reverseCount r i ∧ (t.eval i).overDwell = s.overCountAt r i

theorem State.countDwells_evr (r : ScanRecord) (i : StringId) (s : State) : (s.countDwells r i).evr = s.evr := by
  unfold State.countDwells
  split <;> rfl

theorem State.judge_judged (r : ScanRecord) (i : StringId) (s : State) : Judged 1 r i s (s.judge r i) ∧
    (∀ j, j ≠ i → (s.judge r i).eval j = s.eval j) ∧ Spends 1 s (s.judge r i) := by
  have h := s.judgeDeficit_suspected r i
  have c := Judges.countDwells r i (s.judgeDeficit r i)
  have e := State.countDwells_eval r i (s.judgeDeficit r i)
  have o (j : StringId) (hj : j ≠ i) := State.countDwells_ne r (s.judgeDeficit r i) hj
  have v := State.countDwells_evr r i (s.judgeDeficit r i)
  unfold State.judge
  generalize s.judgeDeficit r i = u at h c e o v
  obtain ⟨-, reverse, high⟩ := h.judges.same (r := r) h.dwells
  have late {x : EventRecord} (hx : Lately u x 1) : Lately (u.countDwells r i) x 1 :=
    hx.congr (by rw [c.reads.1]) (by rw [v])
  refine ⟨⟨h.judges.trans c, by rw [e]; exact h.deficit, fun hd => by rw [e]; exact h.none_ hd, fun d hd => ?_,
    by rw [e]; exact h.dwells.1, by rw [e]; exact ⟨reverse, high⟩⟩, fun j hj => (o j hj).trans (h.others j hj),
    h.spends.quiet v c.reads.1 c.reads.2.2.2.2.1⟩
  obtain ⟨h1, h2, h3, h4⟩ := h.some_ d hd
  rw [e]
  exact ⟨h1, h2, fun x y => late (h3 x y), fun x y => late (h4 x y)⟩

/-- The judgement of a list of strings changes the evaluator's part of those alone. -/
theorem State.judgeAll_others (r : ScanRecord) (xs : List StringId) (s : State) :
    Judges s (forStrings (State.judge r) xs s) ∧
    (∀ j, j ∉ xs → (forStrings (State.judge r) xs s).eval j = s.eval j) ∧
    Spends xs.length s (forStrings (State.judge r) xs s) := by
  induction xs generalizing s with
  | nil => exact ⟨Judges.refl s, fun _ _ => rfl, Spends.refl s⟩
  | cons x xs ih =>
    obtain ⟨h1, h2, h3⟩ := s.judge_judged r x
    obtain ⟨i1, i2, i3⟩ := ih (s.judge r x)
    refine ⟨h1.judges.trans i1, fun j hj => (i2 j fun m => hj (List.mem_cons_of_mem _ m)).trans
      (h2 j fun e => hj (e ▸ List.mem_cons_self)), (h3.trans i3).mono ?_⟩
    rw [List.length_cons, Nat.add_comm]

theorem allStrings_split (i : StringId) : ∃ xs ys, allStrings = xs ++ i :: ys ∧ i ∉ xs ∧ i ∉ ys := by
  obtain ⟨xs, ys, e⟩ := List.append_of_mem (List.contains_iff_mem.1 (mem_allStrings i))
  have nodup : (xs ++ i :: ys).Nodup := e ▸ (by decide : allStrings.Nodup)
  exact ⟨xs, ys, e, fun m => (List.nodup_append.1 nodup).2.2 i m i List.mem_cons_self rfl,
    (List.nodup_cons.1 (List.nodup_append.1 nodup).2.1).1⟩

/-- What the judgement of every string leaves of each. -/
theorem State.judgeAll_judged (r : ScanRecord) (i : StringId) (s : State) :
    ∃ n, n ≤ 17 ∧ Judged n r i s (forStrings (State.judge r) allStrings s) := by
  obtain ⟨xs, ys, e, before, after⟩ := allStrings_split i
  have len : xs.length + (ys.length + 1) = 16 := by
    rw [← List.length_cons (a := i), ← List.length_append, ← e]
    rfl
  rw [e, forStrings_append]
  obtain ⟨a1, a2, -⟩ := s.judgeAll_others r xs
  generalize forStrings (State.judge r) xs s = u at a1 a2 ⊢
  obtain ⟨b1, -, -⟩ := u.judge_judged r i
  obtain ⟨c1, c2, m, hm, hl⟩ := (u.judge r i).judgeAll_others r ys
  have own := a2 i before
  obtain ⟨d1, d2, d3⟩ := a1.same (r := r) (i := i) (by rw [own]; exact ⟨rfl, rfl, rfl⟩)
  have all := (u.judge r i).setAllowance_le
  change ∃ n, n ≤ 17 ∧ Judged n r i s (forStrings (State.judge r) ys (u.judge r i))
  refine ⟨1 + m, by omega, ?_⟩
  have late {x : EventRecord} (h : Lately (u.judge r i) x 1) :
      Lately (forStrings (State.judge r) ys (u.judge r i)) x (1 + m) := hl x 1 (by simp only [ringSize]; omega) h
  have cfg (k : Setting) : u.cfgNat k = s.cfgNat k := by rw [State.cfgNat, State.cfg, a1.reads.1]; rfl
  obtain ⟨judges, h1, h2, h3, h4, h5⟩ := b1
  rw [d1, own] at h2
  rw [d1, own, cfg, cfg, cfg] at h3
  rw [own] at h4
  rw [d1] at h1
  rw [d2, d3] at h5
  refine ⟨a1.trans (judges.trans c1), ?_, ?_, ?_, ?_, ?_⟩ <;> rw [c2 i after]
  · exact h1
  · exact h2
  · intro d hd
    obtain ⟨k1, k2, k3, k4⟩ := h3 d hd
    exact ⟨k1, k2, fun x y => late (k3 x y), fun x y => late (k4 x y)⟩
  · exact h4
  · exact h5

end Sys2Proof.Machine
end

section
/-! SUPPORT. The trips of a completion: what a trip leaves of its string and of the others (R34 to R36, R102). -/

namespace Sys2Proof.Machine

variable {T : StringId → Prop} {s t u : State} {i j : StringId} {r : ScanRecord} {x : Hold}

/-! ### What the trips of some strings leave of the others -/

/-- The part beyond switching, without what the evaluator and the reclose timers keep. -/
def State.beyondTrips (s : State) : State :=
  { s with seval := State.neverStarted.seval, rcl := State.neverStarted.rcl }.beyondSwitching

theorem State.beyondTrips_of_beyond (h : t.beyondSwitching = s.beyondSwitching) : t.beyondTrips = s.beyondTrips :=
  congrArg (fun v : State => { v with seval := State.neverStarted.beyondSwitching.seval
                                      rcl := State.neverStarted.beyondSwitching.rcl }) h

theorem State.beyond_of_beyondTrips (h : t.beyondTrips = s.beyondTrips) :
    { t with seval := s.seval, rcl := s.rcl }.beyondSwitching = s.beyondSwitching :=
  congrArg (fun v : State => { v with seval := s.beyondSwitching.seval, rcl := s.beyondSwitching.rcl }) h

/-- What trips of the strings of `T` leave of the part and of the other strings. -/
structure Trips (T : StringId → Prop) (s t : State) : Prop where
  settings : t.settings = s.settings
  now : t.now = s.now
  groups : t.seval.groups = s.seval.groups
  search : t.gsu.state = s.gsu.state
  retest : ∀ j, t.underRetest j = true → s.underRetest j = true
  closed : ∀ j, ¬T j → s.switchState j = .closed → j ∉ s.sseq.rampList →
    t.sw j = s.sw j ∧ j ∉ t.sseq.rampList ∧ t.eval j = s.eval j ∧ t.rcl[j] = s.rcl[j]
  open_ : ∀ j, ¬T j → s.switchState j ≠ .closed →
    t.switchState j ≠ .closed ∧ t.eval j = s.eval j ∧ t.rcl[j] = s.rcl[j]
  records : s.gsu.state = .idle → ∀ j, ¬T j → Retested (s.underRetest j) (s.str j) (t.str j)
  beyond : t.beyondTrips = s.beyondTrips

theorem Trips.refl (s : State) : Trips T s s :=
  ⟨rfl, rfl, rfl, rfl, fun _ h => h, fun _ _ _ hl => ⟨rfl, hl, rfl, rfl⟩, fun _ _ h => ⟨h, rfl, rfl⟩,
    fun _ _ _ => .inl rfl, rfl⟩

theorem Trips.trans (h : Trips T s t) (k : Trips T t u) : Trips T s u where
  settings := k.settings.trans h.settings
  now := k.now.trans h.now
  groups := k.groups.trans h.groups
  search := k.search.trans h.search
  retest j hj := h.retest j (k.retest j hj)
  closed j hT hs hl := by
    obtain ⟨h1, h2, h3, h4⟩ := h.closed j hT hs hl
    obtain ⟨k1, k2, k3, k4⟩ := k.closed j hT ((congrArg Switch.state h1).trans hs) h2
    exact ⟨k1.trans h1, k2, k3.trans h3, k4.trans h4⟩
  open_ j hT hs := by
    obtain ⟨h1, h2, h3⟩ := h.open_ j hT hs
    obtain ⟨k1, k2, k3⟩ := k.open_ j hT h1
    exact ⟨k1, k2.trans h2, k3.trans h3⟩
  records hg j hT := (h.records hg j hT).trans (k.records (h.search.trans hg) j hT) fun e => h.retest j e
  beyond := k.beyond.trans h.beyond

theorem Trips.mono {T' : StringId → Prop} (h : Trips T s t) (hT : ∀ j, T j → T' j) : Trips T' s t :=
  { h with
    closed := fun j hj => h.closed j fun e => hj (hT j e)
    open_ := fun j hj => h.open_ j fun e => hj (hT j e)
    records := fun hg j hj => h.records hg j fun e => hj (hT j e) }

theorem Trips.of_deeds (d : Deeds True T s t) : Trips T s t where
  settings := d.still.settings
  now := d.still.now
  groups := (congrArg (fun v : State => v.seval.groups) d.beyond :)
  search := d.search
  retest j := d.retest
  closed j hT hs hl := by
    obtain ⟨h1, h2, h3, h4⟩ := d.strings_closed hT hs fun _ => hl
    exact ⟨h1, h2 trivial, h3, h4⟩
  open_ j _ hs := d.strings_open hs
  records hg j hT := d.records hg hT
  beyond := State.beyondTrips_of_beyond d.beyond

theorem Trips.modEval (hT : T i) (f : EvalString → EvalString) (s : State) : Trips T s (s.modEval i f) :=
  have ne {j : StringId} (hj : ¬T j) : j ≠ i := fun e => hj (e ▸ hT)
  ⟨rfl, rfl, rfl, rfl, fun _ h => h, fun _ hj _ hl => ⟨rfl, hl, State.eval_modEval_ne f s (ne hj), rfl⟩,
    fun _ hj h => ⟨h, State.eval_modEval_ne f s (ne hj), rfl⟩, fun _ _ _ => .inl rfl, rfl⟩

theorem Trips.modRcl (hT : T i) (f : RecloseTimers → RecloseTimers) (s : State) : Trips T s (s.modRcl i f) :=
  have ne {j : StringId} (hj : ¬T j) : j ≠ i := fun e => hj (e ▸ hT)
  ⟨rfl, rfl, rfl, rfl, fun _ h => h, fun j hj _ hl => ⟨rfl, hl, rfl, (State.rcl_modRcl i j f s).trans (if_neg (ne hj))⟩,
    fun j hj h => ⟨h, rfl, (State.rcl_modRcl i j f s).trans (if_neg (ne hj))⟩, fun _ _ _ => .inl rfl, rfl⟩

theorem Trips.modString (hT : T i) (f : StringRecord → StringRecord) (s : State) : Trips T s (s.modString i f) :=
  have ne {j : StringId} (hj : ¬T j) : j ≠ i := fun e => hj (e ▸ hT)
  ⟨rfl, rfl, rfl, rfl, fun _ h => h, fun _ _ _ hl => ⟨rfl, hl, rfl, rfl⟩, fun _ _ h => ⟨h, rfl, rfl⟩,
    fun _ j hj => .inl ((State.str_modString i j f s).trans (if_neg (ne hj))), rfl⟩

theorem Trips.emitAt (time : Uptime) (k : EventKind) (y : Option StringId) (a b : Int) (s : State) :
    Trips T s (s.emitAt time k y a b) := by
  obtain ⟨g, e⟩ := State.emitAt_eq time k y a b s
  rw [e]
  exact ⟨rfl, rfl, rfl, rfl, fun _ h => h, fun _ _ _ hl => ⟨rfl, hl, rfl, rfl⟩, fun _ _ h => ⟨h, rfl, rfl⟩,
    fun _ _ _ => .inl rfl, rfl⟩

/-! ### The two trips of a string -/

/-- A hold added to a string, and the reports of it taken up. -/
def State.holds (x : Hold) (i : StringId) (s : State) : State := (s.addHold x i).takeReports

/-- A REVERSE trip (R34). -/
def State.tripReverse (r : ScanRecord) (rev : Nat) (i : StringId) (s : State) : State :=
  ((s.holds .reverse i).modEval i fun e => { e with reverseDwell := 0 }).emitAt r.completion .reverseTrip (some i)
    (r.sample i).current rev

/-- An OVERCURRENT trip (R35, R102). -/
def State.tripOver (r : ScanRecord) (i : StringId) (s : State) : State :=
  (s.addOvercurrent i (r.sample i).current r.completion).modEval i fun e => { e with overDwell := 0 }

/-- A string's REVERSE trip, where its count calls for one. -/
def State.mayReverse (r : ScanRecord) (rev : Nat) (i : StringId) (s : State) : State :=
  if 0 < rev ∧ s.cfgNat .nRev ≤ rev then s.tripReverse r rev i else s

/-- A string's OVERCURRENT trip, where its count calls for one. -/
def State.mayOver (r : ScanRecord) (high : Nat) (i : StringId) (s : State) : State :=
  if 0 < high ∧ s.cfgNat .nOver ≤ high then s.tripOver r i else s

theorem State.trip_eq (r : ScanRecord) (dwell : StringId → Nat × Nat) (i : StringId) (s : State) :
    s.trip r dwell i = (s.mayReverse r (dwell i).1 i).mayOver r (dwell i).2 i := rfl

theorem Deeds.holds (hx : x.kind ≠ .switch) (i : StringId) (s : State) : Deeds True (· = i) s (s.holds x i) :=
  Deeds.takeReports (Deeds.addHold (T := (· = i)) (Deeds.refl s) (fun n => absurd trivial n) rfl x hx)

theorem Trips.tripReverse (r : ScanRecord) (rev : Nat) (i : StringId) (s : State) :
    Trips (· = i) s (s.tripReverse r rev i) :=
  ((Trips.of_deeds (Deeds.holds (x := .reverse) (by decide) i s)).trans (Trips.modEval (T := (· = i)) rfl _ _)).trans
    (Trips.emitAt ..)

theorem Trips.takeUpOvercurrent (i : StringId) (current : Int) (time : Uptime) (s : State) :
    Trips (· = i) s (s.takeUpOvercurrent i current time) :=
  ((Trips.modRcl (T := (· = i)) rfl _ s).trans (Trips.modString (T := (· = i)) rfl _ _)).trans (Trips.emitAt ..)

theorem Trips.tripOver (r : ScanRecord) (i : StringId) (s : State) : Trips (· = i) s (s.tripOver r i) := by
  refine Trips.trans ?_ (Trips.modEval (T := (· = i)) rfl _ _)
  unfold State.addOvercurrent
  split
  · exact (Trips.of_deeds (Deeds.holds (x := .overcurrent) (by decide) i s)).trans (Trips.takeUpOvercurrent ..)
  · exact Trips.refl s

theorem Trips.mayReverse (r : ScanRecord) (rev : Nat) (i : StringId) (s : State) :
    Trips (· = i) s (s.mayReverse r rev i) := by
  unfold State.mayReverse
  split
  · exact Trips.tripReverse ..
  · exact Trips.refl s

/-! ### The tripped string -/

/-- The record of a string that gains a kind while no search is under way and it is under no retest. -/
theorem State.str_holds (hg : s.gsu.state = .idle) (hp : s.present i = true)
    (hn : s.has x.kind i = false) (hu : s.underRetest i = false) : (s.holds x i).str i = (s.str i).put x := by
  have put : (s.putHold x i).str i = (s.str i).put x := (State.str_putHold x i i s hp hn).trans (if_pos rfl)
  obtain ⟨q, c, y, e⟩ := State.putHold_eq x i s
  have turned : ((s.putHold x i).targetTurnsOpen i).str i = (s.str i).put x := by
    rcases State.targetTurnsOpen_records (s := s.putHold x i) (by rw [e]; exact hg) i i with k | ⟨k, -⟩
    · exact k.trans put
    · rw [e] at k
      have k : s.underRetest i = true := k
      rw [hu] at k
      cases k
  have added : (s.addHold x i).str i = (s.str i).put x := by
    unfold State.addHold
    by_cases hc : s.target i = true ∧ (s.putHold x i).target i = false
    · rw [if_pos hc]
      exact turned
    · rw [if_neg hc]
      exact put
  obtain ⟨a, g, c, p, e⟩ := (s.addHold x i).takeReports_eq
  rw [State.holds, e]
  exact added

/-- A hold added to a CLOSED string turns it off at once (R86). -/
theorem State.holds_closed (hx : x.kind ≠ .switch) (hs : s.switchState i = .closed) (ht : s.target i = true) :
    s.holds x i = ((s.putHold x i).interruptQ i).arbiter.takeReports := by
  obtain ⟨own, -⟩ := State.addHold_turns hx ht
  obtain ⟨q, c, y, e⟩ := State.putHold_eq x i s
  have state : (s.putHold x i).switchState i = .closed := by
    rw [e]
    exact hs
  rw [State.holds, own, State.targetTurnsOpen, state]

/-- What a hold added to a CLOSED string leaves of it (R36, R86, R105). -/
theorem State.closed_holds (hx : x.kind ≠ .switch) (hs : s.switchState i = .closed) (ht : s.target i = true) :
    (s.holds x i).switchState i ≠ .closed ∧ (s.holds x i).eval i = (s.eval i).leftClosed ∧
    (s.holds x i).rcl[i] = { s.rcl[i] with stable := none } := by
  have turn := State.holds_closed hx hs ht
  obtain ⟨q, c, y, e⟩ := State.putHold_eq x i s
  have same : (s.putHold x i).switchState i = .closed ∧ (s.putHold x i).eval i = s.eval i ∧
      (s.putHold x i).rcl = s.rcl := by
    rw [e]
    exact ⟨hs, rfl, rfl⟩
  obtain ⟨state, evals, timers⟩ := same
  generalize s.putHold x i = v at state evals timers turn
  obtain ⟨to_, -, strings, -, -⟩ := v.interruptQ_leaves i
  obtain ⟨h1, h2⟩ := strings state
  have left : (v.interruptQ i).switchState i ≠ .closed := by
    rw [to_, interruptedTo]
    split <;> decide
  have d : Deeds True (fun _ => True) (v.interruptQ i) (v.interruptQ i).arbiter.takeReports :=
    ((Deeds.refl _).arbiter fun n => absurd trivial n).takeReports
  obtain ⟨k1, k2, k3⟩ := d.strings_open left
  rw [turn]
  exact ⟨k1, k2.trans (h1.trans (by rw [evals])), k3.trans (h2.trans (by rw [timers]))⟩

/-- A string that may trip: PRESENT, its switch on or off, its target CLOSED where it is on, under no retest. -/
structure MayTrip (i : StringId) (s : State) : Prop where
  search : s.gsu.state = .idle
  present : s.present i = true
  retest : s.underRetest i = false

/-- What a REVERSE trip leaves of its string (R34, R36). -/
theorem State.tripReverse_leaves (hm : MayTrip i s) (hs : s.switchState i = .closed) (ht : s.target i = true) (rev : Nat) :
    (s.tripReverse r rev i).switchState i ≠ .closed ∧ (s.tripReverse r rev i).eval i = (s.eval i).leftClosed ∧
    (s.tripReverse r rev i).rcl[i] = { s.rcl[i] with stable := none } ∧
    (s.tripReverse r rev i).str i = (s.str i).put .reverse ∧
    Lately (s.tripReverse r rev i) (eventAt r.completion .reverseTrip (some i) (r.sample i).current rev) 1 := by
  obtain ⟨h1, h2, h3⟩ := State.closed_holds (x := .reverse) (by decide) hs ht
  have h4 := State.str_holds (x := .reverse) hm.search hm.present (State.has_of_target ht _) hm.retest
  have late : Lately (s.tripReverse r rev i) (eventAt r.completion .reverseTrip (some i) (r.sample i).current rev) 1 :=
    Lately.route _ rfl _
  have ev := State.eval_modEval_same i (fun e => { e with reverseDwell := 0 }) (s.holds .reverse i)
  obtain ⟨g, e⟩ := State.emitAt_eq r.completion .reverseTrip (some i) (r.sample i).current rev
    ((s.holds .reverse i).modEval i fun e => { e with reverseDwell := 0 })
  refine ⟨?_, ?_, ?_, ?_, late⟩ <;> rw [State.tripReverse, e]
  · exact h1
  · refine ev.trans ?_
    rw [h2]
    rfl
  · exact h3
  · exact h4

/-- The attempt that an OVERCURRENT trip of a string begins (R102). -/
def State.nextAttempt (s : State) (i : StringId) : Nat := min ((s.str i).overcurrentCount + 1) 15

/-- Whether that attempt ends in an automatic reclose (R102). -/
def State.recloses (s : State) (i : StringId) : Bool := decide (s.nextAttempt i ≤ s.cfgNat .recloseLimit)

/-- The reclose timers of a string after an OVERCURRENT trip (R102, R105). -/
def State.recloseAfter (s : State) (i : StringId) : RecloseTimers :=
  { stable := none
    reclose := if s.recloses i then some (s.after (recloseWait (s.cfgNat .tBase) (s.nextAttempt i)))
      else (s.rcl[i]).reclose }

/-- The event of an OVERCURRENT trip (R102). -/
def State.overEvent (r : ScanRecord) (i : StringId) (s : State) : EventRecord :=
  eventAt r.completion .overcurrentTrip (some i) (r.sample i).current
    (s.nextAttempt i + (if s.recloses i then 0x100 else 0))

/-- What an OVERCURRENT trip leaves of its string (R35, R36, R102). -/
structure TrippedOver (r : ScanRecord) (i : StringId) (s t : State) : Prop where
  state : t.switchState i ≠ .closed
  eval : t.eval i = { (if s.switchState i = .closed then (s.eval i).leftClosed else s.eval i) with overDwell := 0 }
  record : t.str i = { (s.str i).put .overcurrent with
    overcurrentCount := s.nextAttempt i
    overcurrent := some { attempt := s.nextAttempt i, auto := s.recloses i } }
  timers : t.rcl[i] = s.recloseAfter i
  event : Lately t (s.overEvent r i) 1

/-- The taking up of a gained OVERCURRENT (R102). -/
theorem State.takeUpOvercurrent_leaves (r : ScanRecord) (i : StringId) (s : State) :
    (s.takeUpOvercurrent i (r.sample i).current r.completion).sseq = s.sseq ∧
    (s.takeUpOvercurrent i (r.sample i).current r.completion).eval i = s.eval i ∧
    (s.takeUpOvercurrent i (r.sample i).current r.completion).str i = { (s.str i) with
      overcurrentCount := s.nextAttempt i
      overcurrent := some { attempt := s.nextAttempt i, auto := s.recloses i } } ∧
    (s.takeUpOvercurrent i (r.sample i).current r.completion).rcl[i] = s.recloseAfter i ∧
    Lately (s.takeUpOvercurrent i (r.sample i).current r.completion) (s.overEvent r i) 1 := by
  have run : s.takeUpOvercurrent i (r.sample i).current r.completion = (((s.modRcl i fun _ => s.recloseAfter i).modString i
      fun y => { y with overcurrentCount := s.nextAttempt i
                        overcurrent := some { attempt := s.nextAttempt i, auto := s.recloses i } }).emitAt r.completion
      .overcurrentTrip (some i) (r.sample i).current (s.nextAttempt i + (if s.recloses i then 0x100 else 0))) := by
    unfold State.takeUpOvercurrent
    simp only []
    rw [State.modRcl, State.modRcl]
    rfl
  have late : Lately (s.takeUpOvercurrent i (r.sample i).current r.completion) (s.overEvent r i) 1 := by
    rw [run]
    exact Lately.route _ rfl _
  have record := State.str_modString i i (fun y => { y with
    overcurrentCount := s.nextAttempt i
    overcurrent := some { attempt := s.nextAttempt i, auto := s.recloses i } }) (s.modRcl i fun _ => s.recloseAfter i)
  have timers := State.rcl_modRcl i i (fun _ => s.recloseAfter i) s
  rw [if_pos rfl] at record timers
  obtain ⟨g, e⟩ := State.emitAt_eq r.completion .overcurrentTrip (some i) (r.sample i).current
    (s.nextAttempt i + (if s.recloses i then 0x100 else 0)) ((s.modRcl i fun _ => s.recloseAfter i).modString i
      fun y => { y with overcurrentCount := s.nextAttempt i
                        overcurrent := some { attempt := s.nextAttempt i, auto := s.recloses i } })
  refine ⟨?_, ?_, ?_, ?_, late⟩ <;> rw [run, e]
  · rfl
  · rfl
  · exact record
  · exact timers

/-- An OVERCURRENT added to a string, whether it is CLOSED or off already (R35, R36, R105). -/
theorem State.holds_over (ht : s.switchState i = .closed → s.target i = true) :
    (s.holds .overcurrent i).switchState i ≠ .closed ∧
    (s.holds .overcurrent i).eval i = (if s.switchState i = .closed then (s.eval i).leftClosed else s.eval i) ∧
    ((s.holds .overcurrent i).rcl[i]).reclose = (s.rcl[i]).reclose := by
  by_cases hs : s.switchState i = .closed
  · obtain ⟨h1, h2, h3⟩ := State.closed_holds (x := .overcurrent) (by decide) hs (ht hs)
    rw [if_pos hs]
    exact ⟨h1, h2, by rw [h3]⟩
  · obtain ⟨h1, h2, h3⟩ := (Deeds.holds (x := .overcurrent) (by decide) i s).strings_open hs
    rw [if_neg hs]
    exact ⟨h1, h2, congrArg RecloseTimers.reclose h3⟩

/-- What an OVERCURRENT trip leaves of its string, which does not carry the kind. -/
theorem State.tripOver_leaves (hm : MayTrip i s) (ht : s.switchState i = .closed → s.target i = true)
    (hn : s.has .overcurrent i = false) : TrippedOver r i s (s.tripOver r i) := by
  obtain ⟨h1, h2, h3⟩ := State.holds_over ht
  have h4 := State.str_holds (x := .overcurrent) hm.search hm.present hn hm.retest
  have d := Trips.of_deeds (Deeds.holds (x := .overcurrent) (by decide) i s)
  have run : s.tripOver r i = ((s.holds .overcurrent i).takeUpOvercurrent i (r.sample i).current r.completion).modEval i
      fun e => { e with overDwell := 0 } := by
    rw [State.tripOver, State.addOvercurrent, if_pos ⟨hm.present, hn⟩]
    rfl
  rw [run]
  generalize s.holds .overcurrent i = v at h1 h2 h3 h4 d
  obtain ⟨k1, k2, k3, k4, k5⟩ := State.takeUpOvercurrent_leaves r i v
  have attempt : v.nextAttempt i = s.nextAttempt i := by rw [State.nextAttempt, h4]; rfl
  have cfg (k : Setting) : v.cfgNat k = s.cfgNat k := by rw [State.cfgNat, State.cfg, d.settings]; rfl
  have auto : v.recloses i = s.recloses i := by rw [State.recloses, attempt, cfg]; rfl
  refine ⟨?_, ?_, ?_, ?_, ?_⟩
  · rw [State.switchState, State.sw, State.modEval_sseq, k1]
    exact h1
  · rw [State.eval_modEval_same, k2, h2]
  · rw [← attempt, ← auto, ← h4]
    exact k3
  · refine (k4 :).trans ?_
    rw [State.recloseAfter, State.recloseAfter, auto, attempt, h3, State.after, State.after, cfg, d.now]
  · rw [State.overEvent, auto, attempt] at k5
    exact k5.congr rfl rfl

end Sys2Proof.Machine
end

section
/-! SUPPORT. The trips of a completion, over all strings (R34 to R36, R102). -/

namespace Sys2Proof.Machine

variable {T : StringId → Prop} {s t u : State} {i j : StringId} {r : ScanRecord}

/-! ### Strings that trip -/

/-- A completion takes the string out of CLOSED (R34, R35). -/
def State.trips (s : State) (r : ScanRecord) (i : StringId) : Bool := s.tripsReverse r i || s.tripsOver r i

/-- What the state before a trip holds of the string: it is CLOSED, wanted there, in no ramp and under no retest. -/
structure Trippable (i : StringId) (t : State) : Prop where
  search : t.gsu.state = .idle
  retest : t.underRetest i = false
  state : t.switchState i = .closed
  target : t.target i = true
  unlisted : i ∉ t.sseq.rampList

theorem State.present_of_target (h : s.target i = true) : s.present i = true := by
  simp only [State.target, Bool.and_eq_true] at h
  exact h.1

theorem Trippable.mayTrip (h : Trippable i t) : MayTrip i t := ⟨h.search, State.present_of_target h.target, h.retest⟩

/-- A CLOSED string of the calm part can trip. -/
theorem Trippable.of_closed (hc : s.calm) (hf : s.closesOnlyFree) (hs : s.switchState i = .closed) : Trippable i s := by
  obtain ⟨-, free, -, listed, -, retest⟩ := hf
  refine ⟨hc.1, ?_, hs, free i (.inr (.inr (.inr hs))), fun m => ?_⟩
  · by_contra hu
    cases hr : s.sseq.retest with
    | none => simp [State.underRetest, hr] at hu
    | some x =>
      have e : x.string = i := by simpa [State.underRetest, hr] using hu
      have := retest x (Option.mem_def.2 hr)
      rw [e, hs] at this
      cases this
  · have := listed i m
    rw [hs] at this
    cases this

/-- It still can where the part in question stands. -/
theorem Trippable.of_same (h : Trippable i s) (hq : t.sseq = s.sseq) (hb : t.stab = s.stab) (hs : t.settings = s.settings)
    (hg : t.gsu = s.gsu) : Trippable i t := by
  obtain ⟨search, retest, state, target, unlisted⟩ := h
  refine ⟨by rw [hg, search], ?_, ?_, ?_, by rwa [hq]⟩
  · rw [← retest, State.underRetest, State.underRetest, hq]
  · rw [← state, State.switchState, State.sw, hq]
    rfl
  · rw [← target, State.target, State.target, State.present, State.present, State.strSet, State.strSet, State.str, hb, hs]
    rfl

theorem Retested.of_false {c w : StringRecord} (h : Retested false c w) : w = c := by
  rcases h with e | ⟨e, -⟩
  · exact e
  · cases e

/-- It still can after the trips of other strings. -/
theorem Trippable.trips (h : Trippable i s) (k : Trips T s t) (hi : ¬T i) : Trippable i t := by
  obtain ⟨search, retest, state, target, unlisted⟩ := h
  obtain ⟨sw, out, -, -⟩ := k.closed i hi state unlisted
  have record : t.str i = s.str i := Retested.of_false (retest ▸ k.records search i hi)
  refine ⟨k.search.trans search, Bool.eq_false_iff.2 fun e => ?_, (congrArg Switch.state sw).trans state, ?_, out⟩
  · exact Bool.false_ne_true (retest.symm.trans (k.retest i e))
  · rw [← target, State.target, State.target, State.present, State.present, State.strSet, State.strSet, record, k.settings]

theorem State.counted_of_count (h : 0 < s.reverseCount r i ∨ 0 < s.overCountAt r i) (he : s.evaluated r i = true) :
    s.counted r i = true := by
  have he : ((r.entries[i]).isSome && s.present i) = true := he
  by_contra hn
  rcases h with h | h
  · rw [State.reverseCount, if_pos he, if_neg fun x => hn x.1] at h
    cases h
  · rw [State.overCountAt, if_pos he, if_neg fun x => hn x.1] at h
    cases h

theorem State.tripsReverse_iff : s.tripsReverse r i = true ↔
    s.evaluated r i = true ∧ 0 < s.reverseCount r i ∧ s.cfgNat .nRev ≤ s.reverseCount r i := by
  simp only [State.tripsReverse, State.evaluated, Bool.and_eq_true, decide_eq_true_eq, and_assoc]

theorem State.tripsOver_iff : s.tripsOver r i = true ↔
    s.evaluated r i = true ∧ 0 < s.overCountAt r i ∧ s.cfgNat .nOver ≤ s.overCountAt r i := by
  simp only [State.tripsOver, State.evaluated, Bool.and_eq_true, decide_eq_true_eq, and_assoc]

/-- A string that trips is CLOSED and counted. -/
theorem State.counted_of_trips (h : s.trips r i = true) : s.counted r i = true := by
  rcases Bool.or_eq_true_iff.1 h with h | h
  · obtain ⟨he, hp, -⟩ := State.tripsReverse_iff.1 h
    exact State.counted_of_count (.inl hp) he
  · obtain ⟨he, hp, -⟩ := State.tripsOver_iff.1 h
    exact State.counted_of_count (.inr hp) he

theorem State.closed_of_counted (h : s.counted r i = true) : s.switchState i = .closed := by
  simp only [State.counted, Bool.and_eq_true, decide_eq_true_eq] at h
  exact h.1.2

/-! ### One string's trips, by the counts of the completion -/

/-- The trips of one string, as the state before the completion's trips calls for them. -/
def State.tripEach (s : State) (r : ScanRecord) (i : StringId) (t : State) : State :=
  let t := if s.tripsReverse r i = true then t.tripReverse r (s.reverseCount r i) i else t
  if s.tripsOver r i = true then t.tripOver r i else t

/-- Without a trip a string's turn does nothing. -/
theorem State.tripEach_none (h : s.trips r i = false) (t : State) : s.tripEach r i t = t := by
  obtain ⟨h1, h2⟩ := Bool.or_eq_false_iff.1 h
  simp [State.tripEach, h1, h2]

theorem Trips.tripEach (s : State) (r : ScanRecord) (i : StringId) (t : State) :
    Trips (fun j => j = i ∧ s.trips r j = true) t (s.tripEach r i t) := by
  by_cases h : s.trips r i = true
  · have own (j : StringId) (e : j = i) : j = i ∧ s.trips r j = true := ⟨e, e ▸ h⟩
    have first : Trips (· = i) t (if s.tripsReverse r i = true then t.tripReverse r (s.reverseCount r i) i else t) := by
      split
      · exact Trips.tripReverse ..
      · exact Trips.refl t
    have second (w : State) : Trips (· = i) w (if s.tripsOver r i = true then w.tripOver r i else w) := by
      split
      · exact Trips.tripOver ..
      · exact Trips.refl w
    exact Trips.mono (first.trans (second _)) own
  · rw [State.tripEach_none (Bool.eq_false_iff.2 h)]
    exact Trips.refl t

theorem Trips.tripList (s : State) (r : ScanRecord) (xs : List StringId) (t : State) :
    Trips (fun j => j ∈ xs ∧ s.trips r j = true) t (forStrings (s.tripEach r) xs t) := by
  induction xs generalizing t with
  | nil => exact Trips.refl t
  | cons x xs ih =>
    exact ((Trips.tripEach s r x t).mono fun j h => ⟨h.1 ▸ List.mem_cons_self, h.2⟩).trans
      ((ih (s.tripEach r x t)).mono fun j h => ⟨List.mem_cons_of_mem _ h.1, h.2⟩)

/-- The trips of a list are those that the state before them calls for. -/
theorem State.trips_eq {v : State} (he : ∀ i, v.evaluated r i = s.evaluated r i)
    (hd : ∀ i, (v.eval i).reverseDwell = s.reverseCount r i ∧ (v.eval i).overDwell = s.overCountAt r i)
    (xs : List StringId) (ht : t.settings = s.settings) :
    forStrings (fun i t => if v.evaluated r i then
      t.trip r (fun i => ((v.eval i).reverseDwell, (v.eval i).overDwell)) i else t) xs t =
    forStrings (s.tripEach r) xs t := by
  have cfg {u : State} (hu : u.settings = s.settings) (k : Setting) : u.cfgNat k = s.cfgNat k := by
    rw [State.cfgNat, State.cfg, hu]
    rfl
  have each (x : StringId) {u : State} (hu : u.settings = s.settings) : (if v.evaluated r x then
      u.trip r (fun i => ((v.eval i).reverseDwell, (v.eval i).overDwell)) x else u) = s.tripEach r x u := by
    obtain ⟨h1, h2⟩ := hd x
    rw [he]
    by_cases h : s.evaluated r x = true
    · have first : u.mayReverse r (s.reverseCount r x) x =
          if s.tripsReverse r x = true then u.tripReverse r (s.reverseCount r x) x else u := by
        rw [State.mayReverse, cfg hu]
        exact if_congr (by rw [State.tripsReverse_iff]; exact (and_iff_right h).symm) rfl rfl
      have hw := (Trips.mayReverse r (s.reverseCount r x) x u).settings.trans hu
      rw [if_pos h, State.trip_eq, h1, h2, State.mayOver, cfg hw, first]
      exact if_congr (by rw [State.tripsOver_iff]; exact (and_iff_right h).symm) rfl rfl
    · rw [if_neg h, State.tripEach_none]
      exact Bool.eq_false_iff.2 fun k => h (by
        have := State.counted_of_trips k
        simp only [State.counted, Bool.and_eq_true] at this
        rw [State.evaluated, Bool.and_eq_true]
        exact this.1.1)
  induction xs generalizing t with
  | nil => rfl
  | cons x xs ih =>
    refine (congrArg (forStrings _ xs) (each x ht)).trans ?_
    exact ih ((Trips.tripEach s r x t).settings.trans ht)

/-! ### What its trips leave of a string -/

/-- The judgement of a string that its trips do not touch. -/
def EvalString.judgement (e : EvalString) : Option Nat × Nat × Bool := (e.lastDeficit, e.suspicion, e.suspect)

/-- What the trips of a string leave of it. -/
structure OwnTrip (s : State) (r : ScanRecord) (i : StringId) (t u : State) : Prop where
  judgement : (u.eval i).judgement = (t.eval i).judgement
  state : s.trips r i = true → u.switchState i ≠ .closed
  reverse : s.tripsReverse r i = true → u.has .reverse i = true ∧ (u.eval i).reverseDwell = 0
  high : s.tripsOver r i = true → u.has .overcurrent i = true ∧ (u.eval i).overDwell = 0 ∧
    (u.str i).overcurrentCount = t.nextAttempt i ∧
    (u.str i).overcurrent = some { attempt := t.nextAttempt i, auto := t.recloses i } ∧ u.rcl[i] = t.recloseAfter i
  stands : s.tripsOver r i = false → (u.rcl[i]).reclose = (t.rcl[i]).reclose

theorem State.has_put_own (x : Hold) (h : u.str i = (t.str i).put x) (k : HoldKind) :
    u.has k i = (decide (k = x.kind) || t.has k i) := by
  rw [State.has, h]
  exact StringRecord.has_put _ _ _

/-- A string after its REVERSE trip can still gain OVERCURRENT in the same step. -/
theorem MayTrip.tripReverse (h : MayTrip i t) (n : Nat) : MayTrip i (t.tripReverse r n i) := by
  have k := Trips.tripReverse r n i t
  refine ⟨k.search.trans h.search, ?_, Bool.eq_false_iff.2 fun e => ?_⟩
  · rw [← h.present, State.present, State.present, State.strSet, State.strSet, k.settings]
  · exact Bool.false_ne_true (h.retest.symm.trans (k.retest i e))

/-- A REVERSE trip leaves the OVERCURRENT attempts and the reclose of its string as they were. -/
theorem State.reclose_tripReverse (h : Trippable i t) (n : Nat) :
    (t.tripReverse r n i).nextAttempt i = t.nextAttempt i ∧ (t.tripReverse r n i).recloses i = t.recloses i ∧
    (t.tripReverse r n i).recloseAfter i = t.recloseAfter i := by
  obtain ⟨-, -, timers, record, -⟩ := State.tripReverse_leaves (r := r) h.mayTrip h.state h.target n
  have k := Trips.tripReverse r n i t
  have cfg (x : Setting) : (t.tripReverse r n i).cfgNat x = t.cfgNat x := by
    rw [State.cfgNat, State.cfg, k.settings]
    rfl
  have attempt : (t.tripReverse r n i).nextAttempt i = t.nextAttempt i := by
    rw [State.nextAttempt, record]
    rfl
  have auto : (t.tripReverse r n i).recloses i = t.recloses i := by
    rw [State.recloses, attempt, cfg]
    rfl
  refine ⟨attempt, auto, ?_⟩
  rw [State.recloseAfter, State.recloseAfter, auto, attempt, timers, State.after, State.after, cfg, k.now]

theorem TrippedOver.leaves (h : TrippedOver r i t u) : u.has .overcurrent i = true ∧ (u.eval i).overDwell = 0 ∧
    (u.str i).overcurrentCount = t.nextAttempt i ∧
    (u.str i).overcurrent = some { attempt := t.nextAttempt i, auto := t.recloses i } ∧ u.rcl[i] = t.recloseAfter i := by
  refine ⟨?_, by rw [h.eval], by rw [h.record], by rw [h.record], h.timers⟩
  rw [State.has, h.record]
  exact (StringRecord.has_put (t.str i) .overcurrent .overcurrent).trans (Bool.true_or _)

theorem State.tripEach_own (h : Trippable i t) : OwnTrip s r i t (s.tripEach r i t) := by
  unfold State.tripEach
  by_cases hr : s.tripsReverse r i = true
  · obtain ⟨state, evals, timers, record, -⟩ :=
      State.tripReverse_leaves (r := r) h.mayTrip h.state h.target (s.reverseCount r i)
    obtain ⟨attempt, auto, after⟩ := State.reclose_tripReverse (r := r) h (s.reverseCount r i)
    have may := h.mayTrip.tripReverse (r := r) (s.reverseCount r i)
    rw [if_pos hr]
    generalize t.tripReverse r (s.reverseCount r i) i = w at state evals timers record attempt auto after may
    have has : w.has .reverse i = true := (State.has_put_own .reverse record .reverse).trans (Bool.true_or _)
    have none : w.has .overcurrent i = false :=
      (State.has_put_own .reverse record .overcurrent).trans (State.has_of_target h.target _)
    by_cases ho : s.tripsOver r i = true
    · have over_ := State.tripOver_leaves (r := r) may (fun e => absurd e state) none
      rw [if_pos ho]
      refine ⟨?_, fun _ => over_.state, fun _ => ⟨?_, ?_⟩, fun _ => ?_, fun e => absurd ho (Bool.eq_false_iff.1 e)⟩
      · rw [over_.eval, if_neg state, evals]
        rfl
      · rw [State.has, over_.record]
        exact (StringRecord.has_put (w.str i) .overcurrent .reverse).trans (by rw [← State.has, has]; rfl)
      · rw [over_.eval, if_neg state, evals]
        rfl
      · rw [← attempt, ← auto, ← after]
        exact over_.leaves
    · rw [if_neg ho]
      exact ⟨by rw [evals]; rfl, fun _ => state, fun _ => ⟨has, by rw [evals]; rfl⟩, fun e => absurd e ho,
        fun _ => by rw [timers]⟩
  · rw [if_neg hr]
    by_cases ho : s.tripsOver r i = true
    · have over_ := State.tripOver_leaves (r := r) h.mayTrip (fun _ => h.target) (State.has_of_target h.target _)
      rw [if_pos ho]
      exact ⟨by rw [over_.eval, if_pos h.state]; rfl, fun _ => over_.state, fun e => absurd e hr, fun _ => over_.leaves,
        fun e => absurd ho (Bool.eq_false_iff.1 e)⟩
    · rw [if_neg ho]
      refine ⟨rfl, fun e => ?_, fun e => absurd e hr, fun e => absurd e ho, fun _ => rfl⟩
      exact absurd (Bool.or_eq_true_iff.1 e) (by simp [hr, ho])

/-! ### All strings -/

/-- What a string's reclose reads of the part is the same where its record, its timers, the settings and the clock are. -/
theorem State.reclose_congr (hr : u.str i = t.str i) (hk : u.rcl[i] = t.rcl[i]) (hs : u.settings = t.settings)
    (hn : u.now = t.now) :
    u.nextAttempt i = t.nextAttempt i ∧ u.recloses i = t.recloses i ∧ u.recloseAfter i = t.recloseAfter i := by
  have cfg (x : Setting) : u.cfgNat x = t.cfgNat x := by
    rw [State.cfgNat, State.cfg, hs]
    rfl
  have attempt : u.nextAttempt i = t.nextAttempt i := by rw [State.nextAttempt, State.nextAttempt, hr]
  have auto : u.recloses i = t.recloses i := by rw [State.recloses, State.recloses, attempt, cfg]
  refine ⟨attempt, auto, ?_⟩
  rw [State.recloseAfter, State.recloseAfter, auto, attempt, hk, State.after, State.after, cfg, hn]

/-- What the completion's trips leave of a string that trips. -/
theorem State.tripAll_own (hi : s.trips r i = true) (h : Trippable i t) :
    OwnTrip s r i t (forStrings (s.tripEach r) allStrings t) := by
  obtain ⟨xs, ys, e, before, after⟩ := allStrings_split i
  rw [e, forStrings_append]
  have k := Trips.tripList s r xs t
  have hb : ¬(i ∈ xs ∧ s.trips r i = true) := fun x => before x.1
  obtain ⟨-, -, evals', timers⟩ := k.closed i hb h.state h.unlisted
  have record : _ = t.str i := Retested.of_false (h.retest ▸ k.records h.search i hb)
  have ready := h.trips k hb
  generalize forStrings (s.tripEach r) xs t = a at k evals' timers record ready
  have own := State.tripEach_own (s := s) (r := r) ready
  have each := Trips.tripEach s r i a
  change OwnTrip s r i t (forStrings (s.tripEach r) ys (s.tripEach r i a))
  generalize s.tripEach r i a = b at own each
  have l := Trips.tripList s r ys b
  have ha : ¬(i ∈ ys ∧ s.trips r i = true) := fun x => after x.1
  have idle := each.search.trans ready.search
  have retest : b.underRetest i = false :=
    Bool.eq_false_iff.2 fun x => Bool.false_ne_true (ready.retest.symm.trans (each.retest i x))
  obtain ⟨open_, evals, timers'⟩ := l.open_ i ha (own.state hi)
  have record' : _ = b.str i := Retested.of_false (retest ▸ l.records idle i ha)
  obtain ⟨attempt, auto, reclose⟩ := State.reclose_congr record timers k.settings k.now
  refine ⟨by rw [evals, own.judgement, evals'], fun _ => open_, fun x => ?_, fun x => ?_, fun x => ?_⟩
  · obtain ⟨h1, h2⟩ := own.reverse x
    exact ⟨by rw [State.has, record']; exact h1, by rw [evals]; exact h2⟩
  · obtain ⟨h1, h2, h3, h4, h5⟩ := own.high x
    rw [evals, record', timers', ← attempt, ← auto, ← reclose]
    exact ⟨by rw [State.has, record']; exact h1, h2, h3, h4, h5⟩
  · rw [timers', own.stands x, timers]

/-- What the completion's trips leave of a string that does not trip. -/
theorem State.tripAll_other (hf : s.closesOnlyFree) (hq : t.sseq = s.sseq) (hi : s.trips r i = false) :
    (t.switchState i = .closed → (forStrings (s.tripEach r) allStrings t).switchState i = .closed) ∧
    (forStrings (s.tripEach r) allStrings t).eval i = t.eval i ∧
    (forStrings (s.tripEach r) allStrings t).rcl[i] = t.rcl[i] ∧
    (t.gsu.state = .idle → Retested (t.underRetest i) (t.str i) ((forStrings (s.tripEach r) allStrings t).str i)) := by
  have k := Trips.tripList s r allStrings t
  have hn : ¬(i ∈ allStrings ∧ s.trips r i = true) := fun x => Bool.false_ne_true (hi.symm.trans x.2)
  by_cases hs : t.switchState i = .closed
  · have unlisted : i ∉ t.sseq.rampList := fun m => by
      have := hf.2.2.2.1 i (hq ▸ m)
      rw [State.switchState, State.sw, ← hq] at this
      cases this.symm.trans hs
    obtain ⟨sw, -, evals, timers⟩ := k.closed i hn hs unlisted
    exact ⟨fun _ => (congrArg Switch.state sw).trans hs, evals, timers, fun hg => k.records hg i hn⟩
  · obtain ⟨-, evals, timers⟩ := k.open_ i hn hs
    exact ⟨fun e => absurd e hs, evals, timers, fun hg => k.records hg i hn⟩

end Sys2Proof.Machine
end

section
/-! SUPPORT. What the trips of a completion add to the rings (R34, R35, R102, R156, R176). -/

namespace Sys2Proof.Machine

variable {R : Prop} {T : StringId → Prop} {s t u : State} {i j : StringId} {r : ScanRecord} {x : Hold} {n l : Nat}

/-! ### ARRAY SAFE while a string is CLOSED (R155, R156) -/

/-- A present CLOSED string keeps ARRAY SAFE from coming true. -/
theorem State.notSafe_of_closed (hp : s.present j = true) (hs : s.switchState j = .closed) :
    (s.fli.positionsKnown && s.notIsolated.isEmpty) = false := by
  have mem : j ∈ s.notIsolated := List.mem_filter.2 ⟨List.contains_iff_mem.1 (mem_allStrings j), by
    simp [hp, State.isolated, hs]⟩
  have some_ : s.notIsolated.isEmpty = false := by
    cases h : s.notIsolated with
    | nil =>
      rw [h] at mem
      cases mem
    | cons => rfl
  rw [some_, Bool.and_false]

theorem State.workArraySafe_same (h : (s.fli.positionsKnown && s.notIsolated.isEmpty) = s.fli.arraySafe) :
    s.workArraySafe = s := if_pos h

theorem State.enter_fli (i : StringId) (new : SwitchState) (timer : Option Nat) (s : State) :
    (s.enter i new timer).fli = s.fli := by
  obtain ⟨a, b, c, d, l, v, w, e, -⟩ := State.enter_eq i new timer s
  rw [e]

theorem Deed.notSafe (h : Deed R T s t) (hp : s.present j = true) (hs : s.switchState j = .closed)
    (hn : s.fli.arraySafe = false) : t.fli.arraySafe = false := by
  have same (e : t.fli = s.fli) : t.fli.arraySafe = false := e ▸ hn
  cases h with
  | enter _ timer => exact same (State.enter_fli _ _ timer s)
  | startRamp => exact same (State.enter_fli ..)
  | emit k i a b =>
    obtain ⟨g, e⟩ := State.emit_eq k i a b s
    exact same (by rw [e])
  | takeReports =>
    unfold State.takeReports
    split
    · have off := State.notSafe_of_closed (s := s.modReports fun _ => false) hp hs
      obtain ⟨c, p, e⟩ := (s.modReports fun _ => false).workArraySafe.checkCapture_eq
      rw [e, State.workArraySafe_same (off.trans hn.symm)]
      exact hn
    · exact hn
  | @takeSwitch i =>
    refine same ?_
    simp only [State.takeHold, HoldKind.stored, State.reportRemoval, if_true]
    split <;> rfl
  | @putHold i _ x =>
    obtain ⟨a, q, y, e⟩ := State.putHold_eq x i s
    exact same (by rw [e])
  | setRetestMark i b => exact hn
  | _ => exact same rfl

/-- ARRAY SAFE does not come true while a present string stays CLOSED. -/
theorem Deeds.notSafe (h : Deeds R T s t) (hT : ¬T j) (hp : s.present j = true) (hs : s.switchState j = .closed)
    (hl : j ∉ s.sseq.rampList) (hn : s.fli.arraySafe = false) : t.fli.arraySafe = false := by
  refine h.keeps (P := fun v => Deeds R T s v ∧ v.fli.arraySafe = false) (fun {v w} d k => ⟨k.1.deed d, ?_⟩)
    ⟨Deeds.refl s, hn⟩ |>.2
  obtain ⟨sw, -⟩ := k.1.strings_closed hT hs fun _ => hl
  refine d.notSafe (j := j) ?_ ((congrArg Switch.state sw).trans hs) k.2
  rw [← hp, State.present, State.present, State.strSet, State.strSet, k.1.still.settings]

/-! ### What work adds to the rings, grants and ARRAY SAFE counted apart -/

/-- A change of ARRAY SAFE to false, still to come. -/
def State.safeDebt (s : State) : Nat := if s.fli.arraySafe then 1 else 0

theorem State.safeDebt_le (s : State) : s.safeDebt ≤ 1 := by
  unfold State.safeDebt
  split <;> decide

/-- Work adds at most `n` records to a ring, beside two for each pulse that it starts, a CONNECTED_SET where one may be
issued, and an ARRAY SAFE where that comes false. -/
def Pays (n : Nat) (s t : State) : Prop :=
  ∃ g, t.sseq.pulses.length = s.sseq.pulses.length + g ∧ (g = 0 ∨ t.sseq.pulses.length ≤ pulseLimit) ∧
    ∃ m, m + t.setAllowance + t.safeDebt ≤ n + 2 * g + s.setAllowance + s.safeDebt ∧
      ∀ e k, k + m ≤ ringSize → Lately s e k → Lately t e (k + m)

theorem Pays.trans (h : Pays n s t) (k : Pays l t u) : Pays (n + l) s u := by
  obtain ⟨g, p, q, m, hm, hl⟩ := h
  obtain ⟨g', p', q', m', hm', hl'⟩ := k
  refine ⟨g + g', by omega, by omega, m + m', by omega, fun e k hk x => ?_⟩
  rw [← Nat.add_assoc]
  exact hl' e (k + m) (by omega) (hl e k (by omega) x)

theorem Pays.mono (h : Pays n s t) (hl : n ≤ l) : Pays l s t := by
  obtain ⟨g, p, q, m, hm, k⟩ := h
  exact ⟨g, p, q, m, by omega, k⟩

/-- Work that starts no pulse and does not touch ARRAY SAFE. -/
theorem Pays.of_spends (h : Spends n s t) (hp : t.sseq.pulses = s.sseq.pulses) (hf : t.fli = s.fli) : Pays n s t := by
  obtain ⟨m, hm, k⟩ := h
  have debt : t.safeDebt = s.safeDebt := by rw [State.safeDebt, State.safeDebt, hf]
  exact ⟨0, by rw [hp]; rfl, .inl rfl, m, by omega, k⟩

theorem Pays.refl (s : State) : Pays 0 s s := .of_spends (Spends.refl s) rfl rfl

theorem Pays.quiet (hv : t.evr = s.evr) (hs : t.settings = s.settings) (hn : t.now = s.now)
    (hp : t.sseq.pulses = s.sseq.pulses) (hf : t.fli = s.fli) : Pays 0 s t :=
  .of_spends ((Spends.refl s).quiet hv hs hn) hp hf

theorem Pays.emitAt (time : Uptime) (k : EventKind) (y : Option StringId) (a b : Int) (s : State) :
    Pays 1 s (s.emitAt time k y a b) := by
  obtain ⟨g, e⟩ := State.emitAt_eq time k y a b s
  exact .of_spends ((Spends.refl s).route _) (by rw [e]) (by rw [e])

theorem Pays.enter (i : StringId) (new : SwitchState) (timer : Option Nat) (s : State) :
    Pays 0 s (s.enter i new timer) :=
   .of_spends ((Spends.refl s).enter i new timer) (by rw [State.enter_sseq]; rfl) (State.enter_fli ..)

/-- A record that stands in a ring stands there after such work, pushed back by no more than it adds. -/
theorem Pays.late {e : EventRecord} {k : Nat} (h : Pays n s t) (hl : Lately s e k) (hk : k + n + 6 ≤ ringSize) :
    Lately t e (k + n + 6) := by
  obtain ⟨g, p, q, m, hm, late⟩ := h
  have allowance := s.setAllowance_le
  have debt := s.safeDebt_le
  have pulses : g ≤ 2 := by simp only [pulseLimit] at q; omega
  exact (late e k (by omega) hl).mono (by omega)

/-- The arbiter's grants. Without a CLOSED string that stays so, ARRAY SAFE may have come true. -/
theorem Pays.arbiter (hn : n = 1 ∨ (s.fli.arraySafe = false → s.arbiter.fli.arraySafe = false)) : Pays n s s.arbiter := by
  obtain ⟨g, p, q, m, hm, k⟩ := (Moves.arbiter s).pays
  refine ⟨g, p, q, m, ?_, k⟩
  have debt := s.arbiter.safeDebt_le
  rcases hn with rfl | hn
  · omega
  · have le : s.arbiter.safeDebt ≤ s.safeDebt := by
      unfold State.safeDebt
      cases h : s.fli.arraySafe
      · rw [hn h]
      · rw [if_pos rfl]
        exact debt
    omega

theorem Pays.takeReports (s : State) : Pays 2 s s.takeReports := by
  obtain ⟨m, hm, k⟩ := (Spends.refl s).takeReports
  have debt := s.takeReports.safeDebt_le
  exact ⟨0, by rw [State.takeReports_sseq]; rfl, .inl rfl, m, by omega, k⟩

/-- Reports taken up while a present string is CLOSED. -/
theorem Pays.takeReports_closed (hp : s.present j = true) (hs : s.switchState j = .closed) : Pays 0 s s.takeReports := by
  unfold State.takeReports
  split
  · have off := State.notSafe_of_closed (s := s.modReports fun _ => false) hp hs
    have first : Pays 0 s (s.modReports fun _ => false) := .quiet rfl rfl rfl rfl rfl
    generalize s.modReports (fun _ => false) = v at off first
    have last : Pays 0 v.workArraySafe v.workArraySafe.checkCapture := by
      obtain ⟨c, p, e⟩ := v.workArraySafe.checkCapture_eq
      rw [e]
      exact .quiet rfl rfl rfl rfl rfl
    refine (first.trans (l := 0) ?_).trans (n := 0) last
    unfold State.workArraySafe
    rw [off]
    simp only []
    split
    · exact Pays.refl v
    · next hn =>
      have debt : v.safeDebt = 1 := if_pos (by simpa using hn)
      have quiet : Spends 0 v (v.modFli fun f => { f with arraySafe := false }) := (Spends.refl v).quiet rfl rfl rfl
      obtain ⟨m, hm, k⟩ := quiet.emit .arraySafe none (if false = true then 1 else 0) v.notIsolated.length
      obtain ⟨g, e⟩ := State.emit_eq .arraySafe none (if false = true then 1 else 0) v.notIsolated.length
        (v.modFli fun f => { f with arraySafe := false })
      refine ⟨0, by rw [e]; rfl, .inl rfl, m, ?_, k⟩
      rw [debt, show State.safeDebt _ = 0 by rw [e]; rfl]
      omega
  · exact Pays.refl s

/-! ### A string's trips -/

theorem Pays.joinQueue (i : StringId) (m : Mark) (s : State) : Pays 0 s (s.joinQueue i m) := by
  unfold State.joinQueue
  split
  · exact .refl s
  · exact .quiet rfl rfl rfl rfl rfl

/-- An interruption adds a CONNECTED_SET at most. -/
theorem Pays.interruptQ (i : StringId) (s : State) : Pays 0 s (s.interruptQ i) := by
  have off : Pays 0 s (s.interrupts i) :=
    Pays.trans (n := 0) (l := 0) (t := s.drive i .off) (.quiet rfl rfl rfl rfl rfl) (.enter ..)
  rw [State.interruptQ_eq]
  split
  · next hb =>
    refine Pays.trans (n := 0) (l := 0) off ?_
    have low : (((s.interrupts i).enter i .pendingOpen none).joinQueue i .toOpen).below i = true := by
      rw [State.below_of_beyond (State.joinQueue_beyond ..), State.below_of_beyond (State.enter_beyond ..),
        State.interrupts, State.below_of_beyond (State.enter_beyond ..)]
      exact hb
    have run : (s.interrupts i).pendingOpenQ i = ((s.interrupts i).enter i .pendingOpen none).joinQueue i .toOpen :=
      if_pos low
    rw [run]
    exact Pays.trans (n := 0) (l := 0) (.enter i .pendingOpen none _) (.joinQueue ..)
  · exact off

/-- A hold that turns a CLOSED string off, and one that does while another string stays CLOSED. -/
theorem Pays.holds (hx : x.kind ≠ .switch) (h : Trippable i s) : Pays 3 s (s.holds x i) ∧
    ∀ j, j ≠ i → Trippable j s → Pays 0 s (s.holds x i) := by
  rw [State.holds_closed hx h.state h.target]
  have d : Deeds True (· = i) s ((s.putHold x i).interruptQ i) := by
    refine ((Deeds.refl s).deed (.putHold (T := (· = i)) rfl x hx)).interruptQ (.inr ?_) rfl
    obtain ⟨q, c, y, e⟩ := State.putHold_eq x i s
    rw [e]
    exact h.state
  have first : Pays 0 s ((s.putHold x i).interruptQ i) := by
    refine Pays.trans (n := 0) (l := 0) ?_ (.interruptQ ..)
    obtain ⟨q, c, y, e⟩ := State.putHold_eq x i s
    rw [e]
    exact .quiet rfl rfl rfl rfl rfl
  generalize (s.putHold x i).interruptQ i = v at d first
  refine ⟨(first.trans (.arbiter (.inl rfl))).trans (.takeReports _), fun j hj hk => ?_⟩
  have other := hk.trips (.of_deeds d) hj
  have k : Deeds True (· = i) v v.arbiter := (Deeds.refl v).arbiter fun n => absurd trivial n
  have still := other.trips (.of_deeds k) hj
  refine (first.trans (.arbiter (n := 0) (.inr fun hn => ?_))).trans
    (.takeReports_closed (State.present_of_target still.target) still.state)
  exact k.notSafe hj (State.present_of_target other.target) other.state other.unlisted hn

theorem Pays.modEval (i : StringId) (f : EvalString → EvalString) (s : State) : Pays 0 s (s.modEval i f) :=
  .quiet rfl rfl rfl rfl rfl

/-- A REVERSE trip's event, beside what its hold adds. -/
theorem Pays.tripReverse (k : Nat) (h : Pays n s (s.holds .reverse i)) : Pays (n + 1) s (s.tripReverse r k i) :=
  (h.trans (.modEval i _ _)).trans (.emitAt ..)

theorem Pays.takeUpOvercurrent (i : StringId) (current : Int) (time : Uptime) (s : State) :
    Pays 1 s (s.takeUpOvercurrent i current time) := by
  unfold State.takeUpOvercurrent
  have timers (f : RecloseTimers → RecloseTimers) : Pays 0 s (s.modRcl i f) := .quiet rfl rfl rfl rfl rfl
  have record (f : StringRecord → StringRecord) (v : State) : Pays 0 v (v.modString i f) := .quiet rfl rfl rfl rfl rfl
  exact ((timers _).trans (record _ _)).trans (.emitAt ..)

/-- An OVERCURRENT trip's event, beside what its hold adds. -/
theorem Pays.tripOver (hp : s.present i = true) (hn : s.has .overcurrent i = false)
    (h : Pays n s (s.holds .overcurrent i)) : Pays (n + 1) s (s.tripOver r i) := by
  rw [State.tripOver, State.addOvercurrent, if_pos ⟨hp, hn⟩]
  exact (h.trans (.takeUpOvercurrent ..)).trans (.modEval i _ _)

/-- A string trips one way only. -/
def State.OneWay (s : State) (r : ScanRecord) : Prop := ∀ i, s.tripsReverse r i = true → s.tripsOver r i = false

/-- What the trip of a string adds to the rings, alone and while another string stays CLOSED, and its event. -/
structure TripNoted (s : State) (r : ScanRecord) (i : StringId) (t u : State) : Prop where
  alone : Pays 4 t u
  beside : ∀ j, j ≠ i → Trippable j t → Pays 1 t u
  reverse : s.tripsReverse r i = true →
    Lately u (eventAt r.completion .reverseTrip (some i) (r.sample i).current (s.reverseCount r i)) 1
  high : s.tripsOver r i = true → Lately u (t.overEvent r i) 1

theorem State.tripEach_noted (one : s.OneWay r) (hi : s.trips r i = true) (h : Trippable i t) :
    TripNoted s r i t (s.tripEach r i t) := by
  unfold State.tripEach
  by_cases hr : s.tripsReverse r i = true
  · have ho := one i hr
    obtain ⟨p, q⟩ := Pays.holds (x := .reverse) (by decide) h
    obtain ⟨-, -, -, -, event⟩ :=
      State.tripReverse_leaves (r := r) h.mayTrip h.state h.target (s.reverseCount r i)
    rw [if_pos hr, ho, if_neg (by decide)]
    exact ⟨p.tripReverse _, fun j hj k => (q j hj k).tripReverse _, fun _ => event,
      fun e => absurd (ho.symm.trans e) (by decide)⟩
  · have ho : s.tripsOver r i = true := (Bool.or_eq_true_iff.1 hi).resolve_left hr
    obtain ⟨p, q⟩ := Pays.holds (x := .overcurrent) (by decide) h
    have none := State.has_of_target h.target .overcurrent
    have event := (State.tripOver_leaves (r := r) h.mayTrip (fun _ => h.target) none).event
    rw [if_neg hr, if_pos ho]
    exact ⟨p.tripOver h.mayTrip.present none, fun j hj k => (q j hj k).tripOver h.mayTrip.present none,
      fun e => absurd e hr, fun _ => event⟩

/-! ### All strings -/

/-- The trips of a list add one record each, and three at the last. -/
theorem Pays.tripList (one : s.OneWay r) (xs : List StringId) (hd : xs.Nodup)
    (h : ∀ j ∈ xs, s.trips r j = true → Trippable j t) :
    Pays (if xs.filter (s.trips r) = [] then 0 else (xs.filter (s.trips r)).length + 3) t
      (forStrings (s.tripEach r) xs t) := by
  induction xs generalizing t with
  | nil => exact .refl t
  | cons x xs ih =>
    obtain ⟨hx, hd⟩ := List.nodup_cons.1 hd
    have later : ∀ j ∈ xs, s.trips r j = true → Trippable j (s.tripEach r x t) := fun j m k =>
      (h j (List.mem_cons_of_mem _ m) k).trips (Trips.tripEach s r x t) fun e => hx (e.1 ▸ m)
    have rest := ih hd later
    change Pays _ t (forStrings (s.tripEach r) xs (s.tripEach r x t))
    by_cases hi : s.trips r x = true
    · have own := State.tripEach_noted one hi (h x List.mem_cons_self hi)
      rw [List.filter_cons_of_pos hi, if_neg (List.cons_ne_nil _ _), List.length_cons]
      split at rest
      · next hn =>
        rw [hn]
        exact (own.alone.trans rest)
      · next hn =>
        obtain ⟨j, m⟩ := List.exists_mem_of_ne_nil _ hn
        obtain ⟨m, k⟩ := List.mem_filter.1 m
        have first := own.beside j (fun e => hx (e ▸ m)) (h j (List.mem_cons_of_mem _ m) k)
        exact (first.trans rest).mono (by omega)
    · have hi := Bool.eq_false_iff.2 hi
      rw [State.tripEach_none hi] at rest ⊢
      rw [List.filter_cons_of_neg (by simp [hi])]
      exact rest

theorem Pays.tripList_le (one : s.OneWay r) (xs : List StringId) (hd : xs.Nodup)
    (h : ∀ j ∈ xs, s.trips r j = true → Trippable j t) :
    Pays ((xs.filter (s.trips r)).length + 3) t (forStrings (s.tripEach r) xs t) := by
  refine (Pays.tripList one xs hd h).mono ?_
  split <;> omega

/-- The event of a trip stands in the rings after all trips. -/
theorem State.tripAll_noted (one : s.OneWay r) (hi : s.trips r i = true)
    (h : ∀ j, s.trips r j = true → Trippable j t) :
    (s.tripsReverse r i = true → Lately (forStrings (s.tripEach r) allStrings t)
      (eventAt r.completion .reverseTrip (some i) (r.sample i).current (s.reverseCount r i)) 30) ∧
    (s.tripsOver r i = true → Lately (forStrings (s.tripEach r) allStrings t) (t.overEvent r i) 30) := by
  obtain ⟨xs, ys, e, before, after⟩ := allStrings_split i
  have nodup : (xs ++ i :: ys).Nodup := e ▸ (by decide : allStrings.Nodup)
  have short : ys.length ≤ 15 := by
    have := congrArg List.length e
    simp only [List.length_append, List.length_cons] at this
    change 16 = _ at this
    omega
  rw [e, forStrings_append]
  have k := Trips.tripList s r xs t
  have hb (j : StringId) (hj : j ∉ xs) : ¬(j ∈ xs ∧ s.trips r j = true) := fun x => hj x.1
  obtain ⟨-, -, -, timers⟩ := k.closed i (hb i before) (h i hi).state (h i hi).unlisted
  have record : _ = t.str i := Retested.of_false ((h i hi).retest ▸ k.records (h i hi).search i (hb i before))
  have ready (j : StringId) (hj : j ∉ xs) (x : s.trips r j = true) := (h j x).trips k (hb j hj)
  generalize forStrings (s.tripEach r) xs t = a at k timers record ready
  have own := State.tripEach_noted one hi (ready i before hi)
  have rest := Pays.tripList_le (t := s.tripEach r i a) one ys (List.nodup_cons.1 (List.nodup_append.1 nodup).2.1).2
    fun j m x => (ready j (fun m' => (List.nodup_append.1 nodup).2.2 j m' j (List.mem_cons_of_mem _ m) rfl) x).trips
      (Trips.tripEach s r i a) fun y => after (y.1 ▸ m)
  have few : (ys.filter (s.trips r)).length ≤ 15 := (List.length_filter_le _ _).trans short
  have stands {f : EventRecord} (hf : Lately (s.tripEach r i a) f 1) :
      Lately (forStrings (s.tripEach r) ys (s.tripEach r i a)) f 30 :=
    (rest.late hf (by simp only [ringSize]; omega)).mono (by omega)
  obtain ⟨attempt, auto, -⟩ := State.reclose_congr record timers k.settings k.now
  refine ⟨fun x => stands (own.reverse x), fun x => ?_⟩
  have event := own.high x
  rw [State.overEvent, attempt, auto] at event
  exact stands event

end Sys2Proof.Machine
end

section
/-! SUPPORT. The String Evaluator's work on a completion, as judgements, trips and marks one after the other. -/

namespace Sys2Proof.Machine

variable {s t u : State} {i j : StringId} {r : ScanRecord}

/-! ### The parts of the work -/

/-- The groups' references and counts formed (R24, R25). -/
def State.withGroups (r : ScanRecord) (s : State) : State :=
  s.modSeval fun e => { e with groups := #v[s.groupAt r 0, s.groupAt r 1, s.groupAt r 2, s.groupAt r 3] }

/-- Every string judged (R27 to R30, R33, R35). -/
def State.judged (r : ScanRecord) (s : State) : State := forStrings (State.judge r) allStrings (s.withGroups r)

/-- Every string's trips done (R34, R35). -/
def State.tripped (r : ScanRecord) (s : State) : State := forStrings (s.tripEach r) allStrings (s.judged r)

theorem State.judged_judges (r : ScanRecord) (s : State) : Judges (s.withGroups r) (s.judged r) :=
  (State.judgeAll_others r allStrings (s.withGroups r)).1

theorem State.evaluate_eq (r : ScanRecord) (s : State) :
    s.evaluate r = (s.tripped r).renewMarks s.switchState := by
  have evaluated (i : StringId) : (s.judged r).evaluated r i = s.evaluated r i := by
    rw [State.evaluated, State.present, State.strSet, (s.judged_judges r).reads.1]
    rfl
  have dwells (i : StringId) : ((s.judged r).eval i).reverseDwell = s.reverseCount r i ∧
      ((s.judged r).eval i).overDwell = s.overCountAt r i := by
    obtain ⟨n, -, h⟩ := State.judgeAll_judged r i (s.withGroups r)
    exact h.dwells
  have trips := State.trips_eq (v := s.judged r) (t := s.judged r) evaluated dwells allStrings (s.judged_judges r).reads.1
  exact congrArg (State.renewMarks s.switchState) trips

/-! ### Marks (R22, R23) -/

theorem State.eval_forModEval (f : StringId → EvalString → EvalString) (xs : List StringId) (hd : xs.Nodup) (s : State) :
    (forStrings (fun i t => t.modEval i (f i)) xs s).eval j = if j ∈ xs then f j (s.eval j) else s.eval j := by
  induction xs generalizing s with
  | nil => rfl
  | cons x xs ih =>
    obtain ⟨hx, hd⟩ := List.nodup_cons.1 hd
    refine (ih hd (s.modEval x (f x))).trans ?_
    by_cases hj : j = x
    · subst hj
      rw [if_neg hx, if_pos List.mem_cons_self, State.eval_modEval_same]
    · rw [State.eval_modEval_ne _ _ hj]
      simp only [List.mem_cons, hj, false_or]

theorem State.renewMarks_eval (states : StringId → SwitchState) (s : State) (i : StringId) :
    (s.renewMarks states).eval i =
      { (s.eval i) with mark := decide (states i = .closed) && decide (s.switchState i = .closed) } :=
  (State.eval_forModEval (fun i e => { e with
    mark := decide (states i = .closed) && decide (s.switchState i = .closed) }) allStrings (by decide) s).trans
    (if_pos (List.contains_iff_mem.1 (mem_allStrings i)))

/-- The marks renewed leave all but the evaluator's part of the strings. -/
theorem State.renewMarks_eq (states : StringId → SwitchState) (s : State) :
    ∃ v, s.renewMarks states = { s with seval := { s.seval with strings := v } } := by
  have all (xs : List StringId) (f : StringId → EvalString → EvalString) (s : State) : ∃ v,
      forStrings (fun i t => t.modEval i (f i)) xs s = { s with seval := { s.seval with strings := v } } := by
    induction xs generalizing s with
    | nil => exact ⟨_, rfl⟩
    | cons x xs ih => exact ih (s.modEval x (f x))
  exact all allStrings _ s

/-! ### The state that the work leaves -/

theorem State.finish_books (h : s.gsu.state = .idle) : s.finish.seval = s.seval ∧ s.finish.rcl = s.rcl := by
  obtain ⟨a, g, c, p, e⟩ := s.takeReports_eq
  obtain ⟨w, k⟩ := State.beginWrite_eq (s.takeReports.modGsu fun g => { g with left := [] })
  rw [s.finish_idle h, k, e]
  exact ⟨rfl, rfl⟩

/-- What the work on a completion leaves, its reports taken up. -/
structure Evaluated (s : State) (r : ScanRecord) (t : State) : Prop where
  state : ∀ i, t.switchState i = (s.tripped r).switchState i
  record : ∀ i, t.str i = (s.tripped r).str i
  timers : t.rcl = (s.tripped r).rcl
  groups : t.seval.groups = (s.tripped r).seval.groups
  eval : ∀ i, t.eval i = { ((s.tripped r).eval i) with
    mark := decide (s.switchState i = .closed) && decide ((s.tripped r).switchState i = .closed) }
  noted : ∀ e k, Lately (s.tripped r) e k → k ≤ 30 → Noted t e
  beyond : t.beyondTrips = s.beyondTrips

theorem State.tripped_trips (r : ScanRecord) (s : State) :
    Trips (fun j => j ∈ allStrings ∧ s.trips r j = true) (s.judged r) (s.tripped r) :=
  Trips.tripList s r allStrings _

theorem State.judged_beyond (r : ScanRecord) (s : State) : (s.judged r).beyondTrips = s.beyondTrips := by
  obtain ⟨v, g, e⟩ := s.judged_judges r
  rw [e]
  rfl

theorem State.evaluated_evaluate (hc : s.calm) (r : ScanRecord) : Evaluated s r (s.evaluate r).finish := by
  have idle : (s.tripped r).gsu.state = .idle := by
    rw [(s.tripped_trips r).search, (s.judged_judges r).reads.2.2.2.2.2.1]
    exact hc.1
  have marks := State.renewMarks_eval s.switchState (s.tripped r)
  have beyond := (s.tripped_trips r).beyond.trans (s.judged_beyond r)
  obtain ⟨v, e⟩ := State.renewMarks_eq s.switchState (s.tripped r)
  rw [State.evaluate_eq]
  have same : ((s.tripped r).renewMarks s.switchState).gsu.state = .idle := by
    rw [e]
    exact idle
  obtain ⟨sseq, stab⟩ := State.finish_stands same
  obtain ⟨seval, rcl⟩ := State.finish_books same
  have stands := State.beyondTrips_of_beyond (State.finish_beyond same)
  refine ⟨fun i => ?_, fun i => ?_, ?_, ?_, fun i => ?_, fun f k h hk => ?_, ?_⟩
  · rw [State.switchState, State.sw, sseq, e]
    rfl
  · rw [State.str, stab, e]
    rfl
  · rw [rcl, e]
  · rw [seval, e]
  · rw [State.eval, seval]
    exact marks i
  · refine Lately.finish ((h.congr (t := (s.tripped r).renewMarks s.switchState) ?_ ?_)) same (by simp only [ringSize]; omega)
    · rw [e]
    · rw [e]
  · rw [stands, e]
    exact beyond

/-! ### What it leaves of each string -/

theorem State.judged_of (r : ScanRecord) (i : StringId) (s : State) :
    ∃ n, n ≤ 17 ∧ Judged n r i (s.withGroups r) (s.judged r) := State.judgeAll_judged r i (s.withGroups r)

theorem State.judged_trippable (hc : s.calm) (hf : s.closesOnlyFree) (hs : s.switchState i = .closed) :
    Trippable i (s.judged r) := by
  obtain ⟨hset, hq, hb, -, -, hg, -⟩ := (s.judged_judges r).reads
  exact (Trippable.of_closed hc hf hs).of_same hq hb hset hg

theorem State.trippable_of_trips (hc : s.calm) (hf : s.closesOnlyFree) (h : s.trips r i = true) :
    Trippable i (s.judged r) := State.judged_trippable hc hf (State.closed_of_counted (State.counted_of_trips h))

/-- The trips leave each string's judgement. -/
theorem State.tripped_judgement (hc : s.calm) (hf : s.closesOnlyFree) (r : ScanRecord) (i : StringId) :
    ((s.tripped r).eval i).judgement = ((s.judged r).eval i).judgement := by
  by_cases h : s.trips r i = true
  · exact (State.tripAll_own h (State.trippable_of_trips hc hf h)).judgement
  · obtain ⟨-, e, -⟩ := State.tripAll_other hf (s.judged_judges r).reads.2.1 (Bool.eq_false_iff.2 h)
    exact congrArg EvalString.judgement e

end Sys2Proof.Machine
end

section
/-! SUPPORT. The statement on the String Evaluator's work at a completion. -/

namespace Sys2Proof.Machine

variable {s t u : State} {i j : StringId} {r : ScanRecord}

/-! ### Groups (R24, R25) -/

theorem vector_of_groups (f : Fin 4 → EvalGroup) (g : Fin 4) : (#v[f 0, f 1, f 2, f 3] : Vector EvalGroup 4)[g] = f g := by
  match g with
  | 0 => rfl
  | 1 => rfl
  | 2 => rfl
  | 3 => rfl

theorem Evaluated.formed (h : Evaluated s r t) : t.seval.groups = (s.withGroups r).seval.groups :=
  h.groups.trans ((s.tripped_trips r).groups.trans (s.judged_judges r).reads.2.2.2.1)

theorem Evaluated.group (h : Evaluated s r t) (g : Fin 4) : t.seval.groups[g] = s.groupAt r g := by
  rw [h.formed]
  exact vector_of_groups (s.groupAt r) g

/-- A group's reference and count at a completion. -/
theorem State.groupAt_stands (s : State) (r : ScanRecord) (g : Fin 4) :
    if r.daylight = .night then s.groupAt r g = { reference := none, count := 0 }
    else (s.groupAt r g).count = (s.eligibleOf r g).length ∧
      (s.groupAt r g).reference = referenceOf (s.cfgNat .iFloor) (sortAscending (s.eligibleOf r g)) ∧
      ∀ m ∈ (s.groupAt r g).reference, 3 ≤ (s.eligibleOf r g).length ∧ s.cfgNat .iFloor ≤ m ∧
        (∃ x ∈ s.eligibleOf r g, x ≤ m) ∧ ∃ y ∈ s.eligibleOf r g, m ≤ y := by
  unfold State.groupAt
  cases r.daylight with
  | night => exact rfl
  | day =>
    rw [if_neg (by decide)]
    simp only []
    rw [State.eligibleCurrents_eq]
    exact ⟨(sortAscending_perm _).length_eq, rfl, fun m hm => referenceOf_mem hm⟩

/-! ### Deficits (R27) -/

theorem State.deficitAt_eq (s : State) (r : ScanRecord) (i : StringId) : s.deficitAt r i =
    if r.daylight = .day ∧ s.counted r i = true ∧ (r.sample i).clipped = false then
      match (s.strSet i).group.slot with
      | none => none
      | some g => (s.seval.groups[g]).reference.map fun ref =>
          (max 0 (min 1000 (Int.tdiv (((ref : Int) - (r.sample i).current) * 1000) ref))).toNat
    else none := by
  have integers (x : Option Nat) (f : Int → Nat) :
      Option.map (fun n : Nat => f n) x = Option.map f (do let n ← x; pure (n : Int)) := by
    cases x <;> rfl
  unfold State.deficitAt
  refine if_congr ?_ ?_ rfl
  swap
  · cases (s.strSet i).group.slot with
    | none => rfl
    | some g => exact integers _ fun ref => (max 0 (min 1000 (Int.tdiv ((ref - (r.sample i).current) * 1000) ref))).toNat
  rw [State.counted_eq, Bool.and_eq_true]
  exact ⟨fun ⟨a, b, c, d⟩ => ⟨b, ⟨a, c⟩, d⟩, fun ⟨b, ⟨a, c⟩, d⟩ => ⟨a, b, c, d⟩⟩

/-! ### Judgements (R27 to R30) -/

theorem of_pos_ite {c : Prop} [Decidable c] {n : Nat} (h : 0 < if c then n else 0) : c := by
  by_contra hn
  rw [if_neg hn] at h
  cases h

/-- A string trips one way only where I_over is above 0 (R33, R35). -/
theorem State.oneWay (h : 0 < s.cfg .iOver) : s.OneWay r := by
  intro i hr
  have pos : (0 : Int) < s.cfgNat .iOver := by
    unfold State.cfgNat
    omega
  obtain ⟨he, hp, -⟩ := State.tripsReverse_iff.1 hr
  have he : ((r.entries[i]).isSome && s.present i) = true := he
  refine Bool.eq_false_iff.2 fun ho => ?_
  obtain ⟨-, hq, -⟩ := State.tripsOver_iff.1 ho
  rw [State.reverseCount, if_pos he] at hp
  rw [State.overCountAt, if_pos he] at hq
  obtain ⟨-, low⟩ := of_pos_ite hp
  obtain ⟨-, high⟩ := of_pos_ite hq
  have up : 0 < (r.sample i).current := by
    rcases high with b | ⟨-, b⟩
    · exact lt_of_lt_of_le pos b
    · exact b
  rcases low with a | ⟨-, a⟩ <;> omega

/-- An event of a judgement stands in the rings after four trips at most. -/
theorem Evaluated.judged_noted (h : Evaluated s r t) (hc : s.calm) (hf : s.closesOnlyFree) (hp : 0 < s.cfg .iOver)
    (hn : (allStrings.filter (s.trips r)).length ≤ 4) {e : EventRecord} {n : Nat} (hl : Lately (s.judged r) e n)
    (hm : n ≤ 17) : Noted t e := by
  have pays := Pays.tripList_le (s := s) (t := s.judged r) (r := r) (State.oneWay hp) allStrings (by decide)
    fun j _ k => State.trippable_of_trips hc hf k
  exact h.noted e _ (pays.late hl (by simp only [ringSize]; omega)) (by omega)

/-- The fields of the evaluator's part of a string that its judgement gives, at the end. -/
theorem Evaluated.judgement (h : Evaluated s r t) (hc : s.calm) (hf : s.closesOnlyFree) (i : StringId) :
    (t.eval i).lastDeficit = ((s.judged r).eval i).lastDeficit ∧
    (t.eval i).suspicion = ((s.judged r).eval i).suspicion ∧ (t.eval i).suspect = ((s.judged r).eval i).suspect := by
  have k := State.tripped_judgement hc hf r i
  rw [h.eval i]
  exact ⟨congrArg Prod.fst k, congrArg (fun x => x.2.1) k, congrArg (fun x => x.2.2) k⟩

/-- The deficit, counter and flag of a string at the end, and the event of a changed flag. -/
theorem Evaluated.suspicion (h : Evaluated s r t) (hc : s.calm) (hf : s.closesOnlyFree) (i : StringId) :
    (t.eval i).lastDeficit = (s.withGroups r).deficitAt r i ∧
    ((t.eval i).lastDeficit = none →
      (t.eval i).suspicion = (s.eval i).suspicion ∧ (t.eval i).suspect = (s.eval i).suspect) ∧
    ∀ d ∈ (t.eval i).lastDeficit,
      (t.eval i).suspicion = suspicionAfter (s.eval i).suspicion d (s.cfgNat .tD) (s.cfgNat .stepUp) ∧
      (t.eval i).suspect = flagAfter (s.eval i).suspect (s.cfgNat .sSuspect) (t.eval i).suspicion ∧
      (0 < s.cfg .iOver → (allStrings.filter (s.trips r)).length ≤ 4 →
        ((s.eval i).suspect = false → (t.eval i).suspect = true →
          Noted t (eventAt r.completion .suspectSet (some i) (t.eval i).suspicion d)) ∧
        ((s.eval i).suspect = true → (t.eval i).suspect = false →
          Noted t (eventAt r.completion .suspectCleared (some i) (t.eval i).suspicion 0))) := by
  obtain ⟨n, hn, j⟩ := s.judged_of r i
  obtain ⟨e1, e2, e3⟩ := h.judgement hc hf i
  rw [e1, e2, e3, j.deficit]
  refine ⟨rfl, j.none_, fun d hd => ?_⟩
  obtain ⟨h1, h2, h3, h4⟩ := j.some_ d hd
  exact ⟨h1, h2, fun hp hm => ⟨fun a b => h.judged_noted hc hf hp hm (h3 a b) hn,
    fun a b => h.judged_noted hc hf hp hm (h4 a b) hn⟩⟩

/-- The mark of a string at the end (R22). -/
theorem Evaluated.mark (h : Evaluated s r t) (hc : s.calm) (hf : s.closesOnlyFree) (i : StringId) :
    (t.eval i).mark = decide (s.switchState i = .closed ∧ t.switchState i = .closed) ∧
    (s.switchState i = .closed → ((t.eval i).mark = false ↔ s.trips r i = true)) := by
  have mark : (t.eval i).mark = decide (s.switchState i = .closed ∧ t.switchState i = .closed) := by
    rw [h.eval i, h.state i, Bool.decide_and]
  refine ⟨mark, fun hs => ?_⟩
  rw [mark, decide_eq_false_iff_not, h.state i]
  by_cases hi : s.trips r i = true
  · have off := (State.tripAll_own hi (State.trippable_of_trips hc hf hi)).state hi
    exact ⟨fun _ => hi, fun _ x => off x.2⟩
  · have same := (s.judged_judges r).reads.2.1
    obtain ⟨on, -⟩ := State.tripAll_other hf same (Bool.eq_false_iff.2 hi)
    have closed : (s.judged r).switchState i = .closed := (State.switchState_of_sseq same i).trans hs
    exact ⟨fun x => absurd ⟨hs, on closed⟩ x, fun x => absurd x hi⟩

/-! ### Trips (R34 to R36, R102) -/

/-- The judgements leave what a reclose reads (R102). -/
theorem State.judged_reclose (s : State) (r : ScanRecord) (i : StringId) :
    (s.judged r).str i = s.str i ∧ (s.judged r).rcl = s.rcl ∧ (s.judged r).underRetest i = s.underRetest i ∧
    (s.judged r).nextAttempt i = s.nextAttempt i ∧ (s.judged r).recloses i = s.recloses i ∧
    (s.judged r).recloseAfter i = s.recloseAfter i := by
  obtain ⟨hset, hq, hb, -, hn, -, hr, -⟩ := (s.judged_judges r).reads
  have record : (s.judged r).str i = s.str i := congrArg (fun b : Stab => b.strings[i]) hb
  have timers : (s.judged r).rcl = s.rcl := hr
  refine ⟨record, timers, ?_, State.reclose_congr record (by rw [timers]) hset hn⟩
  rw [State.underRetest, hq]
  rfl

/-- What the completion leaves of a string that trips. -/
theorem Evaluated.tripped (h : Evaluated s r t) (hc : s.calm) (hf : s.closesOnlyFree) (hi : s.trips r i = true) :
    (s.tripsReverse r i = true → t.has .reverse i = true ∧ (t.eval i).reverseDwell = 0 ∧
      (0 < s.cfg .iOver →
        Noted t (eventAt r.completion .reverseTrip (some i) (r.sample i).current (s.reverseCount r i)))) ∧
    (s.tripsOver r i = true → t.has .overcurrent i = true ∧ (t.eval i).overDwell = 0 ∧
      (t.str i).overcurrentCount = s.nextAttempt i ∧
      (t.str i).overcurrent = some { attempt := s.nextAttempt i, auto := s.recloses i } ∧
      (0 < s.cfg .iOver → Noted t (s.overEvent r i)) ∧ t.rcl[i] = s.recloseAfter i) ∧
    (s.tripsOver r i = false → (t.rcl[i]).reclose = (s.rcl[i]).reclose) := by
  have ready (j : StringId) (k : s.trips r j = true) := State.trippable_of_trips hc hf k
  have own := State.tripAll_own hi (ready i hi)
  obtain ⟨-, timers, -, attempt, auto, after⟩ := s.judged_reclose r i
  have event : (s.judged r).overEvent r i = s.overEvent r i := by rw [State.overEvent, attempt, auto]; rfl
  have noted (hp : 0 < s.cfg .iOver) := State.tripAll_noted (State.oneWay hp) hi ready
  have has (k : HoldKind) : t.has k i = (s.tripped r).has k i := by rw [State.has, h.record i]; rfl
  rw [has, has, h.eval i, h.record i, h.timers]
  refine ⟨fun x => ?_, fun x => ?_, fun x => (own.stands x).trans (by rw [timers])⟩
  · obtain ⟨h1, h2⟩ := own.reverse x
    exact ⟨h1, h2, fun hp => h.noted _ _ ((noted hp).1 x) le_rfl⟩
  · obtain ⟨h1, h2, h3, h4, h5⟩ := own.high x
    rw [attempt] at h3
    rw [attempt, auto] at h4
    exact ⟨h1, h2, h3, h4, fun hp => h.noted _ _ (event ▸ (noted hp).2 x) le_rfl, h5.trans after⟩

/-- What the completion leaves of a string that does not trip. -/
theorem Evaluated.untripped (h : Evaluated s r t) (hc : s.calm) (hf : s.closesOnlyFree) (hi : s.trips r i = false) :
    (t.eval i).reverseDwell = s.reverseCount r i ∧ (t.eval i).overDwell = s.overCountAt r i ∧
    Retested (s.underRetest i) (s.str i) (t.str i) ∧ (t.rcl[i]).reclose = (s.rcl[i]).reclose := by
  obtain ⟨-, hq, -, -, -, hg, -⟩ := (s.judged_judges r).reads
  obtain ⟨-, evals, timers, records⟩ := State.tripAll_other hf hq hi
  obtain ⟨record, rcl, retest, -⟩ := s.judged_reclose r i
  obtain ⟨n, -, j⟩ := s.judged_of r i
  have records := records (by rw [hg]; exact hc.1)
  have evals : (s.tripped r).eval i = (s.judged r).eval i := evals
  rw [record, retest] at records
  rw [h.eval i, h.record i, h.timers, evals]
  exact ⟨j.dwells.1, j.dwells.2, records, by rw [← rcl]; exact congrArg RecloseTimers.reclose timers⟩

/-! ### The statement -/

theorem exec_sevalScanTakeUp {rest : List ScanRecord} (hp : s.powered = true) (h : s.handed.seval = r :: rest) :
    exec .sevalScanTakeUp s =
      .next (((s.modHanded fun h => { h with seval := rest }).evaluate r).finish) := by
  change s.happens true State.sevalTakesUp = _
  rw [State.happens, hp]
  simp only [Bool.and_self, if_true, State.sevalTakesUp, h]

/-- Settles O43: the work on a completion is the judgement of every string, then the trips, which leave one another's
strings alone, then the marks; the records of the rings are counted over all of it. -/
theorem evaluatorJudgesEachScan : Obligations.EvaluatorJudgesEachScan := by
  intro s r rest hp hc hf hh
  refine ⟨_, exec_sevalScanTakeUp hp hh, ?_⟩
  have h : Evaluated (s.modHanded fun h => { h with seval := rest }) r
      ((s.modHanded fun h => { h with seval := rest }).evaluate r).finish :=
    State.evaluated_evaluate (s := s.modHanded fun h => { h with seval := rest }) hc r
  generalize ((s.modHanded fun h => { h with seval := rest }).evaluate r).finish = t at h ⊢
  have suspicion := fun i => h.suspicion hc hf i
  have trips (i : StringId) : s.trips r i = (s.tripsReverse r i || s.tripsOver r i) := rfl
  have beyond := State.beyond_of_beyondTrips h.beyond
  refine ⟨(congrArg State.handed beyond :), fun g => ?_, fun i => ⟨?_, ?_, fun d hd => ?_, ?_, fun _ hs => ?_⟩,
    fun i => ⟨fun x => ?_, fun x => ?_, fun x y => ?_, fun x => ?_⟩, ?_⟩
  · simp only []
    rw [h.group g]
    exact (s.modHanded fun h => { h with seval := rest }).groupAt_stands r g
  · obtain ⟨deficit, -⟩ := suspicion i
    rw [h.formed]
    exact deficit.trans (State.deficitAt_eq _ r i)
  · exact (suspicion i).2.1
  · obtain ⟨h1, h2, h3⟩ := (suspicion i).2.2 d hd
    refine ⟨h1.trans ?_, h2, h3⟩
    rw [suspicionAfter, Nat.min_comm]
    rfl
  · exact (h.mark hc hf i).1
  · exact ((h.mark hc hf i).2 hs).trans (by exact Bool.or_eq_true_iff)
  · have hi : s.trips r i = true := by rw [trips, x, Bool.true_or]
    exact (h.tripped hc hf hi).1 x
  · have hi : s.trips r i = true := by rw [trips, x, Bool.or_true]
    obtain ⟨h1, h2, h3, h4, h5, h6⟩ := (h.tripped hc hf hi).2.1 x
    exact ⟨h1, h2, fun _ => ⟨h3, h4, h5, h6⟩⟩
  · have hi : s.trips r i = false := by rw [trips, x, y, Bool.or_false]
    obtain ⟨h1, h2, h3, -⟩ := h.untripped hc hf hi
    exact ⟨h1, h2, h3⟩
  · by_cases hi : s.trips r i = true
    · exact (h.tripped hc hf hi).2.2 x
    · exact (h.untripped hc hf (Bool.eq_false_iff.2 hi)).2.2.2
  · exact (congrArg (fun v : State => { v with handed := s.handed }) beyond :)

end Sys2Proof.Machine
end

section
/-! SUPPORT. One walk through every command (chapters 1 to 10): a relation between states that each operation of the
blocks keeps is kept by every command. The statements of the String Table and of closing are instances. -/

namespace Sys2Proof.Machine

/-! ### What the statements are about -/

/-- What the statements on the String Table, its stored copies and closing speak of. -/
structure Heart where
  present : StringId → Bool
  stab : Stab
  accepted : LoopState
  copies : Copies HoldRecord
  writing : Option Write
  state : StringId → SwitchState
  drive : StringId → Drive
  rampList : List StringId
  tested : Option StringId
  search : SearchState × List StringId × List StringId × List StringId

def State.heart (s : State) : Heart :=
  { present := s.present, stab := s.stab, accepted := s.fli.accepted, copies := s.cfs.holdCopies
    writing := s.cfs.writing, state := s.switchState, drive := fun i => (s.sw i).drive
    rampList := s.sseq.rampList, tested := s.sseq.retest.map Retest.string
    search := (s.gsu.state, s.gsu.k, s.gsu.x, s.gsu.v) }

/-- The array conditions, less that of a kind. -/
def Conditions.without (k : HoldKind) (c : Conditions) : Conditions :=
  match k with
  | .fire => { c with fire := false }
  | .start => { c with start := false }
  | .store => { c with store := false }
  | .arc => { c with arc := false }
  | _ => c

/-- The kinds that the array conditions place (R47). -/
def conditionKinds : List HoldKind := [.fire, .start, .store, .arc]

/-- The kinds that lose their hold by a removal at any time. -/
def freeKinds : List HoldKind := [.sup, .inv, .reverse, .overcurrent, .ground, .thermal]

/-- The operations that the commands are made of, and a relation that each of them keeps. -/
structure Walk (I : State → State → Prop) : Prop where
  refl : ∀ s, I s s
  trans : ∀ {s t u}, I s t → I t u → I s u
  quiet : ∀ {s t : State}, t.heart = s.heart → I s t
  beginWrite : ∀ s : State, I s s.beginWrite
  finishWrite : ∀ (s : State) (w : Write), s.cfs.writing = some w → I s (s.modCfs fun c => c.finish w.image)
  addHold : ∀ (x : Hold) (i : StringId) (s : State), x.kind ≠ .switch → x.kind ≠ .overcurrent → I s (s.addHold x i)
  addOvercurrent : ∀ (i : StringId) (current : Int) (time : Uptime) (s : State), I s (s.addOvercurrent i current time)
  removeHold : ∀ (k : HoldKind) (i : StringId) (s : State), k ∈ freeKinds → I s (s.removeHold k i)
  setCount : ∀ (i : StringId) (n : Nat) (s : State), I s (s.modString i fun r => { r with overcurrentCount := n })
  arbiter : ∀ s : State, I s s.arbiter
  testAndJoinQ : ∀ (i : StringId) (s : State), I s (s.testAndJoinQ i)
  feedbackClosed : ∀ (i : StringId) (s : State), I s (s.feedbackClosed i)
  feedbackOpen : ∀ (i : StringId) (s : State), I s (s.feedbackOpen i)
  cross : ∀ (i : StringId) (s : State), I s (s.cross i)
  rampTest : ∀ s : State, I s s.rampTest
  rampEnds : ∀ (i : StringId) (s : State), s.switchState i = .ramping → I s (s.rampEnds i)
  enterCurtailWait : ∀ (i : StringId) (s : State), s.switchState i = .interrupting → I s (s.enterCurtailWait i)
  becomeFaulted : ∀ (i : StringId) (kind : FaultKind) (s : State),
    s.switchState i = .relayClosing ∨ s.switchState i = .relayOpening → I s (s.becomeFaulted i kind)
  startRetest : ∀ (i : StringId) (s : State), s.switchState i = .faulted →
    I s (((s.setRetestMark i true).retestStepQ i .firstOpen).arbiter)
  retestFails : ∀ (r : Retest) (kind : FaultKind) (s : State), s.sseq.retest = some r → I s (s.retestFails r.string kind)
  endRetest : ∀ (r : Retest) (s : State), s.sseq.retest = some r → I s (s.endRetest r.string)
  settle : ∀ s : State, I s s.settle
  abortSearch : ∀ s : State, I s s.abortSearch
  startSearch : ∀ (cause : Nat) (s : State), I s (s.startSearch cause)
  searchMeasured : ∀ (reading : Nat) (s : State), I s (s.searchMeasured reading)
  stepTimerExpires : ∀ s : State, I s s.stepTimerExpires
  standArc : ∀ s : State, I s s.standArc
  acceptLoop : ∀ s : State, I s s.acceptLoop
  clear : ∀ (k : HoldKind) (xs : List StringId) (s : State), k ∈ conditionKinds →
    (k = .fire → s.fli.accepted = .normal) →
    I s ((s.modStab fun t => { t with conditions := t.conditions.without k }).removeHolds k xs)
  makePresent : ∀ (i : StringId) (code : LockCode) (s : State), s.switchState i = .absent → s.present i = false →
    I s (s.makePresent i code)

/-! ### What the heart does not show -/

variable {I : State → State → Prop} {s t u : State}

theorem State.heart_emit (k : EventKind) (i : Option StringId) (a b : Int) (s : State) :
    (s.emit k i a b).heart = s.heart := by
  obtain ⟨g, e⟩ := State.emit_eq k i a b s
  rw [e]
  rfl

theorem State.heart_emitAt (time : Uptime) (k : EventKind) (i : Option StringId) (a b : Int) (s : State) :
    (s.emitAt time k i a b).heart = s.heart := by
  obtain ⟨g, e⟩ := State.emitAt_eq time k i a b s
  rw [e]
  rfl

theorem State.heart_takeReports (s : State) : s.takeReports.heart = s.heart := by
  obtain ⟨a, g, c, p, e⟩ := s.takeReports_eq
  rw [e]
  rfl

theorem State.heart_endUnitWait (w : Wait) (s : State) : (s.endUnitWait w).heart = s.heart := by
  obtain ⟨p, e⟩ := State.endUnitWait_eq w s
  rw [e]
  rfl

theorem State.heart_endCommitWait (p : Port) (s : State) : (s.endCommitWait p).heart = s.heart := by
  obtain ⟨q, e⟩ := State.endCommitWait_eq p s
  rw [e]
  rfl

theorem State.heart_abandonCapture (i : StringId) (s : State) : (s.abandonCapture i).heart = s.heart := by
  unfold State.abandonCapture
  split
  · split
    · rw [State.heart_endUnitWait]
      rfl
    · rfl
  · rfl

theorem State.heart_askAll (p : Port) (rs : List StoreRecord) (s : State) : (askAll p rs s).heart = s.heart := by
  obtain ⟨q, e⟩ := askAll_eq p rs s
  rw [e]
  rfl

/-- A switch's timers and tests are not shown. -/
theorem State.heart_modSwitch (i : StringId) (f : Switch → Switch) (s : State)
    (hf : ∀ w, (f w).state = w.state ∧ (f w).drive = w.drive) : (s.modSwitch i f).heart = s.heart := by
  have same (j : StringId) : ((s.modSwitch i f).sw j).state = (s.sw j).state ∧
      ((s.modSwitch i f).sw j).drive = (s.sw j).drive := by
    rw [State.sw_modSwitch]
    split
    · next h => exact h ▸ hf _
    · exact ⟨rfl, rfl⟩
  have h1 : (s.modSwitch i f).switchState = s.switchState := funext fun j => (same j).1
  have h2 : (fun j => ((s.modSwitch i f).sw j).drive) = fun j => (s.sw j).drive := funext fun j => (same j).2
  unfold State.heart
  rw [h1, h2]
  rfl

/-- Settings that keep every presence are not shown. -/
theorem State.heart_modSettings (f : Settings → Settings) (s : State)
    (hp : ∀ i : StringId, ((f s.settings).strings[i]).present = (s.settings.strings[i]).present) :
    (s.modSettings f).heart = s.heart := by
  have h : (s.modSettings f).present = s.present := funext hp
  unfold State.heart
  rw [h]
  rfl

theorem State.heart_modStringSettings (i : StringId) (f : StringSettings → StringSettings) (s : State)
    (hp : (f (s.strSet i)).present = (s.strSet i).present) : (s.modStringSettings i f).heart = s.heart := by
  refine State.heart_modSettings _ s fun j => ?_
  change ((s.modStringSettings i f).strSet j).present = (s.strSet j).present
  rw [State.strSet_modStringSettings]
  split
  · next h => rw [h, hp]
  · rfl

/-! ### Small operations -/

/-- A string that a SET PRESENCE would make PRESENT is not, and one that it would make ABSENT is (R68). -/
theorem State.presenceCheck_present {toPresent : Bool} {payload : List Byte} {i : StringId}
    (h : s.presenceCheck toPresent payload = .changes i) : s.present i = !toPresent := by
  unfold State.presenceCheck at h
  simp only [] at h
  have none_changes (r : Result) (v : Byte) : PresenceCheck.fails r v ≠ .changes i := fun e => nomatch e
  rcases ite_eq_iff.1 h with ⟨-, e⟩ | ⟨-, h⟩
  · exact absurd e (none_changes _ _)
  · split at h
    · exact absurd h (none_changes _ _)
    · next j _ =>
      rcases ite_eq_iff.1 h with ⟨-, e⟩ | ⟨-, h⟩
      · exact absurd e (none_changes _ _)
      · rcases ite_eq_iff.1 h with ⟨-, e⟩ | ⟨hp, h⟩
        · cases e
        · rcases ite_eq_iff.1 h with ⟨-, e⟩ | ⟨-, h⟩
          · exact absurd e (none_changes _ _)
          · rcases ite_eq_iff.1 h with ⟨-, e⟩ | ⟨-, h⟩
            · exact absurd e (none_changes _ _)
            · cases h
              cases toPresent <;> simpa using hp

namespace Walk

variable (W : Walk I)

include W

/-- Work that the heart does not show. -/
theorem still (h : I s t) (e : u.heart = t.heart) : I s u := W.trans h (W.quiet e)

omit W in
/-- A choice between two works is one. -/
theorem ite {c : Prop} [Decidable c] {a b : State} (ha : I s a) (hb : I s b) : I s (if c then a else b) := by
  split
  · exact ha
  · exact hb

theorem forStrings {f : StringId → State → State} (hf : ∀ i s, I s (f i s)) (xs : List StringId) (h : I s t) :
    I s (Machine.forStrings f xs t) := by
  induction xs generalizing t with
  | nil => exact h
  | cons i xs ih => exact ih (W.trans h (hf i t))

theorem modImon (h : I s t) (f : Imon → Imon) : I s (t.modImon f) := W.still h rfl
theorem modTsc (h : I s t) (f : Tsc → Tsc) : I s (t.modTsc f) := W.still h rfl
theorem modRcl (h : I s t) (i : StringId) (f : RecloseTimers → RecloseTimers) : I s (t.modRcl i f) := W.still h rfl
theorem modSeval (h : I s t) (f : Seval → Seval) : I s (t.modSeval f) := W.still h rfl
theorem modEval (h : I s t) (i : StringId) (f : EvalString → EvalString) : I s (t.modEval i f) := W.still h rfl
theorem modArcd (h : I s t) (f : Arcd → Arcd) : I s (t.modArcd f) := W.still h rfl
theorem modMfe (h : I s t) (f : Mfe → Mfe) : I s (t.modMfe f) := W.still h rfl
theorem modHanded (h : I s t) (f : Handed → Handed) : I s (t.modHanded f) := W.still h rfl
theorem modEvr (h : I s t) (f : Evr → Evr) : I s (t.modEvr f) := W.still h rfl
theorem modPorts (h : I s t) (f : Ports → Ports) : I s (t.modPorts f) := W.still h rfl
theorem modPort (h : I s t) (p : Port) (f : PortState → PortState) : I s (t.modPort p f) := W.still h rfl

theorem modSwitch (h : I s t) (i : StringId) (f : Switch → Switch)
    (hf : ∀ w, (f w).state = w.state ∧ (f w).drive = w.drive) : I s (t.modSwitch i f) :=
  W.still h (State.heart_modSwitch i f t hf)

theorem emit (h : I s t) (k : EventKind) (i : Option StringId) (a b : Int) : I s (t.emit k i a b) :=
  W.still h (State.heart_emit k i a b t)

theorem emitAt (h : I s t) (time : Uptime) (k : EventKind) (i : Option StringId) (a b : Int) :
    I s (t.emitAt time k i a b) := W.still h (State.heart_emitAt time k i a b t)

theorem takeReports (h : I s t) : I s t.takeReports := W.still h t.heart_takeReports

theorem addHolds (h : I s t) (x : Hold) (hs : x.kind ≠ .switch) (ho : x.kind ≠ .overcurrent) (xs : List StringId) :
    I s (t.addHolds x xs) := W.forStrings (fun i u => W.addHold x i u hs ho) xs h

theorem emitHoldChanged (h : I s t) (k : HoldKind) (added : Bool) (cause : ChangeCause) (changed : List StringId) :
    I s (t.emitHoldChanged k added cause changed) := by
  unfold State.emitHoldChanged
  exact Walk.ite h (W.emit h _ _ _ _)

theorem startMeasurement (h : I s t) (o : Owner) (p : Purpose) : I s (t.startMeasurement o p) := W.modImon h _

theorem startGap (h : I s t) : I s t.startGap := by
  unfold State.startGap
  exact Walk.ite (W.startMeasurement h _ _) (W.modImon h _)

/-! ### The evaluator and the Thermal Shed Controller (chapters 2 and 5) -/

theorem judgeDeficit (h : I s t) (r : ScanRecord) (i : StringId) : I s (t.judgeDeficit r i) := by
  unfold State.judgeDeficit
  split
  · exact W.modEval h i _
  · exact Walk.ite (W.emitAt (W.modEval (W.modEval h i _) i _) _ _ _ _ _)
      (Walk.ite (W.emitAt (W.modEval (W.modEval h i _) i _) _ _ _ _ _) (W.modEval h i _))

theorem countDwells (h : I s t) (r : ScanRecord) (i : StringId) : I s (t.countDwells r i) := by
  unfold State.countDwells
  exact Walk.ite (W.modEval h i _) h

theorem trip (r : ScanRecord) (dwell : StringId → Nat × Nat) (i : StringId) (t : State) : I t (t.trip r dwell i) := by
  have k : I t (if 0 < (dwell i).1 ∧ t.cfgNat .nRev ≤ (dwell i).1 then
      ((t.addHold .reverse i).takeReports.modEval i fun e => { e with reverseDwell := 0 }).emitAt r.completion
        .reverseTrip (some i) (r.sample i).current (dwell i).1
    else t) :=
    Walk.ite (W.emitAt (W.modEval (W.takeReports (W.addHold _ i t (by decide) (by decide))) i _) _ _ _ _ _) (W.refl t)
  unfold State.trip
  simp only []
  generalize (if 0 < (dwell i).1 ∧ t.cfgNat .nRev ≤ (dwell i).1 then
      ((t.addHold .reverse i).takeReports.modEval i fun e => { e with reverseDwell := 0 }).emitAt r.completion
        .reverseTrip (some i) (r.sample i).current (dwell i).1
    else t) = v at k ⊢
  exact Walk.ite (W.modEval (W.trans k (W.addOvercurrent i _ _ v)) i _) k

theorem evaluate (h : I s t) (r : ScanRecord) : I s (t.evaluate r) := by
  unfold State.evaluate
  simp only []
  refine W.forStrings (fun i u => W.modEval (W.refl u) i _) _ ?_
  refine W.forStrings (fun i u => Walk.ite (W.trip r _ i u) (W.refl u)) _ ?_
  exact W.forStrings (fun i u => W.countDwells (W.judgeDeficit (W.refl u) r i) r i) _ (W.modSeval h _)

theorem shed (r : ScanRecord) (total : Nat) (i : StringId) (t : State) : I t (t.shed r total i) :=
  W.emitAt (W.modTsc (W.takeReports (W.addHold .thermal i t (by decide) (by decide))) _) _ _ _ _ _

theorem shedOne (h : I s t) (r : ScanRecord) (total : Nat) (i : StringId) : I s (t.shedOne r total i) := by
  unfold State.shedOne
  exact W.modTsc (W.trans h (W.shed r total i t)) _

theorem fullShed (h : I s t) (r : ScanRecord) (total : Nat) (victims : List StringId) :
    I s (t.fullShed r total victims) := by
  unfold State.fullShed
  exact W.modTsc (W.forStrings (fun i u => W.shed r total i u) victims h) _

theorem restore (h : I s t) (r : ScanRecord) : I s (t.restore r) := by
  unfold State.restore
  split
  · exact h
  · next top rest _ =>
    have k := W.takeReports (W.trans (W.modTsc h fun x => { x with stack := rest, lastMove := some r.completion })
      (W.removeHold .thermal top.string _ (by decide)))
    exact W.emitAt (Walk.ite (W.modTsc k _) k) _ _ _ _ _

theorem shedWork (h : I s t) (r : ScanRecord) : I s (t.shedWork r) := by
  have restored (c : Prop) [Decidable c] (u : State) (k : I s u) : I s (if c then u.restore r else u) :=
    Walk.ite (W.restore k r) k
  have k (f g j : Tsc → Tsc) (c : Prop) [Decidable c] :
      I s (if c then ((t.modTsc f).modTsc g).modTsc j else (t.modTsc f).modTsc g) :=
    Walk.ite (W.modTsc (W.modTsc (W.modTsc h f) g) j) (W.modTsc (W.modTsc h f) g)
  unfold State.shedWork
  simp only []
  generalize t.victimOrder r _ = victims
  cases victims with
  | nil => exact Walk.ite (W.fullShed (W.modTsc h _) r _ _) (restored _ _ (k _ _ _ _))
  | cons top rest =>
    exact Walk.ite (W.fullShed (W.modTsc h _) r _ _) (Walk.ite (W.shedOne (k _ _ _ _) r _ top) (restored _ _ (k _ _ _ _)))

/-! ### Array conditions, arc, fire and insulation (R47, chapters 6 and 7) -/

theorem clearStart (h : I s t) : I s t.clearStart := W.trans h (W.clear .start _ t (by decide) (fun e => nomatch e))

theorem clearStore (h : I s t) : I s t.clearStore := W.trans h (W.clear .store _ t (by decide) (fun e => nomatch e))

theorem clearArc (h : I s t) : I s t.clearArc := by
  unfold State.clearArc
  exact W.modArcd (W.trans h (W.clear .arc _ t (by decide) (fun e => nomatch e))) _

theorem clearFire (h : I s t) (hn : t.fli.accepted = .normal) (p : Port) : I s (t.clearFire p) :=
  W.emitHoldChanged (W.trans h (W.clear .fire _ t (by decide) fun _ => hn)) _ _ _ _

theorem judgeArc (h : I s t) (r : ScanRecord) : I s (t.judgeArc r) := by
  have k (f : Arcd → Arcd) : I s (t.modArcd f).standArc := W.trans (W.modArcd h f) (W.standArc _)
  unfold State.judgeArc
  exact Walk.ite (W.emitAt (W.modArcd (k _) _) _ _ _ _ _) (W.modArcd h _)

theorem lowReading (h : I s t) (reading : Nat) (a : LowAction) (report : Bool) : I s (t.lowReading reading a report) := by
  unfold State.lowReading
  exact W.modImon (Walk.ite (W.emit h _ _ _ _) h) _

theorem groundClosed (h : I s t) (reading : Nat) (detail : GroundDetail) (a : LowAction) :
    I s (t.groundClosed reading detail a) :=
  W.startGap (W.lowReading
    (W.takeReports (W.addHolds h _ (by cases detail <;> decide) (by cases detail <;> decide) _)) _ _ _)

theorem confirmedLow (h : I s t) (reading : Nat) : I s (t.confirmedLow reading) := by
  unfold State.confirmedLow
  exact Walk.ite (W.groundClosed h _ _ _) (Walk.ite (W.groundClosed h _ _ _)
    (W.lowReading (W.trans h (W.startSearch 0 t)) _ _ _))

theorem judgePeriodic (h : I s t) (reading : Nat) (purpose : Purpose) : I s (t.judgePeriodic reading purpose) := by
  unfold State.judgePeriodic
  refine Walk.ite (Walk.ite (W.startGap (W.clearStart h))
      (Walk.ite (W.startGap (Walk.ite h (W.lowReading h _ _ _))) (W.startGap h)))
    (Walk.ite ?_ (W.startGap h))
  split
  · exact W.confirmedLow h _
  · exact W.startMeasurement h _ _

theorem periodicMeasured (h : I s t) (reading : Nat) (purpose : Purpose) : I s (t.periodicMeasured reading purpose) :=
  W.judgePeriodic (W.modImon h _) reading purpose

/-! ### The rest of the sequencer's events -/

theorem compareFast (h : I s t) (xs : List StringId) : I s (t.compareFast xs) :=
  W.forStrings (fun i u => W.cross i u) _ (W.modMfe h _)

theorem readFast (h : I s t) (i : StringId) (n : Nat) : I s (t.readFast i n) := W.compareFast (W.modMfe h _) _

theorem pulseEnds (h : I s t) (i : StringId) : I s (t.pulseEnds i) := by
  unfold State.pulseEnds
  split
  · refine W.trans (W.still (u := t.modSseq _) h ?_) (W.arbiter _)
    rfl
  · exact h

theorem setTimer (h : I s t) (i : StringId) (x : Option Nat) : I s (t.setTimer i x) :=
  W.modSwitch h i _ fun _ => ⟨rfl, rfl⟩

theorem dwellPasses (h : I s t) (i : StringId) : I s (t.dwellPasses i) := by
  unfold State.dwellPasses
  refine W.trans (W.trans (W.modSwitch h i _ ?_) (W.testAndJoinQ i _)) (W.arbiter _)
  exact fun _ => ⟨rfl, rfl⟩

theorem qualTimesOut (h : I s t) (i : StringId) : I s (t.qualTimesOut i) := by
  unfold State.qualTimesOut
  exact Walk.ite (W.setTimer h i none) (W.emit (W.setTimer h i none) _ _ _ _)

theorem curtailPeriodEnds (h : I s t) (i : StringId) : I s (t.curtailPeriodEnds i) := by
  unfold State.curtailPeriodEnds
  refine W.emit (W.modSwitch h i _ ?_) _ _ _ _
  exact fun _ => ⟨rfl, rfl⟩

theorem recloseExpires (h : I s t) (i : StringId) : I s (t.recloseExpires i) :=
  W.trans (W.modRcl h i _) (W.removeHold .overcurrent i _ (by decide))

theorem stableExpires (h : I s t) (i : StringId) : I s (t.stableExpires i) := by
  unfold State.stableExpires
  exact W.trans (W.modRcl h i _) (W.setCount i 0 _)

/-! ### The end of a step -/

theorem finish (h : I s t) : I s t.finish := W.trans (W.trans (W.takeReports h) (W.settle _)) (W.beginWrite _)

theorem reply (h : I s t) (p : Port) (code : Byte) (r : Result) (body : List Byte) : I s (t.reply p code r body) :=
  W.modPort h p _

theorem conclude (h : I s t) (p : Port) (q : RequestCode) (waits : List StoreRecord) (r : Result) (body : List Byte) :
    I s (t.conclude p q waits r body) := by
  have k := W.trans (W.takeReports h) (W.settle _)
  have k2 : I s (t.takeReports.settle.startWait p (requestCode q) (.commit r body)) := W.modPort k p _
  unfold State.conclude
  exact Walk.ite (W.trans (W.reply k p _ r body) (W.beginWrite _))
    (W.trans (W.still k2 (State.heart_askAll p waits _)) (W.beginWrite _))

/-- A request is taken: refused with a reply, or left to its owner (R162). -/
theorem serve (q : RequestCode) (p : Port) (payload : List Byte) (owner : State → State) (s : State)
    (h : ∀ u : State, u.permitted q p payload = true → I u (owner u)) : I s (s.serve q p payload owner) := by
  have k : I s (s.modPort p fun t => t.heard s.now .idle) := W.modPort (W.refl s) p _
  unfold State.serve
  refine Walk.ite (W.refl s) (Walk.ite (W.reply k p _ _ _) (Walk.ite (W.reply k p _ _ _) ?_))
  split
  · exact W.reply k p _ _ _
  · next hp => exact W.trans k (h _ (by simpa using hp))

/-! ### Requests -/

theorem tableReply (h : I s t) (p : Port) (q : RequestCode) (r : Result) (v : Byte) : I s (t.tableReply p q r v) :=
  W.reply h p _ r [v]

theorem holdRequest (p : Port) (payload : List Byte) (s : State) : I s (s.holdRequest p payload) := by
  have k := W.refl s
  unfold State.holdRequest
  refine Walk.ite (W.tableReply k p _ _ _) ?_
  simp only []
  split
  · exact W.tableReply k p _ _ _
  · exact W.conclude (W.emitHoldChanged (W.addHolds k _ (by cases p <;> exact fun e => nomatch e)
      (by cases p <;> exact fun e => nomatch e) _) _ _ _ _) p _ _ _ _

/-- RELEASE, where its removals keep the relation (R57, R59). -/
theorem releaseRequest (p : Port) (payload : List Byte) (s : State)
    (h : s.checkList (listOf p payload) (s.codeCheck p (lockCodeOf payload) .wrongCode) = none →
      I s (s.removeHolds (partyKind p) (stringsOf (listOf p payload)))) : I s (s.releaseRequest p payload) := by
  have k := W.refl s
  unfold State.releaseRequest
  refine Walk.ite (W.tableReply k p _ _ _) ?_
  simp only []
  split
  · exact W.tableReply k p _ _ _
  · next hc => exact W.conclude (W.emitHoldChanged (h hc) _ _ _ _) p _ _ _ _

theorem acknowledgeListed (kind : AckKind) (hk : kind.holdKind ∈ freeKinds) (p : Port) (payload : List Byte) (s : State) :
    I s (s.acknowledgeListed kind p payload) := by
  have k := W.refl s
  have removed (xs : List StringId) : I s (s.removeHolds kind.holdKind xs) :=
    W.forStrings (fun i u => W.removeHold _ i u hk) xs k
  unfold State.acknowledgeListed
  refine Walk.ite (W.tableReply k p _ _ _) ?_
  split
  · exact W.tableReply k p _ _ _
  · refine W.conclude ?_ p _ _ _ _
    unfold State.acknowledgeStrings
    split
    · exact W.forStrings (fun i u => W.setCount i 0 u) _ (removed _)
    · exact removed _

theorem acknowledgeArc (p : Port) (payload : List Byte) (s : State) : I s (s.acknowledgeArc p payload) := by
  unfold State.acknowledgeArc
  exact Walk.ite (W.tableReply (W.refl s) p _ _ _) (Walk.ite (W.tableReply (W.refl s) p _ _ _)
    (W.conclude (W.clearArc (W.refl s)) p _ _ _ _))

theorem acknowledgeStore (p : Port) (payload : List Byte) (s : State) : I s (s.acknowledgeStore p payload) := by
  unfold State.acknowledgeStore
  exact Walk.ite (W.tableReply (W.refl s) p _ _ _) (Walk.ite (W.tableReply (W.refl s) p _ _ _)
    (W.conclude (W.clearStore (W.refl s)) p _ _ _ _))

theorem serveAck (kind : AckKind) (p : Port) (payload : List Byte) (owner : State → State) (s : State)
    (h : ∀ u : State, I u (owner u)) : I s (s.serveAck kind p payload owner) := by
  unfold State.serveAck
  exact Walk.ite (W.refl s) (W.serve _ p payload owner s fun u _ => h u)

theorem retireRequest (p : Port) (payload : List Byte) (s : State) : I s (s.retireRequest p payload) := by
  have k := W.refl s
  unfold State.retireRequest
  refine Walk.ite (W.tableReply k p _ _ _) ?_
  split
  · exact W.tableReply k p _ _ _
  · exact Walk.ite (W.tableReply k p _ _ _) (W.conclude (W.addHold .retired _ s (by decide) (by decide)) p _ _ _ _)
  · exact k

theorem presenceRequest (toPresent : Bool) (p : Port) (payload : List Byte) (s : State)
    (h : ∀ i, toPresent = false → s.presenceCheck false payload = .changes i → I s (s.makeAbsent i)) :
    I s (s.presenceRequest toPresent p payload) := by
  unfold State.presenceRequest
  split
  · exact W.tableReply (W.refl s) p _ _ _
  · exact W.tableReply (W.refl s) p _ _ _
  · next i hc =>
    cases toPresent
    · exact W.conclude (h i rfl hc) p _ _ _ _
    · exact W.conclude (W.makePresent i _ s (State.presenceCheck_changes hc) (State.presenceCheck_present hc)) p _ _ _ _

theorem servePresence (toPresent : Bool) (p : Port) (payload : List Byte) (s : State)
    (h : ∀ (u : State) (i : StringId), toPresent = false → u.presenceCheck false payload = .changes i →
      I u (u.makeAbsent i)) : I s (s.servePresence toPresent p payload) := by
  unfold State.servePresence
  exact Walk.ite (W.refl s) (W.serve _ p payload _ s fun u _ => W.presenceRequest toPresent p payload u (h u))

theorem fireRestoreRequest (p : Port) (s : State) : I s (s.fireRestoreRequest p) := by
  unfold State.fireRestoreRequest
  split
  · exact W.reply (W.refl s) p _ _ _
  · next hn =>
    exact Walk.ite (W.reply (W.refl s) p _ _ _) (W.conclude (W.clearFire (W.refl s) (not_not.1 hn) p) p _ _ _ _)

theorem searchStartRequest (p : Port) (s : State) : I s (s.searchStartRequest p) := by
  unfold State.searchStartRequest
  exact Walk.ite (W.reply (W.refl s) p _ _ _) (W.conclude (W.startSearch _ s) p _ _ _ _)

theorem searchAbortRequest (p : Port) (s : State) : I s (s.searchAbortRequest p) := by
  unfold State.searchAbortRequest
  exact Walk.ite (W.reply (W.refl s) p _ _ _) (W.conclude (W.abortSearch s) p _ _ _ _)

theorem readStringRequest (p : Port) (payload : List Byte) (s : State) : I s (s.readStringRequest p payload) := by
  unfold State.readStringRequest
  split <;> exact W.reply (W.refl s) p _ _ _

theorem fetchRequest (p : Port) (payload : List Byte) (s : State) : I s (s.fetchRequest p payload) := by
  unfold State.fetchRequest
  exact Walk.ite (W.reply (W.refl s) p _ _ _) (W.reply (W.modEvr (W.refl s) _) p _ _ _)

theorem readSettingRequest (p : Port) (payload : List Byte) (s : State) : I s (s.readSettingRequest p payload) := by
  unfold State.readSettingRequest
  split <;> exact W.reply (W.refl s) p _ _ _

theorem writeWhole (k : Setting) (y : Int) (s : State) : I s (s.writeWhole k y) := by
  have g : I s ((s.putValue k y).raiseDependent k y) := by
    rw [State.raiseDependent_eq]
    exact W.quiet (State.heart_modSettings (fun c => c.written k y) s fun i => by rw [Settings.written_strings])
  unfold State.writeWhole
  exact Walk.ite (W.compareFast g allStrings) g

theorem writeGroup (i : StringId) (y : PeerGroup) (s : State) : I s (s.writeGroup i y) := by
  have g : I s ((s.modStringSettings i fun c => { c with group := y }).modEval i
      fun e => { e with suspicion := 0, suspect := false }) :=
    W.modEval (W.quiet (State.heart_modStringSettings i _ s rfl)) i _
  unfold State.writeGroup
  exact Walk.ite (W.refl s) (Walk.ite (W.emit g _ _ _ _) g)

theorem writeValue {r : SettingRef} {i : StringId} {x y : Int} {u : State} (h : s.writeValue r i x = some (y, u)) :
    I s u := by
  have one (f : StringSettings → StringSettings) (hf : (f (s.strSet i)).present = (s.strSet i).present) :
      I s (s.modStringSettings i f) := W.quiet (State.heart_modStringSettings i f s hf)
  cases r with
  | whole k =>
    simp only [State.writeValue, Option.map_eq_some_iff, Prod.mk.injEq] at h
    obtain ⟨y', -, rfl, rfl⟩ := h
    exact W.writeWhole k y' s
  | offset =>
    cases h
    exact one _ rfl
  | gain =>
    cases h
    exact one _ rfl
  | range =>
    simp only [State.writeValue, Option.map_eq_some_iff, Prod.mk.injEq] at h
    obtain ⟨y', -, rfl, rfl⟩ := h
    exact one _ rfl
  | group =>
    simp only [State.writeValue, Option.map_eq_some_iff, Prod.mk.injEq] at h
    obtain ⟨y', -, rfl, rfl⟩ := h
    exact W.writeGroup i y' s
  | rank =>
    cases h
    exact one _ rfl

theorem writeSettingRequest (p : Port) (payload : List Byte) (s : State) : I s (s.writeSettingRequest p payload) := by
  unfold State.writeSettingRequest
  split
  · exact W.reply (W.refl s) p _ _ _
  · simp only []
    split
    · exact W.reply (W.refl s) p _ _ _
    · next hw => exact W.conclude (W.writeValue hw) p _ _ _ _

theorem writeRouteRequest (p : Port) (payload : List Byte) (s : State) : I s (s.writeRouteRequest p payload) := by
  unfold State.writeRouteRequest
  split
  · exact W.conclude (W.quiet (State.heart_modSettings _ s fun _ => rfl)) p _ _ _ _
  · exact W.reply (W.refl s) p _ _ _

theorem restartRequest (p : Port) (s : State) : I s (s.restartRequest p) :=
  W.modPorts (W.reply (W.refl s) p (requestCode .restart) .done []) _

theorem calibrateRequest (p : Port) (payload : List Byte) (s : State) : I s (s.calibrateRequest p payload) := by
  have k := W.refl s
  unfold State.calibrateRequest
  split
  · exact W.reply k p _ _ _
  · exact Walk.ite (W.reply k p _ _ _) (Walk.ite (W.reply k p _ _ _) (W.modPort (W.modMfe k _) p _))

theorem retestRequest (p : Port) (payload : List Byte) (s : State) : I s (s.retestRequest p payload) := by
  have k := W.refl s
  unfold State.retestRequest
  split
  · exact W.reply k p _ _ _
  · next i _ =>
    refine Walk.ite (W.reply k p _ _ _) (Walk.ite (W.reply k p _ _ _) ?_)
    split
    · exact W.reply k p _ _ _
    · next hs =>
      have hf : s.switchState i = .faulted := by
        by_contra hn
        exact hs (.inl hn)
      exact W.finish (W.trans (W.modPort k p _) (W.startRetest i _ hf))

/-! ### Scans and commits (chapter 1, R177, R178) -/

theorem completeCapture (i : StringId) (sum : Int) (s : State) : I s (s.completeCapture i sum) := by
  have k := W.modMfe (W.refl s) fun m => { m with capture := none }
  have k2 (x : Int) : I s ((s.modMfe fun m => { m with capture := none }).modStringSettings i
      fun c => { c with offset := x }) := W.still k (State.heart_modStringSettings i _ _ rfl)
  unfold State.completeCapture
  refine Walk.ite ?_ (W.still k (State.heart_endUnitWait .capture _))
  simp only []
  split
  · exact W.still (W.modPort (k2 _) .m _) rfl
  · exact W.still (k2 _) rfl

theorem captureStep (h : I s t) (raw : RawScan) (v : Samples) : I s (t.captureStep raw v) := by
  unfold State.captureStep
  split
  · exact h
  · exact Walk.ite (W.still h (State.heart_abandonCapture _ t))
      (Walk.ite (W.trans h (W.completeCapture _ _ t)) (W.modMfe h _))

theorem qualifyAll (h : I s t) : I s t.qualifyAll :=
  W.forStrings (fun i u => Walk.ite (W.trans (W.testAndJoinQ i u) (W.arbiter _)) (W.refl u)) allStrings h

theorem daylightStep (h : I s t) (bus : Nat) : I s (t.daylightStep bus) := by
  obtain ⟨d, w, r, g, e⟩ := State.daylightStep_eq bus t
  rw [e]
  exact W.still h rfl

theorem completeScan (raw : RawScan) (s : State) : I s (s.completeScan raw) := by
  unfold State.completeScan
  simp only []
  generalize State.scanRecord _ _ _ = r
  have k := W.modArcd (W.captureStep (W.daylightStep (W.refl s) (s.convert raw).bus) raw (s.convert raw))
    fun a => a.nextInterval raw.arcIndex
  exact W.qualifyAll (W.modHanded (W.modMfe (W.modMfe k _) _) _)

theorem releaseWaiters (rest : List CommitEntry) (ps : List Port) (h : I s t) : I s (releaseWaiters rest ps t) := by
  induction ps generalizing t with
  | nil => exact h
  | cons p ps ih => exact ih (Walk.ite h (W.still h (State.heart_endCommitWait p t)))

theorem commitCompletes (s : State) : I s s.commitCompletes := by
  unfold State.commitCompletes
  split
  · next w e rest hw _ =>
    exact Walk.ite (W.trans (W.releaseWaiters rest _ (W.finishWrite s w hw)) (W.beginWrite _)) (W.refl s)
  · exact W.refl s

/-! ### Every command -/

/-- An occurrence takes effect or changes nothing. -/
theorem happens {cond : Bool} {f : State → State} (h : s.happens cond f = .next t) (hf : cond = true → I s (f s)) :
    I s t := by
  unfold State.happens at h
  cases h
  split
  · next hc =>
    simp only [Bool.and_eq_true] at hc
    exact hf hc.2
  · exact W.refl s

omit W in
theorem takes (h : (.next u : Host.Outcome State Fault Refusal) = .next t) (k : I s u) : I s t := by
  cases h
  exact k

theorem retestStepLate (s : State) : I s s.retestStepLate := by
  unfold State.retestStepLate
  split
  · next r hr => exact Walk.ite (W.finish (W.retestFails r _ s hr)) (W.refl s)
  · exact W.refl s

theorem retestWaitOver (s : State) : I s s.retestWaitOver := by
  unfold State.retestWaitOver
  split
  · next r hr =>
    have k : I s (s.modSseq fun q => { q with retest := some { r with timer := none } }) :=
      W.quiet (by
        unfold State.heart
        rw [hr]
        rfl)
    exact Walk.ite (Walk.ite k (W.finish (W.still (W.takeReports (W.endRetest r s hr)) (State.heart_endUnitWait _ _))))
      (W.refl s)
  · exact W.refl s

theorem periodicCompletes (reading : Nat) (s : State) : I s (s.periodicCompletes reading) := by
  unfold State.periodicCompletes
  split
  · exact Walk.ite (W.finish (W.periodicMeasured (W.refl s) _ _)) (W.refl s)
  · exact W.refl s

theorem searchCompletes (reading : Nat) (s : State) : I s (s.searchCompletes reading) := by
  unfold State.searchCompletes
  split
  · exact Walk.ite (W.finish (W.searchMeasured _ s)) (W.refl s)
  · exact W.refl s

theorem holdOffExpires (s : State) : I s s.holdOffExpires := by
  have k := W.modEvr (W.refl s) fun e => { e with holdOff := none }
  unfold State.holdOffExpires State.issueConnected
  exact Walk.ite k (W.modEvr (W.emit k _ _ _ _) _)

theorem coalesceExpires (p : Port) (s : State) : I s (s.coalesceExpires p) := by
  unfold State.coalesceExpires
  split
  · exact Walk.ite (W.modEvr (W.refl s) _) (W.refl s)
  · exact W.refl s

/-- The class of the fire loop as read is not the accepted one (R151). -/
theorem classChanges (h : I s t) (c : LoopClass) : I s (t.modFli fun f => f.classChanges c t.now) := by
  refine W.still h ?_
  have e : (t.fli.classChanges c t.now).accepted = t.fli.accepted := by
    unfold Fli.classChanges
    split <;> rfl
  unfold State.heart
  rw [State.modFli_fli, e]
  rfl

theorem takeBytes (p : Port) (bytes : List Byte) (s : State) : I s (s.takeBytes p bytes) := by
  unfold State.takeBytes
  split
  · exact W.modPort (W.refl s) p _
  · exact W.refl s

theorem applyBaud (p : Port) (s : State) : I s (s.applyBaud p) := by
  unfold State.applyBaud
  split
  · exact W.modPort (W.refl s) p _
  · exact W.refl s

theorem sevalTakesUp (s : State) : I s s.sevalTakesUp := by
  unfold State.sevalTakesUp
  split
  · exact W.refl s
  · exact W.finish (W.evaluate (W.modHanded (W.refl s) _) _)

theorem tscTakesUp (s : State) : I s s.tscTakesUp := by
  unfold State.tscTakesUp
  split
  · exact W.refl s
  · exact W.finish (W.shedWork (W.modHanded (W.refl s) _) _)

theorem arcdTakesUp (s : State) : I s s.arcdTakesUp := by
  unfold State.arcdTakesUp
  split
  · exact W.refl s
  · exact W.finish (W.judgeArc (W.modHanded (W.refl s) _) _)

end Walk

/-! ### Every command -/

/-- What the relation needs of a command beside: of the removals of RELEASE, of making a string ABSENT, of the start-ups
and of the loss of supply. -/
structure Walk.Needs (I : State → State → Prop) (c : Instr) (s : State) : Prop where
  release : ∀ (p : Port) (b : List Byte), c = .release p b → ∀ u : State,
    u.checkList (listOf p b) (u.codeCheck p (lockCodeOf b) .wrongCode) = none →
    I u (u.removeHolds (partyKind p) (stringsOf (listOf p b)))
  absent : ∀ (p : Port) (b : List Byte), c = .setPresenceAbsent p b → ∀ (u : State) (i : StringId),
    u.presenceCheck false b = .changes i → I u (u.makeAbsent i)
  startUp : ∀ (cause : StartCause) (inp : StartInputs), c = .powerUp inp ∨ c = .supplyDip inp ∨ c = .restartWaitEnd inp →
    I s (s.startUp cause inp)
  losePower : c = .powerLoss → I s s.losePower

/-- Every command keeps the relation. -/
theorem Walk.exec (W : Walk I) {c : Instr} (n : Walk.Needs I c s) (h : exec c s = .next t) : I s t := by
  have k := W.refl s
  cases c with
  | powerUp inp => exact Walk.takes (show execPowerUp inp s = _ from h) (n.startUp _ inp (.inl rfl))
  | supplyDip inp => exact W.happens (show execSupplyDip inp s = _ from h) fun _ => n.startUp _ inp (.inr (.inl rfl))
  | restartWaitEnd inp =>
    exact W.happens (show execRestartWaitEnd inp s = _ from h) fun _ =>
      n.startUp _ inp (.inr (.inr rfl))
  | powerLoss => exact W.happens (show execPowerLoss s = _ from h) fun _ => n.losePower rfl
  | frameDropped p frame => exact W.happens (show execFrameDropped p frame s = _ from h) fun _ => W.modPort k p _
  | partialFrameGivenUp p bytes =>
    exact W.happens (show execPartialFrameGivenUp p bytes s = _ from h) fun _ =>
      W.takeBytes p bytes s
  | unknownRequestCode p code b =>
    exact W.happens (show execUnknownRequestCode p code b s = _ from h) fun _ =>
      W.reply (W.modPort k p _) p code _ _
  | replyTransmitStart p => exact W.happens (show execReplyTransmitStart p s = _ from h) fun _ => W.modPort k p _
  | transmissionEnd p => exact W.happens (show execTransmissionEnd p s = _ from h) fun _ => W.modPort k p _
  | baudRateApplied p => exact W.happens (show execBaudRateApplied p s = _ from h) fun _ => W.applyBaud p s
  | serviceKeyInputChange on =>
    exact W.happens (show execServiceKeyInputChange on s = _ from h) fun _ =>
      W.modPorts k _
  | keyDebounceExpiry => exact W.happens (show execKeyDebounceExpiry s = _ from h) fun _ => W.modPorts k _
  | status p b =>
    exact Walk.takes (show execStatus p b s = _ from h)
      (W.serve _ p b _ s fun u _ => W.reply (W.refl u) p _ _ _)
  | readString p b =>
    exact Walk.takes (show execReadString p b s = _ from h)
      (W.serve _ p b _ s fun u _ => W.readStringRequest p b u)
  | hold p b => exact Walk.takes (show execHold p b s = _ from h) (W.serve _ p b _ s fun u _ => W.holdRequest p b u)
  | release p b =>
    exact Walk.takes (show execRelease p b s = _ from h)
      (W.serve _ p b _ s fun u _ => W.releaseRequest p b u (n.release p b rfl u))
  | acknowledgeReverse p b =>
    exact Walk.takes (show execAcknowledgeReverse p b s = _ from h)
      (W.serveAck _ p b _ s fun u => W.acknowledgeListed .reverse (by decide) p b u)
  | acknowledgeGround p b =>
    exact Walk.takes (show execAcknowledgeGround p b s = _ from h)
      (W.serveAck _ p b _ s fun u => W.acknowledgeListed .ground (by decide) p b u)
  | acknowledgeOvercurrent p b =>
    exact Walk.takes (show execAcknowledgeOvercurrent p b s = _ from h)
      (W.serveAck _ p b _ s fun u => W.acknowledgeListed .overcurrent (by decide) p b u)
  | acknowledgeArc p b =>
    exact Walk.takes (show execAcknowledgeArc p b s = _ from h)
      (W.serveAck _ p b _ s fun u => W.acknowledgeArc p b u)
  | acknowledgeStore p b =>
    exact Walk.takes (show execAcknowledgeStore p b s = _ from h)
      (W.serveAck _ p b _ s fun u => W.acknowledgeStore p b u)
  | fireRestore p b =>
    exact Walk.takes (show execFireRestore p b s = _ from h)
      (W.serve _ p b _ s fun u _ => W.fireRestoreRequest p u)
  | retire p b =>
    exact Walk.takes (show execRetire p b s = _ from h)
      (W.serve _ p b _ s fun u _ => W.retireRequest p b u)
  | retestSwitch p b =>
    exact Walk.takes (show execRetestSwitch p b s = _ from h)
      (W.serve _ p b _ s fun u _ => W.retestRequest p b u)
  | calibrate p b =>
    exact Walk.takes (show execCalibrate p b s = _ from h)
      (W.serve _ p b _ s fun u _ => W.calibrateRequest p b u)
  | setPresenceAbsent p b =>
    exact Walk.takes (show execSetPresenceAbsent p b s = _ from h)
      (W.servePresence false p b s fun u i _ => n.absent p b rfl u i)
  | setPresencePresent p b =>
    exact Walk.takes (show execSetPresencePresent p b s = _ from h)
      (W.servePresence true p b s fun u i e => nomatch e)
  | searchStart p b =>
    exact Walk.takes (show execSearchStart p b s = _ from h)
      (W.serve _ p b _ s fun u _ => W.searchStartRequest p u)
  | searchAbort p b =>
    exact Walk.takes (show execSearchAbort p b s = _ from h)
      (W.serve _ p b _ s fun u _ => W.searchAbortRequest p u)
  | fetchEvents p b =>
    exact Walk.takes (show execFetchEvents p b s = _ from h)
      (W.serve _ p b _ s fun u _ => W.fetchRequest p b u)
  | readSetting p b =>
    exact Walk.takes (show execReadSetting p b s = _ from h)
      (W.serve _ p b _ s fun u _ => W.readSettingRequest p b u)
  | writeSetting p b =>
    exact Walk.takes (show execWriteSetting p b s = _ from h)
      (W.serve _ p b _ s fun u _ => W.writeSettingRequest p b u)
  | writeRoute p b =>
    exact Walk.takes (show execWriteRoute p b s = _ from h)
      (W.serve _ p b _ s fun u _ => W.writeRouteRequest p b u)
  | restart p b =>
    exact Walk.takes (show execRestart p b s = _ from h)
      (W.serve _ p b _ s fun u _ => W.restartRequest p u)
  | scanCompletion raw =>
    exact W.happens (show execScanCompletion raw s = _ from h) fun _ =>
      W.finish (W.completeScan raw s)
  | sevalScanTakeUp => exact W.happens (show execSevalScanTakeUp s = _ from h) fun _ => W.sevalTakesUp s
  | tscScanTakeUp => exact W.happens (show execTscScanTakeUp s = _ from h) fun _ => W.tscTakesUp s
  | arcdScanTakeUp => exact W.happens (show execArcdScanTakeUp s = _ from h) fun _ => W.arcdTakesUp s
  | afterRampBlankExpiry => exact W.happens (show execAfterRampBlankExpiry s = _ from h) fun _ => W.modArcd k _
  | currentFellBelowIZero i x =>
    exact W.happens (show execCurrentFellBelowIZero i x s = _ from h) fun _ =>
      W.finish (W.readFast k i x)
  | currentReachedIZero i x =>
    exact W.happens (show execCurrentReachedIZero i x s = _ from h) fun _ =>
      W.finish (W.readFast k i x)
  | feedbackShowsClosed i =>
    exact W.happens (show execFeedbackShowsClosed i s = _ from h) fun _ =>
      W.finish (W.feedbackClosed i s)
  | feedbackShowsOpen i =>
    exact W.happens (show execFeedbackShowsOpen i s = _ from h) fun _ =>
      W.finish (W.feedbackOpen i s)
  | closeConfirmExpiry i =>
    exact W.happens (show execCloseConfirmExpiry i s = _ from h) fun e =>
      W.finish (W.becomeFaulted i _ s (.inl (State.expired_state e)))
  | openConfirmExpiry i =>
    exact W.happens (show execOpenConfirmExpiry i s = _ from h) fun e =>
      W.finish (W.becomeFaulted i _ s (.inr (State.expired_state e)))
  | retestStepExpiry => exact W.happens (show execRetestStepExpiry s = _ from h) fun _ => W.retestStepLate s
  | retestOpenStepTimeout => exact W.happens (show execRetestOpenStepTimeout s = _ from h) fun _ => W.retestWaitOver s
  | recoveryPulseExpiry i =>
    exact W.happens (show execRecoveryPulseExpiry i s = _ from h) fun _ =>
      W.finish (W.emit (W.setTimer k i none) _ _ _ _)
  | pulseEnd i => exact W.happens (show execPulseEnd i s = _ from h) fun _ => W.finish (W.pulseEnds k i)
  | rampEnd i =>
    exact W.happens (show execRampEnd i s = _ from h) fun e =>
      W.finish (W.rampEnds i s (State.expired_state e))
  | rampSlotFree => exact W.happens (show execRampSlotFree s = _ from h) fun _ => W.finish (W.rampTest s)
  | dwellPassed i => exact W.happens (show execDwellPassed i s = _ from h) fun _ => W.finish (W.dwellPasses k i)
  | qualificationTimeout i =>
    exact W.happens (show execQualificationTimeout i s = _ from h) fun _ =>
      W.qualTimesOut k i
  | interruptTimeout i =>
    exact W.happens (show execInterruptTimeout i s = _ from h) fun e =>
      W.finish (W.enterCurtailWait i s (State.expired_state e))
  | curtailPeriodExpiry i =>
    exact W.happens (show execCurtailPeriodExpiry i s = _ from h) fun _ =>
      W.curtailPeriodEnds k i
  | recloseExpiry i =>
    exact W.happens (show execRecloseExpiry i s = _ from h) fun _ =>
      W.finish (W.recloseExpires k i)
  | stableExpiry i => exact W.happens (show execStableExpiry i s = _ from h) fun _ => W.stableExpires k i
  | periodicMeasurementComplete x =>
    exact W.happens (show execPeriodicMeasurementComplete x s = _ from h) fun _ =>
      W.periodicCompletes x s
  | gapExpiry => exact W.happens (show execGapExpiry s = _ from h) fun _ => W.startMeasurement k _ _
  | searchMeasurementComplete x =>
    exact W.happens (show execSearchMeasurementComplete x s = _ from h) fun _ =>
      W.searchCompletes x s
  | stepTimerExpiry =>
    exact W.happens (show execStepTimerExpiry s = _ from h) fun _ =>
      W.finish (W.stepTimerExpires s)
  | fireLoopClassChange x => exact W.happens (show execFireLoopClassChange x s = _ from h) fun _ => W.classChanges k x
  | fireDebounceExpiry =>
    exact W.happens (show execFireDebounceExpiry s = _ from h) fun _ =>
      W.finish (W.acceptLoop s)
  | connectedSetHoldoffExpiry =>
    exact W.happens (show execConnectedSetHoldoffExpiry s = _ from h) fun _ =>
      W.holdOffExpires s
  | coalesceExpiry p => exact W.happens (show execCoalesceExpiry p s = _ from h) fun _ => W.coalesceExpires p s
  | commitComplete => exact W.happens (show execCommitComplete s = _ from h) fun _ => W.commitCompletes s

/-- Every step keeps the relation. -/
theorem Walk.step (W : Walk I) (n : ∀ c : Instr, ∀ u : State, u.heart = s.heart → Walk.Needs I c u)
    (h : step s = .next t) : I s t := by
  unfold Machine.step at h
  split at h
  · cases h
    unfold State.tick
    exact Walk.ite (W.quiet rfl) (W.refl s)
  · next c rest _ =>
    have k : I s { s with pending := rest } := W.quiet rfl
    exact W.trans k (W.exec (n c _ rfl) h)

end Sys2Proof.Machine
end

section
/-! SUPPORT. What the blocks do to one string's record, turn by turn (R42 to R46, R51, R91, R102), and that each operation
of the sequencer is a run of such turns. -/

namespace Sys2Proof.Machine

variable {L : StringId → HoldKind → Prop} {A : HoldKind → Prop} {p z : Bool} {r r' : StringRecord} {s t u : State}
  {i j : StringId}

/-! ### Turns of a record -/

/-- One change of a record: of a string that is PRESENT or not, frozen by a search or not, from which the kinds of `A`
may be taken. -/
inductive Turn (A : HoldKind → Prop) (present frozen : Bool) : StringRecord → StringRecord → Prop
  | put {r : StringRecord} (x : Hold) (hp : present = true) (hx : x.kind ≠ .overcurrent)
      (hn : x = .search ∨ r.holds[x.kind.slot] = false) : Turn A present frozen r (r.put x)
  | fault {r : StringRecord} (kind : FaultKind) (h : r.holds[HoldKind.switch.slot] = true) :
      Turn A present frozen r { r with faultKind := some kind }
  | overcurrent {r : StringRecord} (d : OvercurrentDetail) (hp : present = true)
      (hn : r.holds[HoldKind.overcurrent.slot] = false) :
      Turn A present frozen r { r.put .overcurrent with overcurrent := some d }
  | take {r : StringRecord} (k : HoldKind) (hk : A k) (hf : frozen = true → (r.take k).holds ≠ noHolds) :
      Turn A present frozen r (r.take k)
  | freeze {r : StringRecord} (k : HoldKind) (hk : A k) (hp : present = true) :
      Turn A present frozen r ((r.take k).put .search)
  | count {r : StringRecord} (n : Nat) : Turn A present frozen r { r with overcurrentCount := n }

/-- A run of turns. -/
def TurnRun (A : HoldKind → Prop) (present frozen : Bool) : StringRecord → StringRecord → Prop :=
  Relation.ReflTransGen (Turn A present frozen)

theorem TurnRun.keeps {P : StringRecord → Prop} (h : TurnRun A p z r r') (hP : ∀ {a b}, Turn A p z a b → P a → P b)
    (hr : P r) : P r' := by
  induction h with
  | refl => exact hr
  | tail _ d ih => exact hP d ih

theorem StringRecord.exact.put (h : r.exact) (x : Hold) (hx : x.kind ≠ .overcurrent) : (r.put x).exact := by
  obtain ⟨h1, h2, h3, h4⟩ := h
  refine ⟨?_, ?_, ?_, ?_⟩ <;> rw [StringRecord.has_put]
  · cases x <;> simp [StringRecord.put, Hold.kind, h1]
  · cases x <;> simp [StringRecord.put, Hold.kind, h2]
  · cases x <;> simp [StringRecord.put, Hold.kind, h3]
  · cases x <;> simp [StringRecord.put, Hold.kind, h4]
    exact absurd rfl hx

/-- Every turn leaves lock code and details standing with their holds (R43, R44). -/
theorem Turn.exact (h : Turn A p z r r') (he : r.exact) : r'.exact := by
  cases h with
  | put x _ hx _ => exact he.put x hx
  | fault kind hs =>
    obtain ⟨h1, -, h3, h4⟩ := he
    exact ⟨h1, hs.symm, h3, h4⟩
  | overcurrent d _ _ =>
    obtain ⟨h1, h2, h3, -⟩ := he
    refine ⟨?_, ?_, ?_, ?_⟩ <;> rw [StringRecord.has_put]
    · simpa [StringRecord.put, Hold.kind] using h1
    · simpa [StringRecord.put, Hold.kind] using h2
    · simpa [StringRecord.put, Hold.kind] using h3
    · simp [Hold.kind]
  | take k _ _ => exact he.take k
  | freeze k _ _ => exact (he.take k).put .search (by decide)
  | count n => exact he

/-- A kind that may not be taken stays. -/
theorem Turn.has {k : HoldKind} (h : Turn A p z r r') (hk : ¬A k) (hr : r.holds[k.slot] = true) :
    r'.holds[k.slot] = true := by
  have keeps (x : HoldKind) (hx : A x) : (r.take x).holds[k.slot] = true := by
    rw [StringRecord.has_take, hr, Bool.and_true, decide_eq_true]
    exact fun e => hk (e ▸ hx)
  cases h with
  | put x _ _ _ => rw [StringRecord.has_put, hr, Bool.or_true]
  | fault kind _ => exact hr
  | overcurrent d _ _ =>
    change (r.put .overcurrent).holds[k.slot] = true
    rw [StringRecord.has_put, hr, Bool.or_true]
  | take x hx _ => exact keeps x hx
  | freeze x hx _ => rw [StringRecord.has_put, keeps x hx, Bool.or_true]
  | count n => exact hr

theorem StringRecord.lockCode_put (x : Hold) (hx : x.kind ≠ .svc) : (r.put x).lockCode = r.lockCode := by
  cases x <;> first | rfl | exact absurd rfl hx

theorem StringRecord.lockCode_take {k : HoldKind} (hk : k ≠ .svc) : (r.take k).lockCode = r.lockCode := by
  cases k <;> first | rfl | exact absurd rfl hk

/-- A lockout stays, with its code, where SVC may not be taken (R46). -/
theorem Turn.lockout {code : LockCode} (h : Turn A p z r r') (hk : ¬A .svc)
    (hr : r.holds[HoldKind.svc.slot] = true ∧ r.lockCode = some code) :
    r'.holds[HoldKind.svc.slot] = true ∧ r'.lockCode = some code := by
  refine ⟨h.has hk hr.1, ?_⟩
  have other (k : HoldKind) (ha : A k) : k ≠ .svc := fun e => hk (e ▸ ha)
  cases h with
  | put x _ _ hn =>
    rw [StringRecord.lockCode_put]
    · exact hr.2
    · intro e
      rcases hn with rfl | hn
      · cases e
      · have same : x.kind.slot = HoldKind.svc.slot := congrArg HoldKind.slot e
        simp [same, hr.1] at hn
  | fault kind _ => exact hr.2
  | overcurrent d _ _ => exact hr.2
  | take k ha _ => rw [StringRecord.lockCode_take (other k ha), hr.2]
  | freeze k ha _ =>
    rw [StringRecord.lockCode_put _ (by decide), StringRecord.lockCode_take (other k ha), hr.2]
  | count n => exact hr.2

theorem HoldSet.ne_noHolds {v : HoldSet} {k : HoldKind} (h : v[k.slot] = true) : v ≠ noHolds := fun e => by
  rw [e] at h
  cases k <;> cases h

/-- A string that is ABSENT gains no hold (R42). -/
theorem Turn.empty (h : Turn A false z r r') (hr : r.holds = noHolds) : r'.holds = noHolds := by
  cases h with
  | put _ hp | overcurrent _ hp | freeze _ _ hp => cases hp
  | fault kind hs => exact absurd hr (HoldSet.ne_noHolds hs)
  | take k _ _ =>
    rw [StringRecord.take_holds, hr]
    cases k <;> rfl
  | count n => exact hr

/-- A string that a search freezes stays with a hold (R51). -/
theorem Turn.frozen (h : Turn A p true r r') (hr : r.holds ≠ noHolds) : r'.holds ≠ noHolds := by
  have puts (r : StringRecord) (x : Hold) : (r.put x).holds ≠ noHolds :=
    HoldSet.ne_noHolds (k := x.kind) (by rw [StringRecord.has_put]; simp)
  cases h with
  | put x => exact puts _ x
  | fault kind hs => exact hr
  | overcurrent d => exact puts _ .overcurrent
  | take k _ hf => exact hf rfl
  | freeze k => exact puts _ .search
  | count n => exact hr

/-- A turn that leaves OVERCURRENT alone goes the same with another detail of it. -/
theorem Turn.withDetail (h : Turn A p z r r') (hk : ¬A .overcurrent) (hr : r.holds[HoldKind.overcurrent.slot] = true)
    (d : OvercurrentDetail) : Turn A p z { r with overcurrent := some d } { r' with overcurrent := some d } := by
  have taken (k : HoldKind) (ha : A k) (a : StringRecord) :
      ({ a with overcurrent := some d } : StringRecord).take k = { a.take k with overcurrent := some d } := by
    cases k <;> first | rfl | exact absurd ha hk
  have added (x : Hold) (a : StringRecord) :
      ({ a with overcurrent := some d } : StringRecord).put x = { a.put x with overcurrent := some d } := by
    cases x <;> rfl
  cases h with
  | put x hp hx hn =>
    rw [← added]
    exact .put x hp hx hn
  | fault kind hs => exact .fault kind hs
  | overcurrent e hp hn =>
    rw [hr] at hn
    cases hn
  | take k ha hf =>
    rw [← taken k ha]
    refine .take k ha fun e => ?_
    rw [taken k ha]
    exact hf e
  | freeze k ha hp =>
    rw [← added, ← taken k ha]
    exact .freeze k ha hp
  | count n => exact .count n

theorem TurnRun.withDetail (h : TurnRun A p z r r') (hk : ¬A .overcurrent)
    (hr : r.holds[HoldKind.overcurrent.slot] = true) (d : OvercurrentDetail) :
    TurnRun A p z { r with overcurrent := some d } { r' with overcurrent := some d } := by
  refine (h.keeps (P := fun a => a.holds[HoldKind.overcurrent.slot] = true ∧
    TurnRun A p z { r with overcurrent := some d } { a with overcurrent := some d }) (fun {a b} x k => ?_)
    ⟨hr, .refl⟩).2
  exact ⟨x.has hk k.1, k.2.tail (x.withDetail hk k.1 d)⟩

theorem Turn.mono {A' : HoldKind → Prop} (hA : ∀ k, A k → A' k) (h : Turn A p z r r') : Turn A' p z r r' := by
  cases h with
  | put x hp hx hn => exact .put x hp hx hn
  | fault kind hs => exact .fault kind hs
  | overcurrent d hp hn => exact .overcurrent d hp hn
  | take k ha hf => exact .take k (hA k ha) hf
  | freeze k ha hp => exact .freeze k (hA k ha) hp
  | count n => exact .count n

/-! ### Turns of all records -/

/-- A string that an active search freezes (R51). -/
def State.frozen (s : State) (i : StringId) : Bool := s.searchActive && s.present i && !s.released i

/-- What the turns of the records leave alone. -/
def State.frame (s : State) : (StringId → Bool) × Conditions × LoopState × Copies HoldRecord × Option Write ×
    SearchState × List StringId × List StringId × List StringId :=
  (s.present, s.stab.conditions, s.fli.accepted, s.cfs.holdCopies, s.cfs.writing, s.gsu.state, s.gsu.k, s.gsu.x, s.gsu.v)

/-- Each string's record goes by turns, the kinds of `L` being taken, and nothing else of the string table, its copies and
a search's released set changes. -/
structure Turns (L : StringId → HoldKind → Prop) (s t : State) : Prop where
  frame : t.frame = s.frame
  str : ∀ i, TurnRun (L i) (s.present i) (s.frozen i) (s.str i) (t.str i)

theorem State.present_of_frame (h : t.frame = s.frame) (i : StringId) : t.present i = s.present i :=
  congrFun (congrArg Prod.fst h) i

theorem State.gsu_of_frame (h : t.frame = s.frame) : t.gsu.state = s.gsu.state ∧ t.gsu.k = s.gsu.k ∧
    t.gsu.x = s.gsu.x ∧ t.gsu.v = s.gsu.v := by
  simp only [State.frame, Prod.mk.injEq] at h
  exact h.2.2.2.2.2

theorem State.released_of_frame (h : t.frame = s.frame) (i : StringId) : t.released i = s.released i := by
  obtain ⟨h1, h2, h3, h4⟩ := State.gsu_of_frame h
  rw [State.released, h1, h2, h3, h4]
  rfl

theorem State.frozen_of_frame (h : t.frame = s.frame) (i : StringId) : t.frozen i = s.frozen i := by
  rw [State.frozen, State.searchActive, (State.gsu_of_frame h).1, State.present_of_frame h,
    State.released_of_frame h]
  rfl

theorem State.frame_of_still (h : Still s t) (k : t.beyondSwitching = s.beyondSwitching) : t.frame = s.frame := by
  have h1 : t.settings = s.settings := h.settings
  have h2 : t.cfs.holdCopies = s.cfs.holdCopies := congrArg Ground.holdCopies h.ground
  have h3 : t.cfs.writing = s.cfs.writing := congrArg Ground.writing h.ground
  have h4 : t.stab.conditions = s.stab.conditions := congrArg (fun x => x.stab.conditions) k
  have h5 : t.fli.accepted = s.fli.accepted := congrArg (fun x => x.fli.accepted) k
  have h6 : (t.gsu.state, t.gsu.k, t.gsu.x, t.gsu.v) = (s.gsu.state, s.gsu.k, s.gsu.x, s.gsu.v) :=
    congrArg (fun x => (x.gsu.state, x.gsu.k, x.gsu.x, x.gsu.v)) k
  have h7 : t.present = s.present := by
    unfold State.present State.strSet
    rw [h1]
  unfold State.frame
  rw [h7, h2, h3, h4, h5, h6]

theorem State.frame_of_heart (h : t.heart = s.heart) : t.frame = s.frame := by
  have h1 : t.present = s.present := congrArg Heart.present h
  have h2 : t.cfs.holdCopies = s.cfs.holdCopies := congrArg Heart.copies h
  have h3 : t.cfs.writing = s.cfs.writing := congrArg Heart.writing h
  have h4 : t.stab.conditions = s.stab.conditions := congrArg (fun x => x.stab.conditions) h
  have h5 : t.fli.accepted = s.fli.accepted := congrArg Heart.accepted h
  have h6 : (t.gsu.state, t.gsu.k, t.gsu.x, t.gsu.v) = (s.gsu.state, s.gsu.k, s.gsu.x, s.gsu.v) :=
    congrArg Heart.search h
  unfold State.frame
  rw [h1, h2, h3, h4, h5, h6]

theorem State.str_of_heart (h : t.heart = s.heart) (i : StringId) : t.str i = s.str i :=
  congrArg (fun x => x.stab.strings[i]) h

theorem Turns.refl (s : State) : Turns L s s := ⟨rfl, fun _ => .refl⟩

theorem Turns.trans (h : Turns L s t) (k : Turns L t u) : Turns L s u := by
  refine ⟨k.frame.trans h.frame, fun i => (h.str i).trans ?_⟩
  have e := k.str i
  rwa [State.present_of_frame h.frame, State.frozen_of_frame h.frame] at e

theorem Turns.ite {c : Prop} [Decidable c] {a b : State} (ha : Turns L s a) (hb : Turns L s b) :
    Turns L s (if c then a else b) := by
  split
  · exact ha
  · exact hb

theorem Turns.mono {L' : StringId → HoldKind → Prop} (hL : ∀ i k, L i k → L' i k) (h : Turns L s t) : Turns L' s t :=
  ⟨h.frame, fun i => Relation.ReflTransGen.mono (fun _ _ => Turn.mono (hL i)) _ _ (h.str i)⟩

/-- Work that leaves the records as they are. -/
theorem Turns.same (h : t.frame = s.frame) (k : ∀ i, t.str i = s.str i) : Turns L s t :=
  ⟨h, fun i => by rw [k i]; exact .refl⟩

theorem Turns.quiet (h : t.heart = s.heart) : Turns L s t :=
  .same (State.frame_of_heart h) (State.str_of_heart h)

/-- Work that takes one string's record a turn further, or leaves it. -/
theorem Turns.one (h : t.frame = s.frame) (k : ∀ j, t.str j = s.str j ∨
    Turn (L j) (s.present j) (s.frozen j) (s.str j) (t.str j)) : Turns L s t :=
  ⟨h, fun j => by
    rcases k j with e | e
    · rw [e]; exact .refl
    · exact .single e⟩

/-! ### Additions and removals -/

theorem Turns.putHold (x : Hold) (hx : x.kind ≠ .overcurrent) (i : StringId) (s : State) :
    Turns L s (s.putHold x i) := by
  refine .one (State.frame_of_still ((Still.refl s).putHold x i) (State.putHold_beyond x i s)) fun j => ?_
  by_cases hs : x.kind = .switch
  · obtain ⟨kind, rfl⟩ : ∃ kind, x = .switch kind := by
      cases x <;> first | exact ⟨_, rfl⟩ | cases hs
    by_cases hp : s.present i = true
    · by_cases hn : s.has (Hold.switch kind).kind i = true
      · have e : (s.putHold (.switch kind) i).str j = (s.modString i fun r => { r with faultKind := some kind }).str j := by
          unfold State.putHold
          rw [if_neg (by simp [hp]), if_pos hn]
          rfl
        rw [e, State.str_modString]
        by_cases hj : j = i
        · subst hj
          rw [if_pos rfl]
          exact .inr (.fault kind hn)
        · exact .inl (if_neg hj)
      · rw [State.str_putHold _ i j s hp (Bool.eq_false_iff.2 hn)]
        by_cases hj : j = i
        · subst hj
          rw [if_pos rfl]
          exact .inr (.put _ hp hx (.inr (Bool.eq_false_iff.2 hn)))
        · exact .inl (if_neg hj)
    · left
      unfold State.putHold
      rw [if_pos (by simpa using hp)]
  · rcases State.str_putHold_or x hs i j s with e | ⟨rfl, hp, hn, e⟩
    · exact .inl e
    · rw [e]
      exact .inr (.put x hp hx (.inr hn))

/-- The record that a taken hold leaves (R51). -/
theorem State.str_taken (k : HoldKind) (i j : StringId) (s : State) :
    (s.takeHold k i).str j = s.str j ∨ (j = i ∧ (s.takeHold k i).str j =
      if s.freezes k i then ((s.str j).take k).put .search else (s.str j).take k) := by
  unfold State.takeHold
  split
  · exact .inl rfl
  · have e (v : State) (f : StringRecord → StringRecord) (hv : v.stab = (s.modString i f).stab) :
        v.str j = if j = i then f (s.str i) else s.str j := by
      rw [State.str, hv]
      exact State.str_modString i j f s
    simp only []
    rw [e _ (fun r => if s.freezes k i then (r.take k).put .search else r.take k)]
    · by_cases hj : j = i
      · subst hj
        exact .inr ⟨rfl, if_pos rfl⟩
      · exact .inl (if_neg hj)
    · cases k with
      | svc =>
        have a (v : State) : (v.abandonCapture i).stab = v.stab := congrArg Heart.stab (State.heart_abandonCapture i v)
        exact a _
      | _ => rfl

/-- What a removal can change, the records apart, is nothing of the frame. -/
theorem State.frame_takeHold (k : HoldKind) (i : StringId) (s : State) : (s.takeHold k i).frame = s.frame := by
  unfold State.takeHold
  split
  · rfl
  · cases k with
    | svc => exact (State.frame_of_heart (State.heart_abandonCapture i _)).trans rfl
    | _ => rfl

theorem Turns.takeHold (k : HoldKind) (i : StringId) (hL : L i k) (s : State) : Turns L s (s.takeHold k i) := by
  refine .one (State.frame_takeHold k i s) fun j => ?_
  rcases State.str_taken k i j s with e | ⟨rfl, e⟩
  · exact .inl e
  · rw [e]
    by_cases hf : s.freezes k j = true
    · rw [if_pos hf]
      simp only [State.freezes, Bool.and_eq_true] at hf
      exact .inr (.freeze k hL hf.1.1.2)
    · rw [if_neg hf]
      refine .inr (.take k hL fun hz hn => hf ?_)
      simp only [State.frozen, Bool.and_eq_true] at hz
      simp [State.freezes, hz.1.1, hz.1.2, hz.2, hn]

theorem Turns.modCount (i : StringId) (n : Nat) (s : State) :
    Turns L s (s.modString i fun r => { r with overcurrentCount := n }) := by
  refine .one rfl fun j => ?_
  rw [State.str_modString]
  by_cases hj : j = i
  · subst hj
    rw [if_pos rfl]
    exact .inr (.count n)
  · exact .inl (if_neg hj)

theorem Turns.enter (i : StringId) (new : SwitchState) (timer : Option Nat) (s : State) :
    Turns L s (s.enter i new timer) := by
  refine .one (State.frame_of_still ((Still.refl s).enter i new timer) (State.enter_beyond ..)) fun j => ?_
  rcases State.str_enter i j new timer s with e | ⟨-, rfl, hp, e⟩
  · exact .inl e
  · rw [e]
    exact .inr (.put .search hp (by decide) (.inl rfl))

/-! ### The arbiter's work -/

theorem Deed.turns {R : Prop} (hL : ∀ i, L i .switch) (h : Deed R (fun _ => False) s t) : Turns L s t := by
  have fr := State.frame_of_still h.still h.beyond
  cases h with
  | enter _ timer => exact Turns.enter _ _ timer s
  | @startRamp i =>
    refine .same fr fun j => ?_
    exact (State.str_enter i j .ramping _ _).resolve_right fun x => nomatch x.1
  | @takeSwitch i _ => exact Turns.takeHold .switch i (hL i) s
  | emit x i a b => exact .quiet (State.heart_emit x i a b s)
  | takeReports => exact .quiet s.heart_takeReports
  | putHold hT => exact hT.elim
  | _ => exact .same fr fun _ => rfl

theorem Deeds.turns {R : Prop} (hL : ∀ i, L i .switch) (h : Deeds R (fun _ => False) s t) : Turns L s t := by
  induction h with
  | refl => exact .refl s
  | tail _ d ih => exact ih.trans (d.turns hL)

theorem Turns.arbiter (hL : ∀ i, L i .switch) (s : State) : Turns L s s.arbiter :=
  Deeds.turns (R := True) hL ((Deeds.refl s).arbiter fun n => absurd trivial n)

end Sys2Proof.Machine
end

section
/-! SUPPORT. The sequencer's operations, additions and removals, and an overcurrent trip as turns of the records
(R50, R76 to R99, R102). -/

namespace Sys2Proof.Machine

variable {L : StringId → HoldKind → Prop} {s t u : State} {i j : StringId}

/-! ### What changes no record -/

theorem Turns.modSwitch (i : StringId) (f : Switch → Switch) (s : State) : Turns L s (s.modSwitch i f) :=
  .same rfl fun _ => rfl

theorem Turns.modSseq (f : Sseq → Sseq) (s : State) : Turns L s (s.modSseq f) := .same rfl fun _ => rfl

theorem Turns.startDwell (i : StringId) (s : State) : Turns L s (s.startDwell i) := .same rfl fun _ => rfl

theorem Turns.emit (k : EventKind) (i : Option StringId) (a b : Int) (s : State) : Turns L s (s.emit k i a b) :=
  .quiet (State.heart_emit k i a b s)

theorem Turns.takeReports (s : State) : Turns L s s.takeReports := .quiet s.heart_takeReports

theorem Turns.defer (p : Port) (code : Byte) (w : Wait) (r : StoreRecord) (ps : List Port) (s : State) :
    Turns L s ((s.startWait p code w).askCommit r ps) := .quiet rfl

theorem Turns.joinQueue (i : StringId) (m : Mark) (s : State) : Turns L s (s.joinQueue i m) := by
  unfold State.joinQueue
  exact Turns.ite (.refl s) (.modSseq _ s)

/-! ### Opening and closing -/

theorem Turns.enterCurtailWait (i : StringId) (s : State) : Turns L s (s.enterCurtailWait i) :=
  ((Turns.modSwitch i (fun w => { w with periods := 0 }) s).trans (.enter i _ _ _)).trans (.emit _ _ _ _ _)

theorem Turns.pendingOpenQ (i : StringId) (s : State) : Turns L s (s.pendingOpenQ i) := by
  have k := (Turns.enter (L := L) i .pendingOpen none s).trans (.joinQueue i .toOpen _)
  unfold State.pendingOpenQ
  exact Turns.ite k (k.trans (.enterCurtailWait i _))

theorem Turns.interruptQ (i : StringId) (s : State) : Turns L s (s.interruptQ i) := by
  have k := (Turns.modSwitch (L := L) i (fun w => { w with drive := .off }) s).trans
    (.enter i .interrupting (some (State.after (s.drive i .off) ((s.drive i .off).cfgNat .tInterrupt))) _)
  unfold State.interruptQ
  exact Turns.ite (k.trans (.pendingOpenQ i _)) k

theorem Turns.pendingCloseQ (i : StringId) (s : State) : Turns L s (s.pendingCloseQ i) := by
  unfold State.pendingCloseQ
  exact (Turns.enter i .pendingClose _ s).trans (.modSwitch i _ _)

theorem Turns.joinIfReadyQ (i : StringId) (s : State) : Turns L s (s.joinIfReadyQ i) := by
  unfold State.joinIfReadyQ
  exact Turns.ite (.joinQueue i _ s) (.refl s)

theorem Turns.testAndJoinQ (i : StringId) (s : State) : Turns L s (s.testAndJoinQ i) := by
  unfold State.testAndJoinQ
  exact Turns.ite ((Turns.modSwitch i (fun w => { w with lastTest := s.qualTest i }) s).trans (.joinIfReadyQ i _))
    (.refl s)

theorem Turns.startRamp (i : StringId) (s : State) : Turns L s (s.startRamp i) :=
  ((Turns.modSseq (fun q => { q with
    rampList := q.rampList.drop 1
    slot := some { startedAt := s.now, freeAt := s.after (s.cfgNat .tSpace) } }) s).trans (.modSwitch i _ _)).trans
    (.enter i .ramping _ _)

theorem Turns.rampStarts (n : Nat) (s : State) : Turns L s (State.rampStarts n s) := by
  induction n generalizing s with
  | zero => exact .refl s
  | succ n ih =>
    unfold State.rampStarts
    split
    · exact .refl s
    · exact Turns.ite ((Turns.startRamp _ s).trans (ih _)) (.refl s)

theorem Turns.rampTest (s : State) : Turns L s s.rampTest := Turns.rampStarts _ s

theorem Turns.acceptClosedQ (i : StringId) (s : State) : Turns L s (s.acceptClosedQ i) := by
  unfold State.acceptClosedQ
  exact Turns.ite (((Turns.enter i .rampWait none s).trans (.modSseq _ _)).trans (.rampTest _)) (.pendingOpenQ i s)

theorem Turns.arrive (i : StringId) (s : State) : Turns L s (if s.target i then s.pendingCloseQ i else s) :=
  Turns.ite (.pendingCloseQ i s) (.refl s)

theorem Turns.acceptOpenQ (i : StringId) (s : State) : Turns L s (s.acceptOpenQ i) :=
  ((((Turns.modSwitch i _ s).trans (.emit .stringIsolated (some i) 0 0 _)).trans (.enter i .opened none _)).trans
    (.takeReports _)).trans (.arrive i _)

theorem Turns.rampEnds (i : StringId) (s : State) : Turns L s (s.rampEnds i) :=
  ((Turns.modSwitch i _ s).trans (.emit .stringConnected (some i) 0 0 _)).trans (.enter i .closed none _)

/-! ### Faults and the retest -/

theorem Turns.becomeFaulted (i : StringId) (kind : FaultKind) (s : State) : Turns L s (s.becomeFaulted i kind) := by
  have k : Turns L s ((((s.drive i .off).leaveQueue i).leaveRampList i).modSwitch i fun w => { w with dwell := .stopped }) :=
    .same rfl fun _ => rfl
  exact (((k.trans (.enter i .faulted none _)).trans (.putHold (.switch kind) (fun e => nomatch e) i _)).trans
    (.takeReports _)).trans (.emit _ _ _ _ _)

theorem Turns.replaceFault (i : StringId) (kind : FaultKind) (s : State) : Turns L s (s.replaceFault i kind) :=
  ((Turns.putHold (.switch kind) (fun e => nomatch e) i s).trans (.takeReports _)).trans (.emit _ _ _ _ _)

theorem Turns.retestStepQ (i : StringId) (step : RetestStep) (s : State) : Turns L s (s.retestStepQ i step) :=
  (Turns.modSseq _ s).trans (.joinQueue i _ _)

theorem Turns.endRetest (i : StringId) (s : State) : Turns L s (s.endRetest i) := .same rfl fun _ => rfl

theorem Turns.retestFails (i : StringId) (kind : FaultKind) (s : State) : Turns L s (s.retestFails i kind) := by
  have k : Turns L s (s.leaveQueue i) := .same rfl fun _ => rfl
  exact (((k.trans (.replaceFault i kind _)).trans (.endRetest i _)).trans (.takeReports _)).trans
    (.quiet (State.heart_endUnitWait .retest _))

/-- The detail of an OVERCURRENT hold is set, and the count of its attempts. -/
theorem State.str_takeUpOvercurrent (i j : StringId) (current : Int) (time : Uptime) (s : State) :
    ∃ d n, (s.takeUpOvercurrent i current time).str j =
      if j = i then { s.str i with overcurrentCount := n, overcurrent := some d } else s.str j := by
  unfold State.takeUpOvercurrent
  simp only []
  rw [State.str_of_heart (State.heart_emitAt ..)]
  exact ⟨_, _, State.str_modString ..⟩

section Retest

variable (hL : ∀ i, L i .switch)

include hL

theorem Turns.retestSucceedsQ (i : StringId) (s : State) : Turns L s (s.retestSucceedsQ i) := by
  have k := ((((Turns.takeHold .switch i (hL i) s).trans (.endRetest i _)).trans (.startDwell i _)).trans
    (.enter i .opened none _)).trans (.takeReports _)
  unfold State.retestSucceedsQ
  simp only []
  split
  · exact (k.trans (.defer _ _ _ _ _ _)).trans (.arrive i _)
  · exact k.trans (.arrive i _)

theorem Turns.retestPassesQ (i : StringId) (step : RetestStep) (s : State) : Turns L s (s.retestPassesQ i step) := by
  cases step with
  | firstOpen => exact .retestStepQ i _ s
  | close => exact .retestStepQ i _ s
  | secondOpen => exact .retestSucceedsQ hL i s

theorem Turns.startRetest (i : StringId) (s : State) :
    Turns L s (((s.setRetestMark i true).retestStepQ i .firstOpen).arbiter) := by
  have k : Turns L s (s.setRetestMark i true) := .same rfl fun _ => rfl
  exact (k.trans (.retestStepQ i _ _)).trans (.arbiter hL _)

/-! ### Feedback and crossings -/

theorem Turns.faultedFeedback (i : StringId) (closed : Bool) (s : State) : Turns L s (s.faultedFeedback i closed) := by
  have replaced : Turns L s (if closed = true ∧ (s.str i).faultKind = some .failToClose
      then s.replaceFault i .uncommandedClosed else s) := Turns.ite (.replaceFault i _ s) (.refl s)
  unfold State.faultedFeedback
  split
  · next r _ =>
    refine Turns.ite (Turns.ite (Turns.ite ((Turns.retestPassesQ hL i r.step s).trans (.arbiter hL _)) (.refl s)) ?_)
      replaced
    split
    · exact .refl s
    · exact Turns.ite (.retestFails i _ s) (.refl s)
    · exact Turns.ite (.refl s) (.retestFails i _ s)
  · exact replaced

theorem Turns.feedbackClosed (i : StringId) (s : State) : Turns L s (s.feedbackClosed i) := by
  have k := Turns.modSseq (L := L) (fun q => { q with feedback := q.feedback.set i true }) s
  unfold State.feedbackClosed
  simp only []
  split
  · exact (k.trans (.acceptClosedQ i _)).trans (.arbiter hL _)
  · exact k.trans (.becomeFaulted i _ _)
  · exact k.trans (.becomeFaulted i _ _)
  · exact k.trans (.faultedFeedback hL i _ _)
  · exact k

theorem Turns.feedbackOpen (i : StringId) (s : State) : Turns L s (s.feedbackOpen i) := by
  have k := Turns.modSseq (L := L) (fun q => { q with feedback := q.feedback.set i false }) s
  unfold State.feedbackOpen
  simp only []
  split
  · exact (k.trans (.acceptOpenQ i _)).trans (.arbiter hL _)
  iterate 6 exact k.trans (.becomeFaulted i _ _)
  · exact k.trans (.faultedFeedback hL i _ _)
  · exact k.trans (.modSwitch i _ _)
  · exact k

theorem Turns.cross (i : StringId) (s : State) : Turns L s (s.cross i) := by
  unfold State.cross State.fellBelow State.reachedIZero
  refine Turns.ite ?_ (Turns.ite (.enterCurtailWait i s) (.refl s))
  split
  · exact (Turns.pendingOpenQ i s).trans (.arbiter hL _)
  · exact (Turns.pendingOpenQ i s).trans (.arbiter hL _)
  · exact Turns.ite (.arbiter hL s) (.refl s)

/-! ### Additions and removals, with what a changed target does -/

theorem Turns.targetTurnsOpen (i : StringId) (s : State) : Turns L s (s.targetTurnsOpen i) := by
  unfold State.targetTurnsOpen
  split
  · exact (Turns.modSseq _ s).trans (.enter i _ _ _)
  · exact ((Turns.modSseq _ s).trans (.pendingOpenQ i _)).trans (.arbiter hL _)
  · exact (Turns.interruptQ i s).trans (.arbiter hL _)
  · exact (Turns.interruptQ i s).trans (.arbiter hL _)
  · exact .refl s

theorem Turns.targetTurnsClosed (i : StringId) (s : State) : Turns L s (s.targetTurnsClosed i) := by
  unfold State.targetTurnsClosed
  split
  · exact ((Turns.pendingCloseQ i s).trans (.joinIfReadyQ i _)).trans (.arbiter hL _)
  · exact .refl s

theorem Turns.addHold (x : Hold) (hx : x.kind ≠ .overcurrent) (i : StringId) (s : State) : Turns L s (s.addHold x i) := by
  have k := Turns.putHold (L := L) x hx i s
  unfold State.addHold
  exact Turns.ite (k.trans (.targetTurnsOpen hL i _)) k

theorem Turns.removeHold (k : HoldKind) (i : StringId) (hk : L i k) (s : State) : Turns L s (s.removeHold k i) := by
  have w := Turns.takeHold k i hk s
  unfold State.removeHold
  exact Turns.ite (w.trans (.targetTurnsClosed hL i _)) w

theorem Turns.removeHolds (k : HoldKind) (xs : List StringId) (hk : ∀ i ∈ xs, L i k) (s : State) :
    Turns L s (s.removeHolds k xs) := by
  induction xs generalizing s with
  | nil => exact .refl s
  | cons i xs ih =>
    exact (Turns.removeHold hL k i (hk i List.mem_cons_self) s).trans (ih (fun j hj => hk j (List.mem_cons_of_mem _ hj)) _)

theorem Turns.addHolds (x : Hold) (hx : x.kind ≠ .overcurrent) (xs : List StringId) (s : State) :
    Turns L s (s.addHolds x xs) := by
  induction xs generalizing s with
  | nil => exact .refl s
  | cons i xs ih => exact (Turns.addHold hL x hx i s).trans (ih _)

/-! ### An overcurrent trip (R102) -/

/-- What an addition of OVERCURRENT sets going in the sequencer leaves the frame, and goes on from the record that has
gained the kind. -/
theorem Turns.overcurrentAdded (i : StringId) (s : State) :
    Turns L (s.putHold .overcurrent i) (s.addHold .overcurrent i).takeReports := by
  unfold State.addHold
  exact (Turns.ite (.targetTurnsOpen hL i _) (.refl _)).trans (.takeReports _)

theorem Turns.addOvercurrent (hO : ∀ i, ¬L i .overcurrent) (i : StringId) (current : Int) (time : Uptime) (s : State) :
    Turns L s (s.addOvercurrent i current time) := by
  unfold State.addOvercurrent
  split
  · next h =>
    obtain ⟨hp, hn⟩ := h
    have added := Turns.overcurrentAdded hL i s
    have fr : (s.putHold .overcurrent i).frame = s.frame :=
      State.frame_of_still ((Still.refl s).putHold .overcurrent i) (State.putHold_beyond ..)
    have last : ((s.addHold .overcurrent i).takeReports.takeUpOvercurrent i current time).frame
        = (s.addHold .overcurrent i).takeReports.frame := by
      unfold State.takeUpOvercurrent
      exact (State.frame_of_heart (State.heart_emitAt ..)).trans rfl
    refine ⟨(last.trans added.frame).trans fr, fun j => ?_⟩
    have run := added.str j
    rw [State.present_of_frame fr, State.frozen_of_frame fr, State.str_putHold .overcurrent i j s hp hn] at run
    obtain ⟨d, n, e⟩ := State.str_takeUpOvercurrent i j current time (s.addHold .overcurrent i).takeReports
    rw [e]
    by_cases hj : j = i
    · subst hj
      rw [if_pos rfl] at run
      rw [if_pos rfl]
      have first : Turn (L j) (s.present j) (s.frozen j) (s.str j)
          { (s.str j).put .overcurrent with overcurrent := some d } := .overcurrent d hp hn
      have rest := run.withDetail (hO j) (by rw [StringRecord.has_put]; simp [Hold.kind]) d
      exact (Relation.ReflTransGen.head first rest).tail (.count n)
    · rw [if_neg hj] at run
      rw [if_neg hj]
      exact run
  · exact .refl s

end Retest

end Sys2Proof.Machine
end

section
/-! SUPPORT. One walk through the Ground Search Unit's work: what its additions, removals and changed lists keep, the whole
of its work keeps, where no string that a search has released is frozen again but by an addition of SEARCH
(R128 to R138). -/

namespace Sys2Proof.Machine

variable {P : State → Prop} {s t u : State} {i j : StringId}

/-! ### What the unit's work is made of -/

/-- The kinds that the unit adds. -/
def Hold.ofSearch (x : Hold) : Prop := x = .search ∨ ∃ d, x = .ground d

/-- A change of an active unit's books releases every string that was released; or no search is active after it. -/
def State.Widens (s : State) (f : Gsu → Gsu) : Prop :=
  (f s.gsu).state = .idle ∨ (s.gsu.state ≠ .idle ∧ ∀ i, s.released i = true → (s.modGsu f).released i = true)

/-- The part whose search has added its last holds goes on to the end of the search (R137). -/
def State.searchEnds (r : SearchResult) (s : State) : State :=
  let s := (s.modGsu fun g => { g with timer := none }).abandonSearchMeasurement
  let s := s.modGsu fun g => { g with state := .idle }
  let s := (s.removeHolds .search (s.carriers .search)).takeReports
  let s := s.emit .searchResult none (searchValueA r s.gsu.f) s.gsu.measurements
  let s := s.startMeasurement .periodic .routine
  if r = .busSide then s.modImon fun m => { m with suppression := true } else s

theorem State.endSearch_eq (r : SearchResult) (detail : GroundDetail) (held : List StringId) (s : State) :
    s.endSearch r detail held = ((s.addHolds (.ground detail) held).takeReports).searchEnds r := rfl

/-- The part as a search begins, before its additions (R129). -/
def State.begun (cause : Nat) (s : State) : State :=
  let s := s.modGsu fun _ => { idleGsu with p := s.closedSet, state := .isolate }
  let s := s.modImon fun m => { m with inFlight := none, gap := none }
  s.emit .searchStarted none cause s.gsu.p.length

theorem State.begun_eq (cause : Nat) (s : State) : ∃ m g, s.begun cause = { s with
    gsu := { idleGsu with p := s.closedSet, state := .isolate }, imon := m, evr := { s.evr with ring := g } } := by
  unfold State.begun
  obtain ⟨g, e⟩ := State.emit_eq .searchStarted none cause
    ((s.modGsu fun _ => { idleGsu with p := s.closedSet, state := .isolate }).modImon
      fun m => { m with inFlight := none, gap := none }).gsu.p.length
    ((s.modGsu fun _ => { idleGsu with p := s.closedSet, state := .isolate }).modImon
      fun m => { m with inFlight := none, gap := none })
  exact ⟨_, g, e⟩

theorem State.startSearch_eq (cause : Nat) (s : State) : s.startSearch cause =
    if (s.begun cause).gsu.p.isEmpty
    then (((s.begun cause).addHolds (.ground .busSide) (s.begun cause).presentSet).takeReports).searchEnds .busSide
    else ((s.begun cause).addHolds .search (s.begun cause).presentSet).takeReports := by
  unfold State.startSearch State.endBusSide State.begun
  simp only [State.endSearch_eq]

/-- What the unit's additions, removals and changes of its books keep. -/
structure Seek (P : State → Prop) : Prop where
  addHold : ∀ {s} (x : Hold) (j : StringId), x.ofSearch → P s → P (s.addHold x j)
  removeHold : ∀ {s} (j : StringId), P s → P (s.removeHold .search j)
  takeReports : ∀ {s}, P s → P s.takeReports
  emit : ∀ {s} (k : EventKind) (x : Option StringId) (a b : Int), P s → P (s.emit k x a b)
  modImon : ∀ {s} (f : Imon → Imon), P s → P (s.modImon f)
  widen : ∀ {s} (f : Gsu → Gsu), s.Widens f → P s → P (s.modGsu f)
  regroup : ∀ {s} (f : Gsu → Gsu) (xs : List StringId), (s.gsu.state = .idle → (f s.gsu).state = .idle) →
    (∀ i, s.released i = true → (s.modGsu f).released i = false → i ∈ xs) → P s →
    P ((s.modGsu f).addHolds .search xs)
  start : ∀ {s} (cause : Nat) (x : Hold), x.ofSearch → P s →
    P ((s.begun cause).addHolds x (s.begun cause).presentSet)

/-- A change of the unit's books that touches neither its state nor its lists. -/
theorem State.widens_same {f : Gsu → Gsu} (s : State)
    (h : ((f s.gsu).state, (f s.gsu).k, (f s.gsu).x, (f s.gsu).v) = (s.gsu.state, s.gsu.k, s.gsu.x, s.gsu.v)) :
    s.Widens f := by
  simp only [Prod.mk.injEq] at h
  obtain ⟨h1, h2, h3, h4⟩ := h
  by_cases hs : s.gsu.state = .idle
  · exact .inl (h1.trans hs)
  · refine .inr ⟨hs, fun i hi => ?_⟩
    rw [State.released, State.modGsu_gsu, h1, h2, h3, h4]
    exact hi

/-- The books between two steps of a search: no string is released beyond K (R131 to R134). -/
def Gsu.Between (g : Gsu) : Prop :=
  (g.state = .isolate ∨ g.state = .busCheck ∨ ((g.state = .probeSwitch ∨ g.state = .probeMeasure) ∧ g.x = []))

theorem State.released_between (h : s.gsu.Between) (i : StringId) : s.released i = s.gsu.k.contains i := by
  unfold State.released
  rcases h with h | h | ⟨h | h, hx⟩ <;> simp [h]
  all_goals simp [hx]

/-- Between two steps every change of the books that keeps K widens. -/
theorem State.widens_between {f : Gsu → Gsu} (h : s.gsu.Between) (hk : (f s.gsu).k = s.gsu.k)
    (hi : (f s.gsu).state ≠ .idle) : s.Widens f := by
  refine .inr ⟨by rcases h with h | h | ⟨h | h, -⟩ <;> simp [h], fun i hr => ?_⟩
  rw [State.released_between h] at hr
  rw [State.released, State.modGsu_gsu, hk, hr]
  cases e : (f s.gsu).state with
  | idle => exact absurd e hi
  | _ => simp

theorem Gsu.Between.of_beyond (h : s.gsu.Between) (e : t.beyondSwitching = s.beyondSwitching) : t.gsu.Between := by
  have h1 : t.gsu.state = s.gsu.state := State.gsu_of_beyond e
  have h2 : t.gsu.x = s.gsu.x := congrArg (fun x => x.gsu.x) e
  unfold Gsu.Between
  rw [h1, h2]
  exact h

/-- A string that an exclusion freezes again is among those excluded (R132, R135). -/
theorem State.released_exclude {xs : List StringId} (s : State) (hr : s.released i = true)
    (hn : (s.modGsu fun g => g.exclude xs).released i = false) : i ∈ xs := by
  by_contra hi
  have keeps (ys : List StringId) (m : ys.contains i = true) : (minus ys xs).contains i = true :=
    List.contains_iff_mem.2 (mem_minus.2 ⟨List.contains_iff_mem.1 m, hi⟩)
  unfold State.released at hr hn
  simp only [State.modGsu_gsu, Gsu.exclude] at hn
  cases hs : s.gsu.state <;> simp only [hs, Bool.or_eq_true, Bool.or_eq_false_iff] at hr hn
  · exact absurd hr (by simp)
  · rw [hr] at hn; cases hn
  · rw [hr] at hn; cases hn
  all_goals
    obtain ⟨hk, hx⟩ := hn
    rcases hr with hr | hr
    · rw [hr] at hk; cases hk
    · rw [keeps _ hr] at hx; cases hx

/-- A string that a discarded measurement freezes again is among those that left (R136). -/
theorem State.released_again {leavers : List StringId}
    (hs : s.gsu.state = .probeMeasure ∨ s.gsu.state = .verifyMeasure ∨ s.gsu.state = .busCheck)
    (hr : s.released i = true)
    (hn : (s.modGsu fun g => { g.exclude leavers with state := g.state.again }).released i = false) : i ∈ leavers := by
  refine s.released_exclude hr ?_
  unfold State.released at hn ⊢
  simp only [State.modGsu_gsu, Gsu.exclude] at hn ⊢
  rcases hs with e | e | e <;> simpa [e, SearchState.again] using hn

/-- A string that a low probe freezes again is one of X (R133). -/
theorem State.released_narrowed {c : List StringId} (hs : s.gsu.state = .probeMeasure) (hr : s.released i = true)
    (hn : (s.modGsu fun g => { g with c := c, state := .isolate }).released i = false) : i ∈ s.gsu.x := by
  simp only [State.released, State.modGsu_gsu, hs, Bool.or_eq_true] at hr hn
  exact List.contains_iff_mem.1 (hr.resolve_left (Bool.eq_false_iff.1 hn))

/-! ### The walk -/

namespace Seek

variable (o : Seek P)

include o

theorem addHolds (x : Hold) (hx : x.ofSearch) (xs : List StringId) (h : P s) : P (s.addHolds x xs) := by
  induction xs generalizing s with
  | nil => exact h
  | cons y ys ih => exact ih (o.addHold x y hx h)

theorem removeHolds (xs : List StringId) (h : P s) : P (s.removeHolds .search xs) := by
  induction xs generalizing s with
  | nil => exact h
  | cons y ys ih => exact ih (o.removeHold y h)

theorem startStepTimer (h : P s) : P s.startStepTimer := o.widen _ (s.widens_same rfl) h

theorem startMeasurement (w : Owner) (q : Purpose) (h : P s) : P (s.startMeasurement w q) := o.modImon _ h

theorem abandonSearchMeasurement (h : P s) : P s.abandonSearchMeasurement := o.modImon _ h

theorem searchEnds (r : SearchResult) (h : P s) : P (s.searchEnds r) := by
  have k2 := o.abandonSearchMeasurement (o.widen (fun g => { g with timer := none }) (s.widens_same rfl) h)
  have k3 := o.widen (fun g => { g with state := .idle }) (.inl rfl) k2
  have k4 (xs : List StringId) := o.takeReports (o.removeHolds xs k3)
  unfold State.searchEnds
  simp only []
  split
  · exact o.modImon _ (o.modImon _ (o.emit _ _ _ _ (k4 _)))
  · exact o.modImon _ (o.emit _ _ _ _ (k4 _))

theorem endSearch (r : SearchResult) (detail : GroundDetail) (held : List StringId) (h : P s) :
    P (s.endSearch r detail held) := by
  rw [State.endSearch_eq]
  exact o.searchEnds r (o.takeReports (o.addHolds _ (.inr ⟨detail, rfl⟩) held h))

theorem abortSearch (h : P s) : P s.abortSearch := by
  unfold State.abortSearch
  split
  · exact o.endSearch _ _ _ h
  · exact h

/-- A measurement is asked for in a state that releases the same strings. -/
theorem searchMeasure (st : SearchState) (h : P s)
    (hs : s.Widens fun g => { g with state := st, timer := none, measurements := g.measurements + 1 }) :
    P (s.searchMeasure st) := o.startMeasurement _ _ (o.widen _ hs h)

theorem verify (hb : s.gsu.Between) (h : P s) : P s.verify := by
  have w : s.Widens fun g => { g with
      v := minus s.gsu.openSet (s.faultedOf s.gsu.openSet), e := union g.e (s.faultedOf s.gsu.openSet) } :=
    State.widens_between hb rfl (by rcases hb with e | e | ⟨e | e, -⟩ <;> simp [e])
  have k := o.widen _ w h
  have b : (s.modGsu fun g => { g with
      v := minus s.gsu.openSet (s.faultedOf s.gsu.openSet)
      e := union g.e (s.faultedOf s.gsu.openSet) }).gsu.Between := hb
  unfold State.verify
  simp only []
  split
  · exact o.endSearch _ _ _ k
  · exact o.startStepTimer (o.removeHolds _ (o.widen _ (State.widens_between b rfl (fun e => nomatch e)) k))

theorem locate (i : StringId) (hb : s.gsu.Between) (h : P s) : P (s.locate i) := by
  have k := o.takeReports (o.removeHold i (o.takeReports (o.addHold (.ground .located) i (.inr ⟨_, rfl⟩) h)))
  have e : (((s.addHold (.ground .located) i).takeReports.removeHold .search i).takeReports).gsu.Between :=
    hb.of_beyond (by
      rw [State.takeReports_beyond, State.removeHold_beyond _ _ _ (by decide), State.takeReports_beyond,
        State.addHold_beyond])
  unfold State.locate
  simp only []
  generalize ((s.addHold (.ground .located) i).takeReports.removeHold .search i).takeReports = v at k e ⊢
  refine o.verify ?_ (o.widen _ (State.widens_between e rfl ?_) k)
  · rcases e with e | e | ⟨e, hx⟩
    · exact .inl e
    · exact .inr (.inl e)
    · exact .inr (.inr ⟨e, by simp [minus, hx]⟩)
  · rcases e with e | e | ⟨e | e, -⟩ <;> simp [e]

theorem narrowSteps (n : Nat) (hb : s.gsu.Between) (h : P s) : P (State.narrowSteps n s) := by
  induction n generalizing s with
  | zero => exact h
  | succ n ih =>
    have hi : s.gsu.state ≠ .idle := by rcases hb with e | e | ⟨e | e, -⟩ <;> simp [e]
    have k := o.widen (fun g => { g with
      x := minus (firstHalf s.gsu.c) (s.faultedOf (firstHalf s.gsu.c))
      c := minus g.c (s.faultedOf (firstHalf s.gsu.c)), e := union g.e (s.faultedOf (firstHalf s.gsu.c)) })
      (State.widens_between hb rfl hi) h
    have state : s.gsu.state = .isolate ∨ s.gsu.state = .busCheck ∨
        s.gsu.state = .probeSwitch ∨ s.gsu.state = .probeMeasure := by
      rcases hb with e | e | ⟨e | e, -⟩ <;> simp [e]
    unfold State.narrowSteps
    simp only []
    split
    · next hx =>
      have b : (s.modGsu fun g => { g with
          x := minus (firstHalf s.gsu.c) (s.faultedOf (firstHalf s.gsu.c))
          c := minus g.c (s.faultedOf (firstHalf s.gsu.c))
          e := union g.e (s.faultedOf (firstHalf s.gsu.c)) }).gsu.Between := by
        have hx' := List.isEmpty_iff.1 hx
        rcases state with e | e | e
        · exact .inl e
        · exact .inr (.inl e)
        · exact .inr (.inr ⟨e, hx'⟩)
      split
      · exact o.endSearch _ _ _ k
      · exact o.locate _ b k
      · exact ih b k
    · refine o.startStepTimer (o.removeHolds _ (o.widen _ (.inr ⟨hi, fun i hr => ?_⟩) k))
      unfold State.released at hr ⊢
      simp only [State.modGsu_gsu] at hr ⊢
      rcases state with e | e | e | e <;> rw [e] at hr <;> simp only [Bool.or_eq_true] at hr ⊢
      · exact .inl hr
      · exact .inl hr
      · exact hr
      · exact hr

theorem goOn (hb : s.gsu.Between) (h : P s) : P s.goOn := by
  unfold State.goOn
  split
  · exact o.endSearch _ _ _ h
  · exact o.locate _ hb h
  · exact o.narrowSteps _ hb h

theorem excludeAndGoOn (xs : List StringId) (h : P s) : P (s.excludeAndGoOn xs) := by
  have k := o.takeReports (o.regroup (fun g => g.exclude xs) xs id (fun i hr hn => s.released_exclude hr hn) h)
  unfold State.excludeAndGoOn
  simp only []
  split
  · next hs =>
    split
    · next hx => exact o.goOn (.inr (.inr ⟨.inl hs, List.isEmpty_iff.1 hx⟩)) k
    · exact k
  · unfold State.goOnVerifying
    split
    · exact o.endSearch _ _ _ k
    · exact k
  · exact k

theorem discard (leavers : List StringId)
    (hs : s.gsu.state = .probeMeasure ∨ s.gsu.state = .verifyMeasure ∨ s.gsu.state = .busCheck) (h : P s) :
    P (s.discard leavers) := by
  have k := o.takeReports (o.regroup (s := s.abandonSearchMeasurement) (fun g => { g.exclude (leavers.filter fun i =>
      s.gsu.measuringSet.contains i && !s.gsu.k.contains i) with state := g.state.again })
    (leavers.filter fun i => s.gsu.measuringSet.contains i && !s.gsu.k.contains i)
    (fun e => by rcases hs with m | m | m <;> cases m.symm.trans e) (fun i hr hn => State.released_again hs hr hn)
    (o.abandonSearchMeasurement h))
  unfold State.discard
  simp only []
  split
  · exact o.endSearch _ _ _ k
  · have k2 := o.widen (fun g => { g with restarts := g.restarts + 1 }) (State.widens_same _ rfl) k
    split
    · next e =>
      split
      · next hx => exact o.goOn (.inr (.inr ⟨.inl e, List.isEmpty_iff.1 hx⟩)) k2
      · exact o.startStepTimer k2
    · split
      · exact o.endSearch _ _ _ k2
      · exact o.startStepTimer k2
    · exact k2

theorem repeatMeasurement (h : P s) : P s.repeatMeasurement := by
  unfold State.repeatMeasurement
  split
  · exact o.endSearch _ _ _ h
  · exact o.searchMeasure _ (o.widen _ (s.widens_same rfl) h) (State.widens_same _ rfl)

theorem startSearch (cause : Nat) (h : P s) : P (s.startSearch cause) := by
  rw [State.startSearch_eq]
  split
  · exact o.searchEnds _ (o.takeReports (o.start cause _ (.inr ⟨_, rfl⟩) h))
  · exact o.takeReports (o.start cause _ (.inl rfl) h)

theorem judgeSearch (reading : Nat) (h : P s) : P (s.judgeSearch reading) := by
  have again := o.repeatMeasurement h
  unfold State.judgeSearch
  simp only []
  split
  · next hs =>
    split
    · exact o.goOn (.inr (.inl hs)) (o.widen _ (s.widens_same rfl) h)
    · split
      · exact o.endSearch _ _ _ h
      · exact again
  · next hs =>
    have active : s.gsu.state ≠ .idle := by simp [hs]
    split
    · exact o.regroup _ _ (fun e => absurd e active)
        (fun i hr hn => by simpa [State.released, hs] using State.released_narrowed hs hr hn) h
    · split
      · refine o.goOn (.inr (.inr ⟨.inr hs, rfl⟩)) (o.widen _ (.inr ⟨active, fun i hr => ?_⟩) h)
        simpa [State.released, hs, mem_union] using hr
      · exact again
  · next hs =>
    split
    · exact o.endSearch _ _ _ h
    · split
      · split
        · refine o.regroup _ _ (by simp [hs]) (fun i hr hn => ?_) h
          simp only [State.released, State.modGsu_gsu, hs, Bool.or_eq_true] at hr hn
          exact List.contains_iff_mem.1 (hr.resolve_left (Bool.eq_false_iff.1 hn))
        · exact o.endSearch _ _ _ h
      · exact again
  · exact h

theorem searchMeasured (reading : Nat) (h : P s) : P (s.searchMeasured reading) := o.judgeSearch reading (o.modImon _ h)

theorem stepTimerExpires (h : P s) : P s.stepTimerExpires := o.excludeAndGoOn _ (o.widen _ (s.widens_same rfl) h)

theorem takeUpLeavers (h : P s) : P s.takeUpLeavers := by
  have k := o.widen (fun g => { g with left := [] }) (s.widens_same rfl) h
  unfold State.takeUpLeavers
  simp only []
  split
  · next hs =>
    split
    · exact o.discard _ (.inl hs) k
    · exact k
  · next hs =>
    split
    · exact o.discard _ (.inr (.inl hs)) k
    · exact k
  · next hs =>
    split
    · exact o.discard _ (.inr (.inr hs)) k
    · exact k
  iterate 2
    · split
      · exact o.excludeAndGoOn _ k
      · exact k
  · exact k

theorem searchProgress (h : P s) (hu : s.searchProgress = some t) : P t := by
  have measured {st st' : SearchState} (hs : s.gsu.state = st) (ha : st ≠ .idle)
      (hw : ∀ i, s.released i = true → (match st' with
        | .idle => false
        | .isolate | .busCheck => s.gsu.k.contains i
        | .probeSwitch | .probeMeasure => s.gsu.k.contains i || s.gsu.x.contains i
        | .verifySwitch | .verifyMeasure => s.gsu.k.contains i || s.gsu.v.contains i) = true) :
      P (s.searchMeasure st') := o.searchMeasure st' h (.inr ⟨hs ▸ ha, hw⟩)
  unfold State.searchProgress at hu
  split at hu
  · exact Option.some.inj hu ▸ o.takeUpLeavers h
  · split at hu
    · next hs =>
      split at hu
      · cases hu
        split
        · exact o.goOn (.inl hs) h
        · exact measured hs (fun e => nomatch e) fun i hr => by simpa [State.released, hs] using hr
      · cases hu
    · next hs =>
      split at hu
      · next hx => exact Option.some.inj hu ▸ o.goOn (.inr (.inr ⟨.inl hs, List.isEmpty_iff.1 hx⟩)) h
      · split at hu
        · exact Option.some.inj hu ▸ measured hs (fun e => nomatch e) fun i hr => by simpa [State.released, hs] using hr
        · cases hu
    · next hs =>
      split at hu
      · exact Option.some.inj hu ▸ o.endSearch _ _ _ h
      · split at hu
        · exact Option.some.inj hu ▸ measured hs (fun e => nomatch e) fun i hr => by simpa [State.released, hs] using hr
        · cases hu
    · cases hu

theorem settle (h : P s) : P s.settle := by
  have steps (n : Nat) : ∀ s : State, P s → P (State.settleSteps n s) := by
    induction n with
    | zero => exact fun s h => h
    | succ n ih =>
      intro s h
      unfold State.settleSteps
      split
      · next u hu => exact ih _ (o.takeReports (o.searchProgress h hu))
      · exact h
  exact steps settleLimit s h

end Seek

end Sys2Proof.Machine
end

section
/-! SUPPORT. The String Table and its stored copies through every command: lock codes and details with their holds, the
conditions' holds on every present string, RETIRED and the lockouts (R42 to R49, R66 to R70, R152, R177). -/

namespace Sys2Proof.Machine

variable {L : StringId → HoldKind → Prop} {F : Prop} {E : StringId → LockCode → Prop} {s t u : State} {i j : StringId}

/-! ### Runs of turns, whatever a search releases -/

/-- What the string table's statements speak of beside the records. -/
def State.table (s : State) : (StringId → Bool) × Conditions × LoopState × Copies HoldRecord × Option Write :=
  (s.present, s.stab.conditions, s.fli.accepted, s.cfs.holdCopies, s.cfs.writing)

/-- Each string's record goes by turns, the kinds of `L` being taken, and nothing else of the string table and its copies
changes. -/
structure Runs (L : StringId → HoldKind → Prop) (s t : State) : Prop where
  table : t.table = s.table
  str : ∀ i, TurnRun (L i) (s.present i) false (s.str i) (t.str i)

theorem Turn.thaw {A : HoldKind → Prop} {p z : Bool} {r r' : StringRecord} (h : Turn A p z r r') :
    Turn A p false r r' := by
  cases h with
  | put x hp hx hn => exact .put x hp hx hn
  | fault kind hs => exact .fault kind hs
  | overcurrent d hp hn => exact .overcurrent d hp hn
  | take k ha _ => exact .take k ha fun e => nomatch e
  | freeze k ha hp => exact .freeze k ha hp
  | count n => exact .count n

theorem State.table_of_frame (h : t.frame = s.frame) : t.table = s.table := by
  simp only [State.frame, Prod.mk.injEq] at h
  obtain ⟨h1, h2, h3, h4, h5, -⟩ := h
  unfold State.table
  rw [h1, h2, h3, h4, h5]

theorem Turns.runs (h : Turns L s t) : Runs L s t :=
  ⟨State.table_of_frame h.frame, fun i => Relation.ReflTransGen.mono (fun _ _ => Turn.thaw) _ _ (h.str i)⟩

theorem State.present_of_table (h : t.table = s.table) (i : StringId) : t.present i = s.present i :=
  congrFun (congrArg Prod.fst h) i

theorem Runs.refl (s : State) : Runs L s s := ⟨rfl, fun _ => .refl⟩

theorem Runs.trans (h : Runs L s t) (k : Runs L t u) : Runs L s u := by
  refine ⟨k.table.trans h.table, fun i => (h.str i).trans ?_⟩
  have e := k.str i
  rwa [State.present_of_table h.table] at e

theorem Runs.quiet (h : t.heart = s.heart) : Runs L s t := (Turns.quiet h).runs

theorem Runs.modGsu (f : Gsu → Gsu) (s : State) : Runs L s (s.modGsu f) := ⟨rfl, fun _ => .refl⟩

theorem Hold.ofSearch.kinds {x : Hold} (h : x.ofSearch) : x.kind ≠ .switch ∧ x.kind ≠ .overcurrent := by
  rcases h with rfl | ⟨d, rfl⟩ <;> exact ⟨(fun e => nomatch e), (fun e => nomatch e)⟩

/-- The search's work is runs of turns. -/
theorem Runs.seek (hL : ∀ i, L i .switch ∧ L i .search) (s : State) : Seek (Runs L s) where
  addHold x j hx h := h.trans (Turns.addHold (fun i => (hL i).1) x hx.kinds.2 j _).runs
  removeHold j h := h.trans (Turns.removeHold (fun i => (hL i).1) .search j (hL j).2 _).runs
  takeReports h := h.trans (Turns.takeReports _).runs
  emit k x a b h := h.trans (Turns.emit k x a b _).runs
  modImon f h := h.trans (.quiet rfl)
  widen f _ h := h.trans (.modGsu f _)
  regroup f xs _ _ h := (h.trans (.modGsu f _)).trans (Turns.addHolds (fun i => (hL i).1) .search (by decide) xs _).runs
  start cause x hx h := by
    refine (h.trans ?_).trans (Turns.addHolds (fun i => (hL i).1) x hx.kinds.2 _ _).runs
    obtain ⟨m, g, e⟩ := State.begun_eq cause _
    rw [e]
    exact ⟨rfl, fun _ => .refl⟩

/-! ### What a run leaves -/

theorem Runs.exact (h : Runs L s t) (hs : ∀ i, (s.str i).exact) (i : StringId) : (t.str i).exact :=
  (h.str i).keeps Turn.exact (hs i)

theorem Runs.has {k : HoldKind} (h : Runs L s t) (hk : ¬L i k) (hs : s.has k i = true) : t.has k i = true :=
  (h.str i).keeps (P := fun r => r.holds[k.slot] = true) (fun x => x.has hk) hs

theorem Runs.lockout {code : LockCode} (h : Runs L s t) (hk : ¬L i .svc)
    (hs : s.has .svc i = true ∧ (s.str i).lockCode = some code) : t.has .svc i = true ∧ (t.str i).lockCode = some code :=
  (h.str i).keeps (P := fun r => r.holds[HoldKind.svc.slot] = true ∧ r.lockCode = some code) (fun x => x.lockout hk) hs

theorem Runs.empty (h : Runs L s t) (hp : s.present i = false) (hs : (s.str i).holds = noHolds) :
    (t.str i).holds = noHolds := by
  have k := h.str i
  rw [hp] at k
  exact k.keeps (P := fun r => r.holds = noHolds) Turn.empty hs

/-! ### What a command leaves -/

/-- The two clauses of `conditionsCover` that do not speak of the fire loop (R42, R47). -/
def State.covers (s : State) : Prop :=
  (∀ i, s.present i = false → (s.str i).holds = noHolds) ∧
  ∀ kc ∈ s.stab.conditions.standing, kc.2 = true → ∀ i, s.present i = true → s.has kc.1 i = true

/-- The fire condition stands in ALARM and LOOP_FAULT (R152). -/
def State.alarms (s : State) : Prop :=
  s.fli.accepted = .alarm ∨ s.fli.accepted = .loopFault → s.stab.conditions.fire = true

theorem State.conditionsCover_iff (s : State) : s.conditionsCover ↔ s.covers ∧ s.alarms :=
  ⟨fun ⟨h1, h2, h3⟩ => ⟨⟨h1, h2⟩, h3⟩, fun ⟨⟨h1, h2⟩, h3⟩ => ⟨h1, h2, h3⟩⟩

/-- One state comes of another by work that leaves the string table and its copies in order; but for `F` no string loses
RETIRED, and but for the strings of `E` none its lockout. -/
structure Tabled (F : Prop) (E : StringId → LockCode → Prop) (s t : State) : Prop where
  exact : s.detailsExact → t.detailsExact
  cover : s.conditionsCover → t.conditionsCover
  retired : ¬F → ∀ i, s.has .retired i = true → t.has .retired i = true
  lockout : ∀ i code, ¬E i code → s.has .svc i = true ∧ (s.str i).lockCode = some code →
    t.has .svc i = true ∧ (t.str i).lockCode = some code

/-- The kinds that commands take at any time from any string. -/
def Loseable (_ : StringId) (k : HoldKind) : Prop := k ∉ conditionKinds ∧ k ≠ .svc ∧ k ≠ .retired

theorem Tabled.refl (s : State) : Tabled F E s s := ⟨id, id, fun _ _ => id, fun _ _ _ => id⟩

theorem Tabled.trans (h : Tabled F E s t) (k : Tabled F E t u) : Tabled F E s u :=
  ⟨fun x => k.exact (h.exact x), fun x => k.cover (h.cover x), fun hf i x => k.retired hf i (h.retired hf i x),
    fun i c he x => k.lockout i c he (h.lockout i c he x)⟩

theorem standing_kind {c : Conditions} {kc : HoldKind × Bool} (h : kc ∈ c.standing) : kc.1 ∈ conditionKinds := by
  simp only [Conditions.standing, List.mem_cons, List.not_mem_nil, or_false] at h
  rcases h with rfl | rfl | rfl | rfl <;> simp [conditionKinds]

/-- The exactness of the copies and of a write is a matter of what a run does not change. -/
theorem Runs.detailsExact (h : Runs L s t) (hs : s.detailsExact) : t.detailsExact := by
  obtain ⟨h1, h2, h3⟩ := hs
  have e := h.table
  simp only [State.table, Prod.mk.injEq] at e
  obtain ⟨-, -, -, e4, e5⟩ := e
  refine ⟨h.exact h1, ?_, ?_⟩
  · rw [e4]
    exact h2
  · rw [e5]
    exact h3

theorem Runs.covers (h : Runs L s t) (hC : ∀ i, ∀ k ∈ conditionKinds, ¬L i k) (hs : s.covers) : t.covers := by
  have e := h.table
  simp only [State.table, Prod.mk.injEq] at e
  obtain ⟨e1, e2, -⟩ := e
  refine ⟨fun i hp => h.empty (e1 ▸ hp) (hs.1 i (e1 ▸ hp)), fun kc hkc hk i hp => ?_⟩
  rw [e2] at hkc
  exact h.has (hC i _ (standing_kind hkc)) (hs.2 kc hkc hk i (e1 ▸ hp))

theorem Runs.alarms (h : Runs L s t) (hs : s.alarms) : t.alarms := by
  have e := h.table
  simp only [State.table, Prod.mk.injEq] at e
  obtain ⟨-, e2, e3, -⟩ := e
  unfold State.alarms
  rw [e2, e3]
  exact hs

theorem Runs.tabled (h : Runs L s t) (hC : ∀ i, ∀ k ∈ conditionKinds, ¬L i k) (hR : ¬F → ∀ i, ¬L i .retired)
    (hS : ∀ i code, ¬E i code → ¬L i .svc) : Tabled F E s t :=
  ⟨h.detailsExact, fun x => t.conditionsCover_iff.2 ⟨h.covers hC (s.conditionsCover_iff.1 x).1,
    h.alarms (s.conditionsCover_iff.1 x).2⟩, fun hf i => h.has (hR hf i), fun i code he => h.lockout (hS i code he)⟩

theorem Runs.keep (h : Runs Loseable s t) : Tabled F E s t :=
  h.tabled (fun _ _ hk m => m.1 hk) (fun _ _ m => m.2.2 rfl) fun _ _ _ m => m.2.1 rfl

theorem Turns.keep (h : Turns Loseable s t) : Tabled F E s t := h.runs.keep

theorem loseable {k : HoldKind} (i : StringId) (h : k ∈ freeKinds ∨ k = .switch ∨ k = .search) : Loseable i k := by
  simp only [freeKinds, List.mem_cons, List.not_mem_nil, or_false] at h
  unfold Loseable
  rcases h with (rfl | rfl | rfl | rfl | rfl | rfl) | rfl | rfl <;> decide

theorem loseable_switch (i : StringId) : Loseable i .switch := loseable i (.inr (.inl rfl))

theorem Loseable.seek (s : State) : Seek (Runs Loseable s) :=
  Runs.seek (fun i => ⟨loseable_switch i, loseable i (.inr (.inr rfl))⟩) s

/-! ### Conditions (R47, R64, R65, R148, R150, R152, R153) -/

/-- A hold added to present strings is on them. -/
theorem State.has_addHolds (x : Hold) (hs : x.kind ≠ .switch) (ho : x.kind ≠ .overcurrent) (xs : List StringId)
    (hi : i ∈ xs) (s : State) (hp : s.present i = true) : (s.addHolds x xs).has x.kind i = true := by
  have others (_ : StringId) : HoldKind.switch = .switch := rfl
  have rest (ys : List StringId) (u : State) := (Turns.addHolds (L := fun _ k => k = .switch) others x ho ys u).runs
  induction xs generalizing s with
  | nil => cases hi
  | cons y ys ih =>
    have here := Turns.addHold (L := fun _ k => k = .switch) others x ho y s
    rcases List.mem_cons.1 hi with rfl | hi
    · refine (rest ys _).has hs ?_
      have k := State.has_putHold hs hp
      unfold State.addHold
      simp only []
      split
      · exact (Turns.targetTurnsOpen (L := fun _ k => k = .switch) others i (s.putHold x i)).runs.has hs k
      · exact k
    · exact ih hi _ ((State.present_of_frame here.frame i).trans hp)

theorem State.mem_presentSet (s : State) (i : StringId) : i ∈ s.presentSet ↔ s.present i = true := by
  simpa [State.presentSet, stringsWhere] using fun _ => List.contains_iff_mem.1 (mem_allStrings i)

/-- A condition that comes to stand, its hold on every present string, covers them with the others. -/
theorem State.covers_raised {f : Conditions → Conditions} {k : HoldKind}
    (hf : ∀ c : Conditions, ∀ kc ∈ (f c).standing, kc ∈ c.standing ∨ kc.1 = k) (hs : s.covers)
    (h : Runs Loseable (s.modStab fun t => { t with conditions := f t.conditions }) t)
    (all : ∀ i, s.present i = true → t.has k i = true) : t.covers := by
  have e := h.table
  simp only [State.table, Prod.mk.injEq] at e
  obtain ⟨e1, e2, -⟩ := e
  refine ⟨fun i hp => h.empty (e1 ▸ hp) (hs.1 i (e1 ▸ hp)), fun kc hkc hk i hp => ?_⟩
  rw [e2] at hkc
  rcases hf _ kc hkc with m | m
  · exact h.has (fun x => x.1 (standing_kind m)) (hs.2 kc m hk i (e1 ▸ hp))
  · rw [m]
    exact all i (e1 ▸ hp)

end Sys2Proof.Machine
end

section
/-! SUPPORT. The array conditions, a string made PRESENT and the writes of the hold record, for the string table and its
copies; and the walk through every command (R47, R64, R65, R70, R148 to R153, R177, R178). -/

namespace Sys2Proof.Machine

variable {L : StringId → HoldKind → Prop} {F : Prop} {E : StringId → LockCode → Prop} {s t u : State} {i j : StringId}

/-! ### Conditions that come to stand -/

theorem Turns.emitHoldChanged (k : HoldKind) (added : Bool) (cause : ChangeCause) (changed : List StringId)
    (s : State) : Turns L s (s.emitHoldChanged k added cause changed) := by
  unfold State.emitHoldChanged
  split
  · exact .refl s
  · exact .emit _ _ _ _ _

/-- The records' part of a tabled relation is a matter of the records alone. -/
theorem Tabled.of_runs {v : State} (h : Runs Loseable v t) (hv : ∀ i, v.str i = s.str i)
    (hc : (v.cfs.holdCopies, v.cfs.writing) = (s.cfs.holdCopies, s.cfs.writing))
    (cover : s.conditionsCover → t.conditionsCover) : Tabled F E s t := by
  have has (k : HoldKind) (i : StringId) : v.has k i = s.has k i := congrArg (fun r => r.holds[k.slot]) (hv i)
  refine ⟨fun x => h.detailsExact ?_, cover, fun _ i hi => ?_, fun i code _ hi => ?_⟩
  · simp only [Prod.mk.injEq] at hc
    refine ⟨fun i => hv i ▸ x.1 i, ?_⟩
    rw [hc.1, hc.2]
    exact x.2
  · exact h.has (fun m => m.2.2 rfl) ((has _ i).trans hi)
  · refine h.lockout (fun m => m.2.1 rfl) ⟨(has _ i).trans hi.1, ?_⟩
    rw [hv i]
    exact hi.2

/-- FIRE comes to stand, with the accepted state that called for it. -/
theorem State.standFire_runs (h : s.stab.conditions.fire = false) :
    Runs Loseable (s.modStab fun t => { t with conditions := { t.conditions with fire := true } }) s.standFire ∧
    ∀ i, s.present i = true → s.standFire.has .fire i = true := by
  have added := (Turns.addHolds (L := Loseable) loseable_switch .fire (by decide) s.presentSet
    (s.modStab fun t => { t with conditions := { t.conditions with fire := true } })).runs
  have on (i : StringId) (hp : s.present i = true) := State.has_addHolds (i := i) .fire (by decide) (by decide) s.presentSet ((s.mem_presentSet i).2 hp)
    (s.modStab fun t => { t with conditions := { t.conditions with fire := true } }) hp
  have e : s.standFire = (((s.modStab fun t => { t with conditions := { t.conditions with fire := true } }).addHolds .fire
      s.presentSet).emitHoldChanged .fire true .fireLoop
        (s.presentSet.filter fun i => !s.has .fire i)).takeReports.abortSearch := by
    unfold State.standFire
    rw [if_neg (by simp [h])]
    rfl
  have last (v : State) (xs : List StringId) : Runs Loseable v
      (v.emitHoldChanged .fire true .fireLoop xs).takeReports.abortSearch :=
    (Loseable.seek v).abortSearch ((Turns.emitHoldChanged _ _ _ _ v).trans (.takeReports _)).runs
  rw [e]
  exact ⟨added.trans (last _ _), fun i hp => (last _ _).has (fun m => m.1 (by decide)) (on i hp)⟩

theorem State.standArc_runs (h : s.stab.conditions.arc = false) :
    Runs Loseable (s.modStab fun t => { t with conditions := { t.conditions with arc := true } }) s.standArc ∧
    ∀ i, s.present i = true → s.standArc.has .arc i = true := by
  have added := (Turns.addHolds (L := Loseable) loseable_switch .arc (by decide) s.presentSet
    (s.modStab fun t => { t with conditions := { t.conditions with arc := true } })).runs
  have on (i : StringId) (hp : s.present i = true) := State.has_addHolds (i := i) .arc (by decide) (by decide) s.presentSet ((s.mem_presentSet i).2 hp)
    (s.modStab fun t => { t with conditions := { t.conditions with arc := true } }) hp
  have e : s.standArc = ((s.modStab fun t => { t with conditions := { t.conditions with arc := true } }).addHolds .arc
      s.presentSet).takeReports.abortSearch := by
    unfold State.standArc
    rw [if_neg (by simp [h])]
    rfl
  have last (v : State) : Runs Loseable v v.takeReports.abortSearch :=
    (Loseable.seek v).abortSearch (Turns.takeReports _).runs
  rw [e]
  exact ⟨added.trans (last _), fun i hp => (last _).has (fun m => m.1 (by decide)) (on i hp)⟩

theorem Tabled.standArc (s : State) : Tabled F E s s.standArc := by
  by_cases h : s.stab.conditions.arc = true
  · unfold State.standArc
    rw [if_pos h]
    exact .refl s
  · obtain ⟨run, on⟩ := State.standArc_runs (Bool.eq_false_iff.2 h)
    refine Tabled.of_runs run (fun _ => rfl) rfl fun x => ?_
    obtain ⟨hc, ha⟩ := s.conditionsCover_iff.1 x
    refine State.conditionsCover_iff _ |>.2 ⟨State.covers_raised (f := fun c => { c with arc := true }) (k := .arc)
      (fun c kc m => ?_) hc run on, run.alarms ha⟩
    simp only [Conditions.standing, List.mem_cons, List.not_mem_nil, or_false] at m ⊢
    rcases m with rfl | rfl | rfl | rfl <;> simp

/-- The fire loop's accepted state becomes the raw class (R151, R152). -/
theorem Tabled.acceptLoop (s : State) : Tabled F E s s.acceptLoop := by
  have fired {c : Conditions} {kc : HoldKind × Bool} (m : kc ∈ Conditions.standing { c with fire := true }) :
      kc ∈ c.standing ∨ kc.1 = .fire := by
    simp only [Conditions.standing, List.mem_cons, List.not_mem_nil, or_false] at m ⊢
    rcases m with rfl | rfl | rfl | rfl <;> simp
  have emitted (v : State) (b : Int) (a : Int) : Runs Loseable v (v.emit .fireLine none a b) := (Turns.emit _ _ _ _ _).runs
  have accepted (x : LoopState) (hx : ¬(x = .alarm ∨ x = .loopFault) ∨ s.stab.conditions.fire = true) (d : Option Nat) :
      Tabled F E s (s.modFli fun f => { f with debounce := d, accepted := x }) := by
    refine Tabled.of_runs (.refl _) (fun _ => rfl) rfl fun y => ?_
    obtain ⟨hc, -⟩ := s.conditionsCover_iff.1 y
    exact State.conditionsCover_iff _ |>.2 ⟨hc, fun m => hx.resolve_left (not_not.2 m)⟩
  unfold State.acceptLoop
  simp only []
  split
  · next e =>
    rw [e]
    refine Tabled.of_runs (.refl _) (fun _ => rfl) rfl fun y => ?_
    obtain ⟨hc, ha⟩ := s.conditionsCover_iff.1 y
    exact State.conditionsCover_iff _ |>.2 ⟨hc, ha⟩
  · split
    · by_cases h : s.stab.conditions.fire = true
      · have same (d : Option Nat) (x : LoopState) : (s.modFli fun f => { f with debounce := d, accepted := x }).standFire
            = s.modFli fun f => { f with debounce := d, accepted := x } := by
          unfold State.standFire
          exact if_pos h
        rw [same]
        exact (accepted _ (.inr h) _).trans (emitted _ _ _).keep
      · obtain ⟨run, on⟩ := State.standFire_runs (s := s.modFli fun f =>
          { f with debounce := none, accepted := acceptedAs s.fli.raw }) (Bool.eq_false_iff.2 h)
        refine Tabled.of_runs (run.trans (emitted _ _ _)) (fun _ => rfl) rfl fun y => ?_
        obtain ⟨hc, -⟩ := s.conditionsCover_iff.1 y
        have hc' : (s.modFli fun f => { f with debounce := none, accepted := acceptedAs s.fli.raw }).covers := hc
        have cover := State.covers_raised (f := fun c => { c with fire := true }) (k := .fire) (fun c kc m => fired m) hc'
          run on
        have alarm := run.alarms (fun _ => rfl)
        exact State.conditionsCover_iff _ |>.2 ⟨(emitted _ _ _).covers (fun _ _ hk m => m.1 hk) cover,
          (emitted _ _ _).alarms alarm⟩
    · next h => exact (accepted _ (.inl h) _).trans (emitted _ _ _).keep

/-! ### Conditions that are cleared -/

theorem Conditions.standing_without {c : Conditions} {k : HoldKind} (hk : k ∈ conditionKinds) {kc : HoldKind × Bool}
    (h : kc ∈ (c.without k).standing) (hs : kc.2 = true) : kc ∈ c.standing ∧ kc.1 ≠ k := by
  simp only [conditionKinds, List.mem_cons, List.not_mem_nil, or_false] at hk
  rcases hk with rfl | rfl | rfl | rfl <;>
  · simp only [Conditions.without, Conditions.standing, List.mem_cons, List.not_mem_nil, or_false] at h ⊢
    rcases h with rfl | rfl | rfl | rfl <;> simp_all

theorem Tabled.clear (k : HoldKind) (xs : List StringId) (s : State) (hk : k ∈ conditionKinds)
    (hn : k = .fire → s.fli.accepted = .normal) :
    Tabled F E s ((s.modStab fun t => { t with conditions := t.conditions.without k }).removeHolds k xs) := by
  have run := (Turns.removeHolds (L := fun _ x => x = k ∨ x = .switch) (fun _ => .inr rfl) k xs (fun _ _ => .inl rfl)
    (s.modStab fun t => { t with conditions := t.conditions.without k })).runs
  generalize (s.modStab fun t => { t with conditions := t.conditions.without k }).removeHolds k xs = t at run ⊢
  have free {x : HoldKind} (hx : x = .svc ∨ x = .retired) : ¬(x = k ∨ x = .switch) := by
    rintro (rfl | rfl)
    · rcases hx with rfl | rfl <;> simp [conditionKinds] at hk
    · rcases hx with e | e <;> cases e
  refine ⟨fun x => run.detailsExact x, fun x => ?_, fun _ i => run.has (free (.inr rfl)), fun i _ _ =>
    run.lockout (free (.inl rfl))⟩
  obtain ⟨hc, ha⟩ := s.conditionsCover_iff.1 x
  have e := run.table
  simp only [State.table, Prod.mk.injEq] at e
  obtain ⟨e1, e2, -⟩ := e
  refine State.conditionsCover_iff _ |>.2 ⟨⟨fun i hp => run.empty (e1 ▸ hp) (hc.1 i (e1 ▸ hp)), fun kc hkc hs i hp => ?_⟩,
    run.alarms fun m => ?_⟩
  · rw [e2] at hkc
    obtain ⟨m, hne⟩ := Conditions.standing_without hk hkc hs
    refine run.has (fun y => ?_) (hc.2 kc m hs i (e1 ▸ hp))
    rcases y with y | y
    · exact hne y
    · have := standing_kind m
      rw [y] at this
      simp [conditionKinds] at this
  · have fire : k ≠ .fire := fun y => by
      rcases m with m | m <;> · rw [State.modStab_fli, hn y] at m; cases m
    have kept : (s.stab.conditions.without k).fire = s.stab.conditions.fire := by
      cases k <;> first | rfl | exact absurd rfl fire
    exact kept.trans (ha m)

/-! ### A string made PRESENT (R70) -/

theorem Turns.addConditions (i : StringId) (s : State) : Turns L s (s.addConditions i) := by
  have one (c : Bool) (x : Hold) (hx : x.kind ≠ .overcurrent) {u : State} (h : Turns L s u) :
      Turns L s (if c then u.putHold x i else u) := Turns.ite (h.trans (.putHold x hx i u)) h
  unfold State.addConditions
  simp only []
  exact one _ _ (by decide) (one _ _ (by decide) (one _ _ (by decide) (one _ _ (by decide) (.refl s))))

/-- A PRESENT string has the holds of the conditions that stand (R70). -/
theorem State.has_addConditions (hp : s.present i = true) {kc : HoldKind × Bool} (h : kc ∈ s.stab.conditions.standing)
    (hs : kc.2 = true) : (s.addConditions i).has kc.1 i = true := by
  have one (c : Bool) (x : Hold) (hx : x.kind ≠ .switch ∧ x.kind ≠ .overcurrent) (u : State)
      (hu : u.present i = true) : (if c then u.putHold x i else u).present i = true ∧
      (∀ k, u.has k i = true → (if c then u.putHold x i else u).has k i = true) ∧
      (c = true → (if c then u.putHold x i else u).has x.kind i = true) := by
    have k := Turns.putHold (L := fun _ _ => False) x hx.2 i u
    split
    · exact ⟨(State.present_of_frame k.frame i).trans hu, fun _ => k.runs.has id, fun _ => State.has_putHold hx.1 hu⟩
    · next hc => exact ⟨hu, fun _ => id, fun e => absurd e hc⟩
  obtain ⟨p1, k1, h1⟩ := one s.stab.conditions.fire .fire (by decide) s hp
  obtain ⟨p2, k2, h2⟩ := one s.stab.conditions.start .start (by decide) _ p1
  obtain ⟨p3, k3, h3⟩ := one s.stab.conditions.store .store (by decide) _ p2
  obtain ⟨-, k4, h4⟩ := one s.stab.conditions.arc .arc (by decide) _ p3
  simp only [Conditions.standing, List.mem_cons, List.not_mem_nil, or_false] at h
  unfold State.addConditions
  rcases h with rfl | rfl | rfl | rfl
  · exact k4 _ (k3 _ (k2 _ (h1 hs)))
  · exact k4 _ (k3 _ (h2 hs))
  · exact k4 _ (h3 hs)
  · exact h4 hs

theorem Turns.openFromAbsent (i : StringId) (s : State) : Turns L s (s.openFromAbsent i) := by
  have k : Turns L s ((s.leaveQueue i).setTimer i none) := .same rfl fun _ => rfl
  unfold State.openFromAbsent
  exact Turns.ite ((k.trans (.enter i .opened none _)).trans (.becomeFaulted i _ _))
    ((k.trans (.startDwell i _)).trans (.enter i .opened none _))

/-- The part with a string's presence in its settings, and a commit of the settings asked for (R70). -/
def State.admits (i : StringId) (s : State) : State :=
  (s.modStringSettings i fun c => { c with present := true }).askCommit .settings []

/-- A string with its first holds goes to OPEN, with the events of the party kinds (R70). -/
def State.welcomes (fire : Bool) (i : StringId) (s : State) : State :=
  let s := (s.openFromAbsent i).takeReports
  let s := s.emitHoldChanged .svc true .presence [i]
  let s := if fire then s.emitHoldChanged .fire true .presence [i] else s
  s.askCommit .holds []

theorem State.makePresent_eq (i : StringId) (code : LockCode) (s : State) : s.makePresent i code =
    (((s.admits i).putHold (.svc code) i).addConditions i).welcomes s.stab.conditions.fire i := rfl

theorem State.present_admits (i j : StringId) (s : State) :
    (s.admits i).present j = if j = i then true else s.present j := by
  have h := State.strSet_modStringSettings i j (fun c => { c with present := true }) s
  refine (congrArg StringSettings.present h).trans ?_
  split
  · rfl
  · rfl

theorem Turns.askCommit (r : StoreRecord) (w : List Port) (s : State) : Turns L s (s.askCommit r w) := .quiet rfl

theorem Turns.welcomes (fire : Bool) (i : StringId) (s : State) : Turns L s (s.welcomes fire i) := by
  have k := ((Turns.openFromAbsent (L := L) i s).trans (.takeReports _)).trans (.emitHoldChanged .svc true .presence [i] _)
  unfold State.welcomes
  refine Turns.trans ?_ (.askCommit _ _ _)
  split
  · exact k.trans (.emitHoldChanged ..)
  · exact k

/-- The string of a SET PRESENCE toward PRESENT is under the conditions that stand (R70). -/
theorem Tabled.makePresent (i : StringId) (code : LockCode) (s : State) (hn : s.present i = false) :
    Tabled F E s (s.makePresent i code) := by
  have put := Turns.putHold (L := Loseable) (.svc code) (fun e => nomatch e) i (s.admits i)
  have added := put.trans (Turns.addConditions i _)
  have last := (Turns.welcomes (L := Loseable) s.stab.conditions.fire i
    (((s.admits i).putHold (.svc code) i).addConditions i)).runs
  have here : ((s.admits i).putHold (.svc code) i).present i = true :=
    (State.present_of_frame put.frame i).trans ((State.present_admits i i s).trans (if_pos rfl))
  have run := added.runs.trans last
  have e := run.table
  simp only [State.table, Prod.mk.injEq] at e
  obtain ⟨e1, e2, -⟩ := e
  rw [State.makePresent_eq]
  refine Tabled.of_runs run (fun _ => rfl) rfl fun x => ?_
  obtain ⟨hc, ha⟩ := s.conditionsCover_iff.1 x
  have safe {k : HoldKind} (hk : k ∈ conditionKinds) (j : StringId) : ¬Loseable j k := fun m => m.1 hk
  refine State.conditionsCover_iff _ |>.2 ⟨⟨fun j hp => ?_, fun kc hkc hs j hp => ?_⟩, run.alarms ha⟩
  · rw [e1] at hp
    refine run.empty hp ?_
    rw [State.present_admits] at hp
    split at hp
    · cases hp
    · exact hc.1 j hp
  · rw [e2] at hkc
    by_cases hj : j = i
    · subst hj
      refine last.has (safe (standing_kind hkc) j) (State.has_addConditions here ?_ hs)
      have same : ((s.admits j).putHold (.svc code) j).stab.conditions = s.stab.conditions :=
        congrArg (fun x => x.2.1) put.frame
      rw [same]
      exact hkc
    · rw [e1, State.present_admits, if_neg hj] at hp
      exact run.has (safe (standing_kind hkc) j) (hc.2 kc hkc hs j hp)

/-! ### Writes (R177, R178) -/

theorem Tabled.of_same (h : t.frame.1 = s.frame.1) (hs : ∀ i, t.str i = s.str i)
    (hc : t.stab.conditions = s.stab.conditions) (ha : t.fli.accepted = s.fli.accepted)
    (he : s.detailsExact → t.detailsExact) : Tabled F E s t := by
  have has (k : HoldKind) (i : StringId) : t.has k i = s.has k i := congrArg (fun r => r.holds[k.slot]) (hs i)
  have hp (i : StringId) : t.present i = s.present i := congrFun h i
  refine ⟨he, fun x => ?_, fun _ i hi => (has _ i).trans hi, fun i code _ hi => ⟨(has _ i).trans hi.1, ?_⟩⟩
  · obtain ⟨h1, h2, h3⟩ := x
    refine ⟨fun i hi => ?_, fun kc hkc hk i hi => ?_, fun m => ?_⟩
    · rw [hs i]
      exact h1 i (hp i ▸ hi)
    · rw [has]
      exact h2 kc (hc ▸ hkc) hk i (hp i ▸ hi)
    · rw [hc]
      exact h3 (ha ▸ m)
  · rw [hs i]
    exact hi.2

theorem storedHolds_get (h : HoldSet) (k : HoldKind) :
    (storedHolds h)[k.slot] = (k.stored && h[k.slot]) := by
  cases k <;> rfl

/-- What the hold record holds of an exact record is exact (R177). -/
theorem State.storedString_exact (h : (s.str i).exact) : (s.storedString i).exact := by
  obtain ⟨h1, h2, h3, -⟩ := h
  refine ⟨?_, ?_, ?_⟩ <;> refine Eq.trans ?_ (storedHolds_get _ _).symm
  · exact h1
  · exact h2
  · exact h3

theorem Tabled.beginWrite (s : State) : Tabled F E s s.beginWrite := by
  unfold State.beginWrite
  split
  · next e _ _ _ =>
    refine .of_same rfl (fun _ => rfl) rfl rfl fun x => ⟨x.1, x.2.1, fun w hw r hr i => ?_⟩
    cases hw
    cases he : e.record with
    | settings => simp [State.image, he, WriteImage.holds?] at hr
    | holds =>
      simp only [State.image, he, WriteImage.holds?, Option.mem_def, Option.some.injEq] at hr
      rw [← hr, tab_get]
      exact State.storedString_exact (x.1 i)
  · exact .refl s

theorem Tabled.finishWrite (s : State) (w : Write) (hw : s.cfs.writing = some w) :
    Tabled F E s (s.modCfs fun c => c.finish w.image) := by
  cases hi : w.image with
  | settings c =>
    exact .of_same rfl (fun _ => rfl) rfl rfl fun x => ⟨x.1, x.2.1, fun _ m => by cases m⟩
  | holds c =>
    refine .of_same rfl (fun _ => rfl) rfl rfl fun x => ⟨x.1, fun i => ?_, fun _ m => by cases m⟩
    have hc := x.2.2 w hw c (by rw [hi]; rfl) i
    rcases Copies.write_cases s.cfs.holdCopies c with ⟨ha, hb⟩ | ⟨hb, ha⟩
    · exact ⟨(congrArg (fun r : HoldRecord => r[i].exact) ha).mpr hc,
        (congrArg (fun r : Copy HoldRecord => r.data[i].exact) hb).mpr (x.2.1 i).2⟩
    · exact ⟨(congrArg (fun r : Copy HoldRecord => r.data[i].exact) ha).mpr (x.2.1 i).1,
        (congrArg (fun r : HoldRecord => r[i].exact) hb).mpr hc⟩

/-! ### The walk -/

theorem Tabled.walk : Walk (Tabled F E) where
  refl := .refl
  trans := .trans
  quiet h := (Runs.quiet (L := Loseable) h).keep
  beginWrite := .beginWrite
  finishWrite := .finishWrite
  addHold x i s _ ho := (Turns.addHold loseable_switch x ho i s).keep
  addOvercurrent i current time s :=
    ((Turns.addOvercurrent (L := fun _ k => k = .switch) (fun _ => rfl) (fun _ e => nomatch e) i current time s).mono
      fun j _ e => e ▸ loseable_switch j).keep
  removeHold k i s hk := (Turns.removeHold loseable_switch k i (loseable i (.inl hk)) s).keep
  setCount i n s := (Turns.modCount i n s).keep
  arbiter s := (Turns.arbiter loseable_switch s).keep
  testAndJoinQ i s := (Turns.testAndJoinQ i s).keep
  feedbackClosed i s := (Turns.feedbackClosed loseable_switch i s).keep
  feedbackOpen i s := (Turns.feedbackOpen loseable_switch i s).keep
  cross i s := (Turns.cross loseable_switch i s).keep
  rampTest s := (Turns.rampTest s).keep
  rampEnds i s _ := (Turns.rampEnds i s).keep
  enterCurtailWait i s _ := (Turns.enterCurtailWait i s).keep
  becomeFaulted i kind s _ := (Turns.becomeFaulted i kind s).keep
  startRetest i s _ := (Turns.startRetest loseable_switch i s).keep
  retestFails r kind s _ := (Turns.retestFails r.string kind s).keep
  endRetest r s _ := (Turns.endRetest r.string s).keep
  settle s := ((Loseable.seek s).settle (.refl s)).keep
  abortSearch s := ((Loseable.seek s).abortSearch (.refl s)).keep
  startSearch cause s := ((Loseable.seek s).startSearch cause (.refl s)).keep
  searchMeasured reading s := ((Loseable.seek s).searchMeasured reading (.refl s)).keep
  stepTimerExpires s := ((Loseable.seek s).stepTimerExpires (.refl s)).keep
  standArc := .standArc
  acceptLoop := .acceptLoop
  clear := .clear
  makePresent i code s _ hn := .makePresent i code s hn

end Sys2Proof.Machine
end

section
/-! SUPPORT. The string table and its stored copies through RELEASE, SET PRESENCE toward ABSENT, the start-ups and the loss
of supply (R57, R59, R69, R177 to R180). -/

namespace Sys2Proof.Machine

variable {L : StringId → HoldKind → Prop} {F : Prop} {E : StringId → LockCode → Prop} {s t u : State} {i j : StringId}

/-! ### RELEASE (R57, R59) -/

theorem mem_distinctValues_iff {list : List Byte} {v : Byte} : v ∈ distinctValues list ↔ v ∈ list := by
  refine ⟨mem_distinctValues, fun h => List.mem_filter.2 ⟨List.mem_map.2 ⟨v.toNat, ?_, ?_⟩, ?_⟩⟩
  · exact List.mem_range.2 v.isLt
  · exact BitVec.ofNat_toNat 8 v
  · exact List.contains_iff_mem.2 h

theorem State.firstFailure_passes {list vs : List Byte} {particular : StringId → Option Result} {b : Bool}
    (h : s.firstFailure list b particular vs = none) : ∀ v ∈ vs, s.checkValue list b particular v = none := by
  induction vs with
  | nil => exact fun v m => nomatch m
  | cons w ws ih =>
    unfold State.firstFailure at h
    split at h
    · cases h
    · next e =>
      intro v m
      rcases List.mem_cons.1 m with rfl | m
      · exact e
      · exact ih h v m

/-- A string of a list that fails no check of R54 passes the check of step 5. -/
theorem State.checkList_passes {list : List Byte} {particular : StringId → Option Result}
    (h : s.checkList list particular = none) (hi : listed list i) : particular i = none := by
  have k := State.firstFailure_passes h _ (mem_distinctValues_iff.2 hi)
  unfold State.checkValue at k
  rw [stringOfByte_number] at k
  simp only [] at k
  split at k
  · cases k
  · split at k
    · cases k
    · split at k
      · cases k
      · exact k

theorem Tabled.release (p : Port) (b : List Byte) (u : State)
    (hE : ∀ j, p = .m → listed (listOf p b) j → E j (lockCodeOf b))
    (h : u.checkList (listOf p b) (u.codeCheck p (lockCodeOf b) .wrongCode) = none) :
    Tabled F E u (u.removeHolds (partyKind p) (stringsOf (listOf p b))) := by
  have run := (Turns.removeHolds (L := fun j k => (k = partyKind p ∧ listed (listOf p b) j) ∨ k = .switch)
    (fun _ => .inr rfl) (partyKind p) (stringsOf (listOf p b)) (fun j m => .inl ⟨rfl, mem_stringsOf.1 m⟩) u).runs
  have other {j : StringId} {k : HoldKind} (hk : k ∉ [HoldKind.sup, .inv, .svc, .switch]) :
      ¬((k = partyKind p ∧ listed (listOf p b) j) ∨ k = .switch) := by
    rintro (⟨rfl, -⟩ | rfl)
    · cases p <;> simp [partyKind] at hk
    · simp at hk
  have standing : ∀ i, ∀ k ∈ conditionKinds, ¬((k = partyKind p ∧ listed (listOf p b) i) ∨ k = .switch) := by
    intro i k hk
    simp only [conditionKinds, List.mem_cons, List.not_mem_nil, or_false] at hk
    rcases hk with rfl | rfl | rfl | rfl <;> exact other (by decide)
  have kept : Tabled F (fun _ _ => True) u _ := run.tabled standing (fun _ _ => other (by decide))
    fun _ _ hn => absurd trivial hn
  refine ⟨kept.exact, kept.cover, kept.retired, fun j code hn hj => run.lockout ?_ hj⟩
  rintro (⟨hk, hl⟩ | hk)
  · have hm : p = .m := by
      cases p with
      | m => rfl
      | _ => cases hk
    refine hn ?_
    have k := State.checkList_passes h hl
    have same : lockCodeOf b = code := by
      by_contra hne
      refine absurd k ?_
      unfold State.codeCheck
      rw [if_pos ⟨hm, hj.1, fun e => hne (Option.some.inj (hj.2.symm.trans e)).symm⟩]
      exact fun e => nomatch e
    exact same ▸ hE j hm hl
  · cases hk

/-! ### SET PRESENCE toward ABSENT (R69) -/

theorem stringOfByte_some {v : Byte} (h : stringOfByte v = some i) : v = byte (stringNumber i) := by
  unfold stringOfByte stringOfNumber at h
  split at h
  · next hv =>
    cases h
    refine BitVec.eq_of_toNat_eq ?_
    simp only [stringNumber, byte, BitVec.toNat_ofNat]
    omega
  · cases h

/-- A SET PRESENCE that takes effect names its string, which is not RETIRED, and carries the code of its lockout (R68). -/
theorem State.presenceCheck_names {toPresent : Bool} {payload : List Byte}
    (h : s.presenceCheck toPresent payload = .changes i) : byteAt payload 0 = byte (stringNumber i) ∧
    s.has .retired i = false ∧ (toPresent = false → s.has .svc i = true →
      (s.str i).lockCode = some (lockCodeOf (payload.drop 2))) := by
  unfold State.presenceCheck at h
  simp only [] at h
  have fails {r : Result} {v : Byte} {P : Prop} (e : PresenceCheck.fails r v = .changes i) : P := nomatch e
  rcases ite_eq_iff.1 h with ⟨-, e⟩ | ⟨-, h⟩
  · exact fails e
  · split at h
    · exact fails h
    · next j hj =>
      rcases ite_eq_iff.1 h with ⟨-, e⟩ | ⟨hr, h⟩
      · exact fails e
      · rcases ite_eq_iff.1 h with ⟨-, e⟩ | ⟨-, h⟩
        · cases e
        · rcases ite_eq_iff.1 h with ⟨-, e⟩ | ⟨-, h⟩
          · exact fails e
          · rcases ite_eq_iff.1 h with ⟨-, e⟩ | ⟨hc, h⟩
            · exact fails e
            · cases h
              refine ⟨stringOfByte_some hj, Bool.eq_false_iff.2 hr, fun h1 h2 => ?_⟩
              by_contra h3
              exact hc ⟨h1, h2, h3⟩

/-- Beside its presence and its record, a string made ABSENT leaves the string table and its copies as they were. -/
theorem State.table_makeAbsent (hs : s.switchState i = .opened) : (s.makeAbsent i).table = (s.dropped i).table := by
  obtain ⟨g, e⟩ := State.stripped_eq i s
  obtain ⟨a, g', c, o, q, m, f⟩ := State.makeAbsent_shape hs
  obtain ⟨r, q', c', o', x, y, l⟩ := (State.dropped_took i s).loses
  have first : (s.makeAbsent i).table = (s.stripped i).table := by
    generalize s.stripped i = v at f
    rw [f]
    generalize (v.enter i .absent none).sseq = w
    rfl
  have second : (s.stripped i).table = (State.takeAll i allHoldKinds (s.dropped i)).table := by
    generalize State.takeAll i allHoldKinds (s.dropped i) = v at e
    rw [e]
    rfl
  have third : (State.takeAll i allHoldKinds (s.dropped i)).table = (s.dropped i).table := by
    rw [l]
    rfl
  exact first.trans (second.trans third)

theorem State.present_dropped_or (i j : StringId) (s : State) :
    (s.dropped i).present j = if j = i then false else s.present j := by
  have h := State.strSet_modStringSettings i j (fun c => { c with present := false }) s
  refine (congrArg StringSettings.present h).trans ?_
  split
  · rfl
  · rfl

theorem Tabled.makeAbsent (i : StringId) (s : State) (hs : s.switchState i = .opened) (hr : s.has .retired i = false)
    (hE : ∀ code, s.has .svc i = true → (s.str i).lockCode = some code → E i code) : Tabled F E s (s.makeAbsent i) := by
  have gone := (State.makeAbsent_leaves hs).str
  have tab := State.table_makeAbsent hs
  simp only [State.table, Prod.mk.injEq] at tab
  obtain ⟨e1, e2, e3, e4, e5⟩ := tab
  have same {j : StringId} (hj : j ≠ i) : (s.makeAbsent i).str j = s.str j := (gone j).trans (if_neg hj)
  have bare : ((s.makeAbsent i).str i).holds = noHolds := by
    have z := StringRecord.holds_stripped (s.str i)
    rw [gone i, if_pos rfl]
    generalize allHoldKinds.foldl StringRecord.without (s.str i) = x at z ⊢
    exact z
  refine ⟨fun ⟨x1, x2, x3⟩ => ⟨fun j => ?_, ?_, ?_⟩, fun ⟨x1, x2, x3⟩ => ⟨fun j hp => ?_, fun kc hkc hk j hp => ?_, ?_⟩,
    fun _ j hj => ?_, fun j code hn hj => ?_⟩
  · by_cases hj : j = i
    · rw [gone j, if_pos hj, (x1 i).stripped]
      decide
    · rw [same hj]
      exact x1 j
  · rw [e4]
    exact x2
  · rw [e5]
    exact x3
  · by_cases hj : j = i
    · exact hj ▸ bare
    · rw [same hj]
      rw [e1, State.present_dropped_or, if_neg hj] at hp
      exact x1 j hp
  · rw [e1, State.present_dropped_or] at hp
    by_cases hj : j = i
    · rw [if_pos hj] at hp
      cases hp
    · rw [if_neg hj] at hp
      rw [State.has, same hj]
      exact x2 kc (e2 ▸ hkc) hk j hp
  · rw [e2, e3]
    exact x3
  · rw [State.has, same fun e => ?_]
    · exact hj
    · rw [e, hr] at hj
      cases hj
  · have ne : j ≠ i := fun e => hn (e ▸ hE code (e ▸ hj.1) (e ▸ hj.2))
    rw [State.has, same ne]
    exact hj

/-! ### Start-ups and the loss of supply (R177 to R180) -/

/-- The part after the fifth step of R179: the holds restored, before the relays are recovered. -/
def State.reinstated (cause : StartCause) (inp : StartInputs) (s : State) : State :=
  let r := (s.storeAtStart inp).read
  (((State.started inp r (s.storeAtStart inp) s.pending).askReplacements r).emitRestarted cause r).restoreHolds r

theorem State.startUp_eq (cause : StartCause) (inp : StartInputs) (s : State) : s.startUp cause inp =
    ((s.reinstated cause inp).recoverRelays.startMeasurement .periodic .routine).beginWrite := rfl

/-- FIRE is on a string whose stored holds are restored (R180). -/
def ReadRecords.anyFire (r : ReadRecords) : Bool := allStrings.any fun i => (r.restored i).holds[HoldKind.fire.slot]

/-- ARC is on a string whose stored holds are restored (R180). -/
def ReadRecords.anyArc (r : ReadRecords) : Bool := allStrings.any fun i => (r.restored i).holds[HoldKind.arc.slot]

/-- The String Table of steps 4 and 5 of R179. -/
def ReadRecords.table (r : ReadRecords) : Stab :=
  { strings := tab (r.record r.anyFire r.anyArc)
    conditions := { fire := r.anyFire, start := true, store := r.storeStands, arc := r.anyArc } }

/-- The part with its inputs read and its settings in force, as a start-up finds its stored records. -/
def State.awoken (inp : StartInputs) (s : State) : State :=
  State.started inp (s.storeAtStart inp).read (s.storeAtStart inp) s.pending

theorem State.reinstated_eq (cause : StartCause) (inp : StartInputs) (s : State) : ∃ q g,
    s.reinstated cause inp = { s.awoken inp with
      cfs := { (s.awoken inp).cfs with queue := q }, evr := { (s.awoken inp).evr with ring := g }
      stab := (s.storeAtStart inp).read.table } := by
  have asked (u : State) (a : Bool) (x : StoreRecord) :
      ∃ q, (if a then u.askCommit x [] else u) = { u with cfs := { u.cfs with queue := q } } := by
    cases a
    · exact ⟨_, rfl⟩
    · exact ⟨_, rfl⟩
  have replaced (r : ReadRecords) (u : State) :
      ∃ q, u.askReplacements r = { u with cfs := { u.cfs with queue := q } } := by
    obtain ⟨q1, h1⟩ := asked u r.settingsReplaced .settings
    unfold State.askReplacements
    simp only []
    rw [h1]
    exact asked _ r.holdsReplaced .holds
  have emitted (r : ReadRecords) (u : State) :
      ∃ g, u.emitRestarted cause r = { u with evr := { u.evr with ring := g } } := State.emit_eq _ _ _ _ u
  have restored (r : ReadRecords) (u : State) : ∃ q, u.restoreHolds r =
      { u with cfs := { u.cfs with queue := q }, stab := r.table } := by
    obtain ⟨q, h⟩ := asked u (r.changesHolds r.anyFire r.anyArc || r.disagree) .holds
    unfold State.restoreHolds
    simp only []
    refine ⟨q, ?_⟩
    rw [← ReadRecords.anyFire, ← ReadRecords.anyArc, h]
    rfl
  unfold State.reinstated
  simp only []
  obtain ⟨q, h1⟩ := replaced (s.storeAtStart inp).read
    (s.awoken inp)
  rw [← State.awoken, h1]
  generalize s.awoken inp = v
  obtain ⟨g, h2⟩ := emitted (s.storeAtStart inp).read { v with cfs := { v.cfs with queue := q } }
  rw [h2]
  obtain ⟨q', h3⟩ := restored (s.storeAtStart inp).read
    { v with cfs := { v.cfs with queue := q }, evr := { v.evr with ring := g } }
  exact ⟨q', g, h3⟩

theorem Turns.forStrings {f : StringId → State → State} (hf : ∀ i s, Turns L s (f i s)) (xs : List StringId)
    (s : State) : Turns L s (Machine.forStrings f xs s) := by
  induction xs generalizing s with
  | nil => exact .refl s
  | cons i xs ih => exact (hf i s).trans (ih _)

/-- The recovery of the relays gives strings at most another fault kind and SEARCH (R99). -/
theorem Turns.recoverRelays (hL : ∀ i, L i .switch) (s : State) : Turns L s s.recoverRelays := by
  have switches (i : StringId) (u : State) : Turns L u (u.recoverSwitch i) := by
    have put (x : SwitchState) (v : State) : Turns L v (v.modSwitch i fun w => { w with state := x }) := .modSwitch i _ v
    unfold State.recoverSwitch
    simp only []
    split
    · exact put _ u
    · split
      · split
        · exact (put _ u).trans (.replaceFault i _ _)
        · exact put _ u
      · split
        · exact put _ u
        · exact (Turns.startDwell i u).trans (put _ _)
  have entries (i : StringId) (u : State) : Turns L u (u.recoverEntry i) := by
    unfold State.recoverEntry
    split
    · exact .joinQueue i _ u
    · split
      · simp only []
        split
        · exact .joinQueue i _ u
        · exact (Turns.joinQueue i _ u).trans (.enterCurtailWait i _)
      · exact .refl u
  have noted (u : State) : Turns L u (u.modFli fun f => { f with positionsKnown := true }).noteStates :=
    .same rfl fun _ => rfl
  unfold State.recoverRelays
  exact (((Turns.forStrings switches allStrings s).trans (noted _)).trans (.takeReports _)).trans
    (((Turns.forStrings entries allStrings _).trans (.arbiter hL _)).trans (.takeReports _))

/-- A start-up goes on from the restored holds with work that the string table outlasts. -/
theorem Tabled.startUp (cause : StartCause) (inp : StartInputs) (s : State) :
    Tabled F E (s.reinstated cause inp) (s.startUp cause inp) := by
  rw [State.startUp_eq]
  have measured (u : State) : Turns Loseable u (u.startMeasurement .periodic .routine) := .quiet rfl
  have run := (Turns.recoverRelays (L := Loseable) loseable_switch (s.reinstated cause inp)).trans (measured _)
  exact run.keep.trans (.beginWrite _)

theorem State.str_reinstated (cause : StartCause) (inp : StartInputs) (s : State) (i : StringId) :
    (s.reinstated cause inp).str i = (s.storeAtStart inp).read.record (s.storeAtStart inp).read.anyFire
      (s.storeAtStart inp).read.anyArc i := by
  obtain ⟨q, g, e⟩ := s.reinstated_eq cause inp
  rw [e]
  exact tab_get _ i

theorem State.present_reinstated (cause : StartCause) (inp : StartInputs) (s : State) (i : StringId) :
    (s.reinstated cause inp).present i = ((s.storeAtStart inp).read.settings.strings[i]).present := by
  obtain ⟨q, g, e⟩ := s.reinstated_eq cause inp
  rw [e]
  rfl

/-! ### The restored records -/

/-- The record of a present string with its stored holds alone. -/
def StoredString.record (k : StoredString) : StringRecord :=
  { emptyRecord with holds := storedHolds k.holds, lockCode := k.lockCode, faultKind := k.faultKind
                     groundDetail := k.groundDetail }

/-- The holds that a start-up puts on every present string, beside its stored ones. -/
def ReadRecords.raised (r : ReadRecords) (fire arc : Bool) : List Hold :=
  (if fire then [.fire] else []) ++ (if arc then [.arc] else []) ++ [.start] ++ if r.storeStands then [.store] else []

theorem ReadRecords.record_eq (r : ReadRecords) (fire arc : Bool) (i : StringId) : r.record fire arc i =
    if (r.settings.strings[i]).present then (r.raised fire arc).foldl StringRecord.put (r.restored i).record
    else emptyRecord := by
  unfold ReadRecords.record ReadRecords.raised
  cases fire <;> cases arc <;> cases r.storeStands <;> rfl

theorem StringRecord.exact.puts {xs : List Hold} (hx : ∀ x ∈ xs, x.kind ≠ .overcurrent) {r : StringRecord}
    (h : r.exact) : (xs.foldl StringRecord.put r).exact := by
  induction xs generalizing r with
  | nil => exact h
  | cons x xs ih => exact ih (fun y m => hx y (List.mem_cons_of_mem _ m)) (h.put x (hx x List.mem_cons_self))

theorem StringRecord.has_puts (xs : List Hold) (r : StringRecord) (k : HoldKind)
    (h : r.holds[k.slot] = true ∨ ∃ x ∈ xs, x.kind = k) : (xs.foldl StringRecord.put r).holds[k.slot] = true := by
  induction xs generalizing r with
  | nil => exact h.resolve_right fun ⟨x, m, _⟩ => nomatch m
  | cons x xs ih =>
    refine ih _ ?_
    rcases h with h | ⟨y, m, e⟩
    · exact .inl (by rw [StringRecord.has_put, h, Bool.or_true])
    · rcases List.mem_cons.1 m with rfl | m
      · exact .inl (by rw [StringRecord.has_put]; simp [e])
      · exact .inr ⟨y, m, e⟩

theorem StoredString.exact.record {k : StoredString} (h : k.exact) : k.record.exact := by
  obtain ⟨h1, h2, h3⟩ := h
  refine ⟨?_, ?_, ?_, ?_⟩ <;> refine Eq.trans ?_ (storedHolds_get _ _).symm
  · exact h1
  · exact h2
  · exact h3
  · rfl

theorem ReadRecords.raised_kind {r : ReadRecords} {fire arc : Bool} {x : Hold} (h : x ∈ r.raised fire arc) :
    x.kind ≠ .overcurrent := by
  have m : x ∈ [Hold.fire, .arc, .start, .store] := by
    unfold ReadRecords.raised at h
    simp only [List.mem_append] at h
    rcases h with ((h | h) | h) | h
    · split at h <;> simp_all
    · split at h <;> simp_all
    · simp_all
    · split at h <;> simp_all
  fin_cases m <;> decide

/-- A start-up that finds exact copies restores exact records. -/
theorem ReadRecords.record_exact {r : ReadRecords} (h : ∀ i : StringId, (r.holds[i]).exact) (fire arc : Bool)
    (i : StringId) : (r.record fire arc i).exact := by
  have restored : (r.restored i).exact := by
    unfold ReadRecords.restored
    split
    · exact h i
    · decide
  rw [ReadRecords.record_eq]
  split
  · exact restored.record.puts fun x m => ReadRecords.raised_kind m
  · decide

theorem Copies.fail_data {α : Type} (c : Copies α) (a b : Bool) : (c.fail a b).a.data = c.a.data ∧
    (c.fail a b).b.data = c.b.data := ⟨rfl, rfl⟩

/-- A loss of supply changes no stored hold (R177). -/
theorem Cfs.loseSupply_holds (c : Cfs) : c.loseSupply.holdCopies.a.data = c.holdCopies.a.data ∧
    c.loseSupply.holdCopies.b.data = c.holdCopies.b.data := by
  unfold Cfs.loseSupply
  rcases c.writing with _ | ⟨_, _ | _⟩
  · exact ⟨rfl, rfl⟩
  · exact ⟨rfl, rfl⟩
  · exact Copies.spoil_data _

theorem State.reinstated_exact (cause : StartCause) (inp : StartInputs) (h : s.detailsExact) :
    (s.reinstated cause inp).detailsExact := by
  obtain ⟨ha, hb⟩ := s.cfs.loseSupply_holds
  have a (i : StringId) : ((s.storeAtStart inp).holdCopies.a.data[i]).exact :=
    (congrArg (fun r : HoldRecord => r[i].exact) ha).mpr (h.2.1 i).1
  have b (i : StringId) : ((s.storeAtStart inp).holdCopies.b.data[i]).exact :=
    (congrArg (fun r : HoldRecord => r[i].exact) hb).mpr (h.2.1 i).2
  have blank (c : Settings) (i : StringId) : ((emptyHoldRecord c)[i]).exact := by
    rw [emptyHoldRecord, tab_get]
    exact ⟨rfl, rfl, rfl⟩
  have read (i : StringId) : ((s.storeAtStart inp).read.holds[i]).exact := by
    change (((s.storeAtStart inp).holdCopies.dataOr (emptyHoldRecord _))[i]).exact
    rcases Copies.dataOr_cases (s.storeAtStart inp).holdCopies (emptyHoldRecord (s.storeAtStart inp).read.settings)
      with e | e | e
    · exact (congrArg (fun r : HoldRecord => r[i].exact) e).mpr (a i)
    · exact (congrArg (fun r : HoldRecord => r[i].exact) e).mpr (b i)
    · exact (congrArg (fun r : HoldRecord => r[i].exact) e).mpr (blank _ i)
  obtain ⟨q, g, e⟩ := s.reinstated_eq cause inp
  refine ⟨fun i => ?_, fun i => ?_, fun w m => ?_⟩
  · rw [State.str_reinstated]
    exact ReadRecords.record_exact read _ _ i
  · rw [e]
    exact ⟨a i, b i⟩
  · rw [e] at m
    cases m

/-- A start-up leaves FIRE, START, STORE and ARC on every present string where they stand (R47, R180). -/
theorem State.reinstated_cover (cause : StartCause) (inp : StartInputs) (s : State) :
    (s.reinstated cause inp).conditionsCover := by
  have str := s.str_reinstated cause inp
  have present := s.present_reinstated cause inp
  obtain ⟨q, g, e⟩ := s.reinstated_eq cause inp
  have conditions : (s.reinstated cause inp).stab.conditions = (s.storeAtStart inp).read.table.conditions := by rw [e]
  have accepted : (s.reinstated cause inp).fli.accepted = .unknown := by
    rw [e]
    rfl
  generalize (s.storeAtStart inp).read = r at str present conditions
  refine ⟨fun i hp => ?_, fun kc hkc hk i hp => ?_, fun m => ?_⟩
  · rw [present] at hp
    rw [str, ReadRecords.record_eq, if_neg (Bool.eq_false_iff.1 hp)]
    rfl
  · rw [present] at hp
    rw [State.has, str, ReadRecords.record_eq, if_pos hp]
    refine StringRecord.has_puts _ _ _ (.inr ?_)
    rw [conditions] at hkc
    simp only [ReadRecords.table, Conditions.standing, List.mem_cons, List.not_mem_nil, or_false] at hkc
    unfold ReadRecords.raised
    rcases hkc with rfl | rfl | rfl | rfl
    · exact ⟨.fire, by simp_all, rfl⟩
    · exact ⟨.start, by simp, rfl⟩
    · exact ⟨.store, by simp_all, rfl⟩
    · exact ⟨.arc, by simp_all, rfl⟩
  · rw [accepted] at m
    rcases m with m | m <;> cases m

/-- A stored hold of a string PRESENT in both records is on it after a start-up (R179). -/
theorem State.reinstated_has (cause : StartCause) (inp : StartInputs) {k : HoldKind} (hk : k.stored = true)
    (hs : ((s.storeAtStart inp).read.settings.strings[i]).present = true)
    (hh : ((s.storeAtStart inp).read.holds[i]).present = true)
    (on : ((s.storeAtStart inp).read.holds[i]).holds[k.slot] = true) : (s.reinstated cause inp).has k i = true := by
  rw [State.has, State.str_reinstated, ReadRecords.record_eq, if_pos hs]
  refine StringRecord.has_puts _ _ _ (.inl ?_)
  have whole : (s.storeAtStart inp).read.restored i = (s.storeAtStart inp).read.holds[i] :=
    if_pos (by rw [hs, hh]; rfl)
  rw [whole]
  refine (storedHolds_get _ k).trans ?_
  rw [hk, on]
  rfl

theorem Tabled.losePower (s : State) : Tabled True (fun _ _ => True) s s.losePower := by
  obtain ⟨ha, hb⟩ := s.cfs.loseSupply_holds
  have str (i : StringId) : s.losePower.str i = emptyRecord := by
    simp [State.str, State.losePower, State.off]
  refine ⟨fun x => ⟨fun i => ?_, fun i => ?_, fun w m => ?_⟩, fun _ => ⟨fun i _ => ?_, fun kc hkc hk => ?_, fun m => ?_⟩,
    fun hf => absurd trivial hf, fun _ _ hn => absurd trivial hn⟩
  · rw [str]
    decide
  · exact ⟨(congrArg (fun r : HoldRecord => r[i].exact) ha).mpr (x.2.1 i).1,
      (congrArg (fun r : HoldRecord => r[i].exact) hb).mpr (x.2.1 i).2⟩
  · cases m
  · rw [str]
    rfl
  · simp only [State.losePower, State.off, Conditions.standing, List.mem_cons, List.not_mem_nil, or_false] at hkc
    rcases hkc with rfl | rfl | rfl | rfl <;> cases hk
  · rcases m with m | m <;> cases m

/-! ### What the walk needs -/

/-- A command is a start-up. -/
def startsUp (c : Instr) : Prop := ∃ inp, c = .powerUp inp ∨ c = .supplyDip inp ∨ c = .restartWaitEnd inp

theorem Tabled.needs {c : Instr} (hF : startsUp c ∨ c = .powerLoss → F)
    (hE : startsUp c ∨ c = .powerLoss → ∀ i code, E i code)
    (hr : ∀ b, c = .release .m b → ∀ j, listed (b.drop 8) j → E j (lockCodeOf b))
    (ha : ∀ p b, c = .setPresenceAbsent p b → ∀ j, byteAt b 0 = byte (stringNumber j) → E j (lockCodeOf (b.drop 2)))
    (s : State) : Walk.Needs (Tabled F E) c s := by
  refine ⟨fun p b hc u h => ?_, fun p b hc u i h => ?_, fun cause inp hc => ?_, fun hc => ?_⟩
  · exact Tabled.release p b u (fun j hp hl => hr b (hp ▸ hc) j (by rw [hp] at hl; exact hl)) h
  · obtain ⟨hn, hret, hcode⟩ := State.presenceCheck_names h
    refine Tabled.makeAbsent i u (State.presenceCheck_changes h) hret fun code hv hl => ?_
    have same := hcode rfl hv
    rw [hl, Option.some.injEq] at same
    exact same ▸ ha p b hc i hn
  · have start : startsUp c := ⟨inp, hc⟩
    exact ⟨fun x => (Tabled.startUp (F := F) (E := E) cause inp s).exact (State.reinstated_exact cause inp x),
      fun _ => (Tabled.startUp (F := F) (E := E) cause inp s).cover (s.reinstated_cover cause inp),
      fun hf => absurd (hF (.inl start)) hf, fun i code hn => absurd (hE (.inl start) i code) hn⟩
  · have lost := Tabled.losePower s
    exact ⟨lost.exact, lost.cover, fun hf => absurd (hF (.inr hc)) hf, fun i code hn => absurd (hE (.inr hc) i code) hn⟩

theorem Tabled.step (h : Machine.step s = .next t) : Tabled True (fun _ _ => True) s t :=
  Tabled.walk.step (fun _ u _ => Tabled.needs (fun _ => trivial) (fun _ _ _ => trivial) (fun _ _ _ _ => trivial)
    (fun _ _ _ _ _ => trivial) u) h

end Sys2Proof.Machine
end

section

namespace Sys2Proof.Machine

/-- Settles O7: every operation of every command leaves the records exact. -/
theorem detailsStandExactlyWithTheirHolds : Obligations.DetailsStandExactlyWithTheirHolds :=
  fun _ _ hs h => (Tabled.step h).exact hs

/-- Settles O8: every operation of every command leaves the conditions covered. -/
theorem conditionsCoverThePresentStrings : Obligations.ConditionsCoverThePresentStrings :=
  fun _ _ hs h => (Tabled.step h).cover hs

/-- Settles O19: nothing takes RETIRED, and a start-up puts the stored holds on the strings before it goes on. -/
theorem retiredIsForGood : Obligations.RetiredIsForGood := by
  intro c s t i h
  refine ⟨fun hs hl on => ?_, fun inp hc h1 h2 h3 => ?_⟩
  · have none_ : ¬(startsUp c ∨ c = .powerLoss) := by
      rintro (⟨inp, rfl | rfl | rfl⟩ | hc)
      · exact (hs inp).1 rfl
      · exact (hs inp).2.1 rfl
      · exact (hs inp).2.2 rfl
      · exact hl hc
    have walked := Tabled.walk.exec (Tabled.needs (F := False) (E := fun _ _ => True) (fun x => none_ x)
      (fun _ _ _ => trivial) (fun _ _ _ _ => trivial) (fun _ _ _ _ _ => trivial) s) h
    exact walked.retired id i on
  · obtain ⟨cause, ht⟩ : ∃ cause, t = s.startUp cause inp := by
      rcases hc with hc | ⟨hp, rfl⟩ | ⟨hp, hw, rfl⟩
      · rw [hc] at h
        exact ⟨.powerUp, (Host.Outcome.next.inj h).symm⟩
      · refine ⟨.supplyDip, (Host.Outcome.next.inj (Eq.trans ?_ h)).symm⟩
        exact congrArg Host.Outcome.next (if_pos (by simp [hp])).symm
      · refine ⟨.request, (Host.Outcome.next.inj (Eq.trans ?_ h)).symm⟩
        exact congrArg Host.Outcome.next (if_pos (by simp [hp, hw])).symm
    rw [ht]
    exact (Tabled.startUp (F := False) (E := fun _ _ => True) cause inp s).retired id i
      (State.reinstated_has cause inp rfl h1 h2 h3)

/-- Settles O20: RELEASE and SET PRESENCE take a lockout only with its code, and nothing else takes SVC. -/
theorem lockoutsEndOnlyByTheirCode : Obligations.LockoutsEndOnlyByTheirCode := by
  intro c s t i code h hv hl hs hp hr ha
  have none_ : ¬(startsUp c ∨ c = .powerLoss) := by
    rintro (⟨inp, rfl | rfl | rfl⟩ | hc)
    · exact (hs inp).1 rfl
    · exact (hs inp).2.1 rfl
    · exact (hs inp).2.2 rfl
    · exact hp hc
  have walked := Tabled.walk.exec (Tabled.needs (F := True) (E := fun j x => j = i → x ≠ code) (fun _ => trivial)
    (fun x => absurd x none_) (fun b hc j hj e hx => hr b hc hx (e ▸ hj))
    (fun p b hc j hj e hx => ha p b hc hx (e ▸ hj)) s) h
  exact walked.lockout i code (fun hn => hn rfl rfl) ⟨hv, hl⟩

end Sys2Proof.Machine
end

section
/-! SUPPORT. The strings that an active search freezes through every command: each stays with a hold (R51, R128). -/

namespace Sys2Proof.Machine

variable {L : StringId → HoldKind → Prop} {s t u : State} {i j : StringId}

/-! ### Frozen strings and turns of the records -/

theorem State.frozenRight_iff (s : State) :
    s.frozenRight ↔ ∀ i, s.frozen i = true → (s.str i).holds ≠ noHolds := by
  refine ⟨fun h i hf hn => ?_, fun h ha i hp hr => ?_⟩
  · simp only [State.frozen, Bool.and_eq_true, Bool.not_eq_true'] at hf
    obtain ⟨⟨ha, hp⟩, hr⟩ := hf
    have k := h ha i hp hr
    rw [State.target, hp, hn] at k
    simp at k
  · have k := h i (by simp [State.frozen, ha, hp, hr])
    simp [State.target, k]

/-- One state comes of another by work that leaves the frozen strings right. -/
def Freezes (s t : State) : Prop := s.frozenRight → t.frozenRight

theorem Turns.freezes (h : Turns L s t) : Freezes s t := by
  intro hs
  rw [State.frozenRight_iff] at hs ⊢
  intro i hf
  rw [State.frozen_of_frame h.frame] at hf
  have run := h.str i
  rw [hf] at run
  exact run.keeps (P := fun r => r.holds ≠ noHolds) Turn.frozen (hs i hf)

theorem State.frozenRight_idle (h : s.gsu.state = .idle) : s.frozenRight := by
  intro ha
  simp [State.searchActive, h] at ha

/-! ### The search's own work (R128 to R138) -/

/-- Any kind may be taken. -/
def AnyKind (_ : StringId) (_ : HoldKind) : Prop := True

theorem anyKind (i : StringId) : AnyKind i .switch := trivial

/-- A string with the hold of a kind has some hold. -/
theorem State.held_of_has {k : HoldKind} (h : s.has k i = true) : (s.str i).holds ≠ noHolds := HoldSet.ne_noHolds h

/-- The unit's additions reach the strings that its changed books freeze (R128). -/
theorem State.frozenRight_added {x : Hold} (hx : x.ofSearch) (xs : List StringId)
    (h : ∀ i, s.frozen i = true → i ∈ xs ∨ (s.str i).holds ≠ noHolds) : (s.addHolds x xs).frozenRight := by
  have run := Turns.addHolds (L := AnyKind) anyKind x hx.kinds.2 xs s
  rw [State.frozenRight_iff]
  intro i hf
  rw [State.frozen_of_frame run.frame] at hf
  rcases h i hf with m | hn
  · simp only [State.frozen, Bool.and_eq_true] at hf
    exact State.held_of_has (State.has_addHolds x hx.kinds.1 hx.kinds.2 xs m s hf.1.2)
  · have k := run.str i
    rw [hf] at k
    exact k.keeps (P := fun r => r.holds ≠ noHolds) Turn.frozen hn

theorem Freezes.seek : Seek State.frozenRight where
  addHold x j hx h := (Turns.addHold (L := AnyKind) anyKind x hx.kinds.2 j _).freezes h
  removeHold j h := (Turns.removeHold (L := AnyKind) anyKind .search j trivial _).freezes h
  takeReports h := (Turns.takeReports (L := AnyKind) _).freezes h
  emit k x a b h := (Turns.emit (L := AnyKind) k x a b _).freezes h
  modImon f h := h
  widen {s} f hw h := by
    rcases hw with hi | ⟨ha, hr⟩
    · exact State.frozenRight_idle hi
    · rw [State.frozenRight_iff] at h ⊢
      intro i hf
      refine h i ?_
      simp only [State.frozen, Bool.and_eq_true, Bool.not_eq_true'] at hf ⊢
      refine ⟨⟨by simpa [State.searchActive] using ha, hf.1.2⟩, Bool.eq_false_iff.2 fun e => ?_⟩
      rw [hr i e] at hf
      exact nomatch hf.2
  regroup {s} f xs ha hr h := by
    refine State.frozenRight_added (.inl rfl) xs fun i hf => ?_
    simp only [State.frozen, Bool.and_eq_true, Bool.not_eq_true'] at hf
    obtain ⟨⟨hact, hp⟩, hn⟩ := hf
    by_cases e : s.released i = true
    · exact .inl (hr i e hn)
    · refine .inr ((State.frozenRight_iff s).1 h i ?_)
      have active : s.searchActive = true := by
        simp only [State.searchActive, State.modGsu_gsu, bne_iff_ne, ne_eq] at hact ⊢
        exact fun x => hact (ha x)
      simp only [State.frozen, Bool.and_eq_true, Bool.not_eq_true']
      exact ⟨⟨active, hp⟩, Bool.eq_false_iff.2 e⟩
  start {s} cause x hx _ := by
    refine State.frozenRight_added hx _ fun i hf => .inl ?_
    simp only [State.frozen, Bool.and_eq_true] at hf
    exact (State.mem_presentSet _ i).2 hf.1.2

/-! ### Conditions and presence -/

theorem Freezes.standFire (s : State) : Freezes s s.standFire := by
  intro h
  have added := (Turns.addHolds (L := AnyKind) anyKind .fire (by decide) s.presentSet
    (s.modStab fun t => { t with conditions := { t.conditions with fire := true } })).freezes h
  unfold State.standFire
  simp only []
  split
  · exact h
  · exact Freezes.seek.abortSearch
      (((Turns.emitHoldChanged (L := AnyKind) _ _ _ _ _).trans (.takeReports _)).freezes added)

theorem Freezes.standArc (s : State) : Freezes s s.standArc := by
  intro h
  have added := (Turns.addHolds (L := AnyKind) anyKind .arc (by decide) s.presentSet
    (s.modStab fun t => { t with conditions := { t.conditions with arc := true } })).freezes h
  unfold State.standArc
  simp only []
  split
  · exact h
  · exact Freezes.seek.abortSearch ((Turns.takeReports (L := AnyKind) _).freezes added)

theorem Freezes.acceptLoop (s : State) : Freezes s s.acceptLoop := by
  have emitted (v : State) (a b : Int) (h : v.frozenRight) : (v.emit .fireLine none a b).frozenRight :=
    (Turns.emit (L := AnyKind) _ _ _ _ _).freezes h
  intro h
  unfold State.acceptLoop
  simp only []
  split
  · exact h
  · split
    · exact emitted _ _ _ (Freezes.standFire _ h)
    · exact emitted _ _ _ h

/-- A string made PRESENT is under SVC at once (R70). -/
theorem Freezes.makePresent (i : StringId) (code : LockCode) (s : State) : Freezes s (s.makePresent i code) := by
  have put := Turns.putHold (L := AnyKind) (.svc code) (fun e => nomatch e) i (s.admits i)
  have rest := (Turns.addConditions (L := AnyKind) i ((s.admits i).putHold (.svc code) i)).trans
    (.welcomes s.stab.conditions.fire i _)
  intro h
  rw [State.makePresent_eq]
  refine rest.freezes ?_
  rw [State.frozenRight_iff] at h ⊢
  intro j hf
  by_cases hj : j = i
  · subst hj
    exact State.held_of_has (State.has_putHold (x := .svc code) (fun e => nomatch e)
      ((State.present_admits j j s).trans (if_pos rfl)))
  · rw [State.frozen_of_frame put.frame] at hf
    have run := put.str j
    rw [hf] at run
    refine run.keeps (P := fun r => r.holds ≠ noHolds) Turn.frozen (h j ?_)
    have same : (s.admits i).frozen j = s.frozen j := by
      unfold State.frozen
      rw [State.present_admits, if_neg hj]
      rfl
    exact same ▸ hf

theorem State.released_dropAbsent (hj : j ≠ i) (h : s.released j = true) :
    ({ s with gsu := s.gsu.dropAbsent i } : State).released j = true := by
  have keeps (xs : List StringId) (m : xs.contains j = true) : (minus xs [i]).contains j = true :=
    List.contains_iff_mem.2 (mem_minus.2 ⟨List.contains_iff_mem.1 m, by simpa using hj⟩)
  unfold State.released at h ⊢
  simp only [Gsu.dropAbsent]
  cases hs : s.gsu.state <;> simp only [hs, Bool.or_eq_true] at h ⊢
  · exact h
  · exact h
  · exact h
  all_goals
    rcases h with h | h
    · exact .inl h
    · exact .inr (keeps _ h)

theorem State.frozen_congr (hp : t.present j = s.present j) (hg : t.gsu = s.gsu) : t.frozen j = s.frozen j := by
  rw [State.frozen, State.searchActive, State.released, hp, hg]
  rfl

/-- A string made ABSENT is frozen no more, and the others are as they were (R69, R141). -/
theorem Freezes.makeAbsent (hs : s.switchState i = .opened) : Freezes s (s.makeAbsent i) := by
  have gone := State.makeAbsent_leaves hs
  have tab := State.table_makeAbsent hs
  intro h
  rw [State.frozenRight_iff] at h ⊢
  intro j hf
  have hp : (s.makeAbsent i).present j = if j = i then false else s.present j :=
    (State.present_of_table tab j).trans (State.present_dropped_or i j s)
  by_cases hj : j = i
  · rw [if_pos hj] at hp
    rw [State.frozen, hp] at hf
    simp at hf
  · rw [gone.str j, if_neg hj]
    rw [if_neg hj] at hp
    refine h j ?_
    have found := gone.search
    split at found
    · next active =>
      simp only [State.frozen, Bool.and_eq_true, Bool.not_eq_true'] at hf ⊢
      refine ⟨⟨active, hp ▸ hf.1.2⟩, Bool.eq_false_iff.2 fun e => ?_⟩
      have same : (s.makeAbsent i).released j = ({ s with gsu := s.gsu.dropAbsent i } : State).released j := by
        unfold State.released
        rw [found]
      have still := State.released_dropAbsent hj e
      rw [← same, hf.2] at still
      cases still
    · exact State.frozen_congr hp found ▸ hf

theorem Freezes.beginWrite (s : State) : Freezes s s.beginWrite := by
  intro h
  unfold State.beginWrite
  split
  · exact h
  · exact h

/-- A start-up leaves no search active (R179). -/
theorem Freezes.startUp (cause : StartCause) (inp : StartInputs) (s : State) : (s.startUp cause inp).frozenRight := by
  have idle : (s.reinstated cause inp).gsu.state = .idle := by
    obtain ⟨q, g, e⟩ := s.reinstated_eq cause inp
    rw [e]
    rfl
  have measured (v : State) (h : v.frozenRight) : (v.startMeasurement .periodic .routine).frozenRight := h
  rw [State.startUp_eq]
  have recovered := (Turns.recoverRelays (L := AnyKind) anyKind _).freezes (State.frozenRight_idle idle)
  exact Freezes.beginWrite _ (measured _ recovered)

/-! ### The walk -/

theorem Freezes.walk : Walk Freezes where
  refl _ := id
  trans h k := k ∘ h
  quiet h := (Turns.quiet (L := AnyKind) h).freezes
  beginWrite := .beginWrite
  finishWrite s w _ := by
    have e : (s.modCfs fun c => c.finish w.image).frozenRight = s.frozenRight := rfl
    exact fun h => e ▸ h
  addHold x i s _ ho := (Turns.addHold (L := AnyKind) anyKind x ho i s).freezes
  addOvercurrent i current time s := (Turns.addOvercurrent (L := fun _ k => k = .switch) (fun _ => rfl)
    (fun _ e => nomatch e) i current time s).freezes
  removeHold k i s _ := (Turns.removeHold (L := AnyKind) anyKind k i trivial s).freezes
  setCount i n s := (Turns.modCount (L := AnyKind) i n s).freezes
  arbiter s := (Turns.arbiter (L := AnyKind) anyKind s).freezes
  testAndJoinQ i s := (Turns.testAndJoinQ (L := AnyKind) i s).freezes
  feedbackClosed i s := (Turns.feedbackClosed (L := AnyKind) anyKind i s).freezes
  feedbackOpen i s := (Turns.feedbackOpen (L := AnyKind) anyKind i s).freezes
  cross i s := (Turns.cross (L := AnyKind) anyKind i s).freezes
  rampTest s := (Turns.rampTest (L := AnyKind) s).freezes
  rampEnds i s _ := (Turns.rampEnds (L := AnyKind) i s).freezes
  enterCurtailWait i s _ := (Turns.enterCurtailWait (L := AnyKind) i s).freezes
  becomeFaulted i kind s _ := (Turns.becomeFaulted (L := AnyKind) i kind s).freezes
  startRetest i s _ := (Turns.startRetest (L := AnyKind) anyKind i s).freezes
  retestFails r kind s _ := (Turns.retestFails (L := AnyKind) r.string kind s).freezes
  endRetest r s _ := (Turns.endRetest (L := AnyKind) r.string s).freezes
  settle _ := Freezes.seek.settle
  abortSearch _ := Freezes.seek.abortSearch
  startSearch cause _ := Freezes.seek.startSearch cause
  searchMeasured reading _ := Freezes.seek.searchMeasured reading
  stepTimerExpires _ := Freezes.seek.stepTimerExpires
  standArc := .standArc
  acceptLoop := .acceptLoop
  clear k xs s _ _ h := (Turns.removeHolds (L := AnyKind) anyKind k xs (fun _ _ => trivial) _).freezes h
  makePresent i code s _ _ := .makePresent i code s

theorem Freezes.needs (c : Instr) (s : State) : Walk.Needs Freezes c s where
  release _ _ _ u _ := (Turns.removeHolds (L := AnyKind) anyKind _ _ (fun _ _ => trivial) u).freezes
  absent _ _ _ _ _ h := Freezes.makeAbsent (State.presenceCheck_changes h)
  startUp cause inp _ _ := Freezes.startUp cause inp s
  losePower _ _ := State.frozenRight_idle rfl

end Sys2Proof.Machine
end

section

namespace Sys2Proof.Machine

/-- Settles O18: a frozen string loses its last hold to SEARCH, and the search frees only strings that it releases. -/
theorem frozenStringsStayOpen : Obligations.FrozenStringsStayOpen :=
  fun _ _ hs h => Freezes.walk.step (fun c u _ => Freezes.needs c u) h hs

end Sys2Proof.Machine
end

section
/-! SUPPORT. What `closesOnlyFree` alone says, of a state whose coil entries and waiting requests may be any (R50, R77, R82,
R94, R96, R99), and that the sequencer's operations keep it. -/

namespace Sys2Proof.Machine

variable {s t u : State} {v w : View} {i j : StringId} {ex : StringId → Prop}

/-! ### The invariants of closing, but for some strings' targets -/

/-- The invariants of closing, the targets of the strings of `ex` apart. -/
structure View.Lax (ex : StringId → Prop) (v : View) : Prop where
  absent : ∀ i, v.present i = false → v.state i = .absent
  closing : ∀ i, v.closes i → ex i ∨ v.target i = true
  drive : ∀ i, v.drive i ≠ .off → v.state i = .ramping ∨ v.state i = .closed
  ramp : ∀ i ∈ v.rampList, v.state i = .rampWait
  nodup : v.rampList.Nodup
  retest : ∀ r ∈ v.retest, v.state r.string = .faulted

/-- No string's target is left out. -/
def nobody (_ : StringId) : Prop := False

theorem State.lax_iff (s : State) : s.view.Lax nobody ↔ s.closesOnlyFree := by
  constructor
  · rintro ⟨h1, h2, h3, h4, h5, h6⟩
    exact ⟨h1, fun i c => (h2 i c).resolve_left id, h3, h4, h5, h6⟩
  · rintro ⟨h1, h2, h3, h4, h5, h6⟩
    exact ⟨h1, fun i c => .inr (h2 i c), h3, h4, h5, h6⟩

/-- A string that is PRESENT with its switch off, on no ramp list and under no retest: it may take any state. -/
structure View.Ready (v : View) (i : StringId) : Prop where
  present : v.present i = true
  drive : v.drive i = .off
  ramp : i ∉ v.rampList
  retest : ∀ r ∈ v.retest, r.string ≠ i

/-- A view without its coil entries, its capture and its waiting request. -/
def View.core (v : View) : View := { v with queue := [], capture := none, waiting := none }

theorem View.Lax.of_core (h : v.Lax ex) (e : w.core = v.core) : w.Lax ex := by
  have k : w.core.Lax ex := by
    rw [e]
    exact ⟨h.absent, h.closing, h.drive, h.ramp, h.nodup, h.retest⟩
  exact ⟨k.absent, k.closing, k.drive, k.ramp, k.nodup, k.retest⟩

theorem View.Ready.of_core (h : v.Ready i) (e : w.core = v.core) : w.Ready i := by
  have k : w.core.Ready i := by
    rw [e]
    exact ⟨h.present, h.drive, h.ramp, h.retest⟩
  exact ⟨k.present, k.drive, k.ramp, k.retest⟩

theorem View.Abandons.core (h : v.Abandons w) : w.core = v.core := by
  rcases h with rfl | ⟨o, rfl, -⟩ <;> rfl

theorem View.Lax.loosen (h : v.Lax nobody) : v.Lax ex :=
  ⟨h.absent, fun i c => .inr ((h.closing i c).resolve_left id), h.drive, h.ramp, h.nodup, h.retest⟩

/-- A string whose target was left out has a target again, or no longer closes. -/
theorem View.Lax.settles (h : v.Lax (· = i)) (hi : v.closes i → v.target i = true) : v.Lax nobody :=
  ⟨h.absent, fun j c => (h.closing j c).elim (fun e => .inr (e ▸ hi (e ▸ c))) .inr, h.drive, h.ramp, h.nodup, h.retest⟩

theorem View.Lax.driveOff (h : v.Lax ex) (hs : v.state i ≠ .ramping ∧ v.state i ≠ .closed) : v.drive i = .off := by
  by_contra hd
  exact (h.drive i hd).elim hs.1 hs.2

theorem View.Lax.present (h : v.Lax ex) (hs : v.state i ≠ .absent) : v.present i = true := by
  by_contra hp
  exact hs (h.absent i (Bool.eq_false_iff.2 hp))

/-- A string in a state that no rule of closing names may take any other. -/
theorem View.Lax.ready (h : v.Lax ex) (hp : v.present i = true)
    (hs : v.state i ∉ [SwitchState.ramping, .closed, .rampWait, .faulted]) : v.Ready i := by
  simp only [List.mem_cons, List.not_mem_nil, or_false, not_or] at hs
  obtain ⟨h1, h2, h3, h4⟩ := hs
  exact ⟨hp, h.driveOff ⟨h1, h2⟩, fun m => h3 (h.ramp i m), fun r m e => h4 (e ▸ h.retest r m)⟩

/-! ### Changes of one string -/

theorem View.Lax.setHolds (h : v.Lax ex) (i : StringId) (y : HoldSet) (hi : v.closes i → ex i) :
    View.Lax ex { v with holds := Function.update v.holds i y } := by
  refine ⟨h.absent, fun j c => ?_, h.drive, h.ramp, h.nodup, h.retest⟩
  by_cases hj : j = i
  · exact .inl (hj ▸ hi (hj ▸ c))
  · have k := h.closing j c
    unfold View.target at k ⊢
    simp only [Function.update_of_ne hj]
    exact k

/-- A change of one string that the ramp list and the retest do not name, to what the invariants say of one string. -/
theorem View.Lax.one (h : v.Lax ex) (ha : v.OffAgrees w i) (hl : w.rampList = v.rampList) (hq : w.retest = v.retest)
    (hr : i ∉ v.rampList) (ht : ∀ r ∈ v.retest, r.string ≠ i) (absent : w.present i = false → w.state i = .absent)
    (closing : w.closes i → ex i ∨ w.target i = true)
    (drive : w.drive i ≠ .off → w.state i = .ramping ∨ w.state i = .closed) : w.Lax ex := by
  refine ⟨fun j hp => ?_, fun j c => ?_, fun j hd => ?_, fun j m => ?_, hl ▸ h.nodup, fun q m => ?_⟩
  · by_cases hj : j = i
    · exact hj ▸ absent (hj ▸ hp)
    · rw [ha.state j hj]
      exact h.absent j (ha.present j hj ▸ hp)
  · by_cases hj : j = i
    · exact hj ▸ closing (hj ▸ c)
    · unfold View.closes at c
      rw [ha.state j hj] at c
      rw [View.target, ha.present j hj, ha.holds j hj]
      exact h.closing j c
  · by_cases hj : j = i
    · exact hj ▸ drive (hj ▸ hd)
    · rw [ha.state j hj]
      exact h.drive j (ha.drive j hj ▸ hd)
  · rw [hl] at m
    rw [ha.state j fun e => hr (e ▸ m)]
    exact h.ramp j m
  · rw [hq] at m
    rw [ha.state q.string (ht q m)]
    exact h.retest q m

/-- A ready string takes a state; where it closes there, its target is CLOSED or left out. -/
theorem View.Lax.setState (h : v.Lax ex) (r : v.Ready i) (x : SwitchState) (y : HoldSet)
    (hy : x ∈ [SwitchState.pendingClose, .rampWait, .ramping, .closed] → ex i ∨ (y = v.holds i ∧ v.target i = true)) :
    View.Lax ex { v with state := Function.update v.state i x, holds := Function.update v.holds i y } := by
  have ha := View.OffAgrees.of_update (v := v) (i := i) x y (v.drive i) v.queue v.rampList (fun _ m _ => m)
    (fun _ m _ => m)
  rw [Function.update_eq_self] at ha
  refine h.one ha rfl rfl r.ramp r.retest (fun hp => ?_) (fun c => ?_) (fun hd => absurd r.drive hd)
  · exact absurd (r.present.symm.trans hp) (by decide)
  · refine (hy (by simpa [View.closes] using c)).imp_right fun ⟨e, ht⟩ => ?_
    rw [e, Function.update_eq_self]
    exact ht

/-- A string that the ramp list and the retest do not name comes to ramp or to be CLOSED with its target CLOSED. -/
theorem View.Lax.conducts (h : v.Lax ex) (hr : i ∉ v.rampList) (hq : ∀ r ∈ v.retest, r.string ≠ i)
    (ht : v.target i = true) (d : Drive) {x : SwitchState} (hx : x = .ramping ∨ x = .closed) :
    View.Lax ex { v with drive := Function.update v.drive i d, state := Function.update v.state i x } := by
  have ha := View.OffAgrees.of_update (v := v) (i := i) x (v.holds i) d v.queue v.rampList (fun _ m _ => m)
    (fun _ m _ => m)
  rw [Function.update_eq_self i v.holds] at ha
  refine h.one ha rfl rfl hr hq (fun hp => ?_) (fun _ => .inr ht) (fun _ => ?_)
  · simp [View.target, show v.present i = false from hp] at ht
  · simpa using hx

/-! ### A ready string at work -/

/-- The invariants, some targets apart, with a string that may take any state. -/
structure State.Work (ex : StringId → Prop) (i : StringId) (s : State) : Prop where
  lax : s.view.Lax ex
  ready : s.view.Ready i

theorem State.Work.of_core (h : s.Work ex i) (e : t.view.core = s.view.core) : t.Work ex i :=
  ⟨h.lax.of_core e, h.ready.of_core e⟩

theorem State.core_emit (k : EventKind) (x : Option StringId) (a b : Int) (s : State) :
    (s.emit k x a b).view.core = s.view.core := by
  rw [State.view_emit]

theorem State.core_takeReports (s : State) : s.takeReports.view.core = s.view.core := s.view_takeReports.core

theorem State.core_joinQueue (i : StringId) (m : Mark) (s : State) : (s.joinQueue i m).view.core = s.view.core := by
  rw [State.view_joinQueue]
  rfl

theorem State.core_leaveQueue (i : StringId) (s : State) : (s.leaveQueue i).view.core = s.view.core := rfl

theorem State.core_modSwitch (i : StringId) (f : Switch → Switch) (s : State)
    (hf : ∀ w, (f w).state = w.state ∧ (f w).drive = w.drive) : (s.modSwitch i f).view.core = s.view.core := by
  rw [State.view_modSwitch_same i f s hf]

theorem State.core_startDwell (i : StringId) (s : State) : (s.startDwell i).view.core = s.view.core :=
  State.core_modSwitch i _ s fun _ => ⟨rfl, rfl⟩

theorem State.core_setTimer (i : StringId) (x : Option Nat) (s : State) : (s.setTimer i x).view.core = s.view.core :=
  State.core_modSwitch i _ s fun _ => ⟨rfl, rfl⟩

theorem State.core_endUnitWait (x : Wait) (s : State) : (s.endUnitWait x).view.core = s.view.core := by
  rcases State.view_endUnitWait x s with e | ⟨e, -⟩ <;> rw [e]
  rfl

theorem State.core_abandonCapture (i : StringId) (s : State) : (s.abandonCapture i).view.core = s.view.core :=
  (State.view_abandonCapture i s).core

/-- A ready string enters a state; where it closes there, its target is CLOSED or left out. -/
theorem State.Work.enter (h : s.Work ex i) (new : SwitchState) (timer : Option Nat)
    (hn : new ∈ [SwitchState.pendingClose, .rampWait, .ramping, .closed] → ex i ∨ s.target i = true) :
    (s.enter i new timer).Work ex i := by
  obtain ⟨y, e, hy⟩ := State.view_enter i new timer s
  refine ⟨?_, ?_⟩
  · rw [e]
    refine h.lax.setState h.ready new y fun m => ?_
    exact (hn m).imp_right fun ht => ⟨hy (by rintro rfl; simp at m), ht⟩
  · rw [e]
    exact ⟨h.ready.present, h.ready.drive, h.ready.ramp, h.ready.retest⟩

theorem State.Work.emit (h : s.Work ex i) (k : EventKind) (x : Option StringId) (a b : Int) : (s.emit k x a b).Work ex i :=
  h.of_core (State.core_emit k x a b s)

theorem State.Work.takeReports (h : s.Work ex i) : s.takeReports.Work ex i := h.of_core s.core_takeReports

theorem View.Lax.putHold (h : s.view.Lax ex) (x : Hold) (i : StringId) (hi : s.view.closes i → ex i) :
    (s.putHold x i).view.Lax ex := by
  obtain ⟨y, e⟩ := State.view_putHold x i s
  rw [e]
  exact h.setHolds i y hi

/-- A string in a state of the relay's or current's work, or in OPEN, may take any other. -/
theorem View.Lax.ready_of (h : s.view.Lax ex) {x : SwitchState} (hs : s.switchState i = x)
    (hx : x ∉ [SwitchState.ramping, .closed, .rampWait, .faulted, .absent]) : s.Work ex i := by
  have hv : s.view.state i = x := hs
  simp only [List.mem_cons, List.not_mem_nil, or_false, not_or] at hx
  exact ⟨h, h.ready (h.present (by simp [hv, hx])) (by simp [hv, hx])⟩

/-- A string at work ends its work in a state that does not close. -/
theorem State.Work.rest (h : s.Work ex i) (hex : ∀ j, ex j → j = i) {x : SwitchState} (hs : s.switchState i = x)
    (hx : x ∉ [SwitchState.pendingClose, .rampWait, .ramping, .closed]) : s.view.Lax nobody := by
  have lax : s.view.Lax (· = i) := ⟨h.lax.absent, fun j c => (h.lax.closing j c).imp_left (hex j), h.lax.drive, h.lax.ramp,
    h.lax.nodup, h.lax.retest⟩
  refine lax.settles fun c => absurd ?_ hx
  unfold View.closes at c
  rw [show s.view.state i = x from hs] at c
  simpa using c

theorem nobody_eq (j i : StringId) (h : nobody j) : j = i := h.elim

/-! ### Opening (R84 to R87) -/

theorem State.Work.enterCurtailWait (h : s.Work ex i) : (s.enterCurtailWait i).Work ex i := by
  have k := h.of_core (t := s.modSwitch i fun w => { w with periods := 0 })
    (State.core_modSwitch i _ s fun _ => ⟨rfl, rfl⟩)
  unfold State.enterCurtailWait
  exact (k.enter .curtailWait _ (by simp)).emit _ _ _ _

theorem State.Work.pendingOpenQ (h : s.Work ex i) (hex : ∀ j, ex j → j = i) : (s.pendingOpenQ i).view.Lax nobody := by
  have k := (h.enter .pendingOpen none (by simp)).of_core (State.core_joinQueue i .toOpen _)
  have state := State.switchState_pendingOpenQ i i s
  rw [if_pos rfl] at state
  have whole : (s.pendingOpenQ i).Work ex i := by
    unfold State.pendingOpenQ
    simp only []
    split
    · exact k
    · exact k.enterCurtailWait
  refine whole.rest hex state ?_
  split <;> simp

theorem State.Work.interruptQ (h : (s.drive i .off).Work ex i) (hex : ∀ j, ex j → j = i) :
    (s.interruptQ i).view.Lax nobody := by
  have k := h.enter .interrupting (some ((s.drive i .off).after ((s.drive i .off).cfgNat .tInterrupt))) (by simp)
  unfold State.interruptQ
  simp only []
  split
  · exact k.pendingOpenQ hex
  · refine k.rest hex ?_ (x := .interrupting) (by simp)
    rw [State.switchState_enter, if_pos rfl]

/-! ### Closing (R79 to R83) -/

theorem State.Work.pendingCloseQ (h : s.Work nobody i) (ht : s.target i = true) : (s.pendingCloseQ i).view.Lax nobody := by
  unfold State.pendingCloseQ
  exact (h.enter .pendingClose _ fun _ => .inr ht).lax.of_core (State.core_modSwitch i _ _ fun _ => ⟨rfl, rfl⟩)

theorem View.Lax.joinIfReadyQ (h : s.view.Lax ex) (i : StringId) : (s.joinIfReadyQ i).view.Lax ex := by
  unfold State.joinIfReadyQ
  split
  · exact h.of_core (State.core_joinQueue i _ s)
  · exact h

theorem View.Lax.testAndJoinQ (h : s.view.Lax ex) (i : StringId) : (s.testAndJoinQ i).view.Lax ex := by
  unfold State.testAndJoinQ
  split
  · refine View.Lax.joinIfReadyQ (h.of_core ?_) i
    exact State.core_modSwitch i _ s fun _ => ⟨rfl, rfl⟩
  · exact h

theorem View.Lax.startRamp (h : s.view.Lax nobody) {rest : List StringId} (hl : s.sseq.rampList = i :: rest) :
    (s.startRamp i).view.Lax nobody := by
  have hl' : s.view.rampList = i :: rest := hl
  have hi : s.view.state i = .rampWait := h.ramp i (by rw [hl']; simp)
  have hn := h.nodup
  rw [hl', List.nodup_cons] at hn
  have base : View.Lax nobody { s.view with rampList := rest } := by
    refine ⟨h.absent, h.closing, h.drive, fun j m => h.ramp j ?_, hn.2, h.retest⟩
    rw [hl']
    exact List.mem_cons_of_mem _ m
  have ht : s.view.target i = true := (h.closing i (.inr (.inl hi))).resolve_left id
  have hq : ∀ r ∈ s.view.retest, r.string ≠ i := fun r m e => by
    have k := h.retest r m
    rw [e, hi] at k
    cases k
  have view : (s.modSseq fun q => { q with
      rampList := q.rampList.drop 1
      slot := some { startedAt := s.now, freeAt := s.after (s.cfgNat .tSpace) } }).view =
      { s.view with rampList := rest } := by
    simp only [State.view, State.modSseq, hl]
    rfl
  unfold State.startRamp
  simp only []
  generalize s.modSseq (fun q => { q with
    rampList := q.rampList.drop 1
    slot := some { startedAt := s.now, freeAt := s.after (s.cfgNat .tSpace) } }) = u at view ⊢
  obtain ⟨y, e, hy⟩ := State.view_enter i .ramping (some (u.after (u.cfgNat .tRamp))) (u.drive i .ramping)
  rw [hy (by simp), Function.update_eq_self, State.view_drive, view] at e
  rw [e]
  exact base.conducts hn.1 hq ht .ramping (.inl rfl)

theorem View.Lax.rampStarts (n : Nat) {s : State} (h : s.view.Lax nobody) : (State.rampStarts n s).view.Lax nobody := by
  induction n generalizing s with
  | zero => exact h
  | succ n ih =>
    unfold State.rampStarts
    split
    · exact h
    · next hl =>
      split
      · exact ih (h.startRamp hl)
      · exact h

theorem View.Lax.rampEnds (h : s.view.Lax nobody) (hs : s.switchState i = .ramping) :
    (s.rampEnds i).view.Lax nobody := by
  have hi : s.view.state i = .ramping := hs
  obtain ⟨y, e, hy⟩ := State.view_enter i .closed none ((s.drive i .on).emit .stringConnected (some i) 0 0)
  rw [hy (by simp), Function.update_eq_self, State.view_emit, State.view_drive] at e
  unfold State.rampEnds
  rw [e]
  refine h.conducts (fun m => ?_) (fun r m k => ?_) ((h.closing i (.inr (.inr (.inl hi)))).resolve_left id) .on (.inr rfl)
  · have k := h.ramp i m
    rw [hi] at k
    cases k
  · have l := h.retest r m
    rw [k, hi] at l
    cases l

theorem State.Work.acceptClosedQ (h : s.Work nobody i) : (s.acceptClosedQ i).view.Lax nobody := by
  unfold State.acceptClosedQ
  split
  · next ht =>
    refine View.Lax.rampStarts _ ?_
    obtain ⟨k, r⟩ := h.enter .rampWait none fun _ => .inr ht
    have hs : (s.enter i .rampWait none).view.state i = .rampWait :=
      (State.switchState_enter i i .rampWait none s).trans (if_pos rfl)
    refine ⟨k.absent, k.closing, k.drive, fun j m => ?_, ?_, k.retest⟩
    · rcases List.mem_append.1 m with m | m
      · exact k.ramp j m
      · exact List.mem_singleton.1 m ▸ hs
    · exact List.Nodup.append k.nodup (List.nodup_singleton i) (List.disjoint_singleton.2 r.ramp)
  · exact h.pendingOpenQ fun j e => nobody_eq j i e

/-! ### Arrival in OPEN (R89) -/

theorem State.Work.arrive (h : s.Work nobody i) (hs : s.switchState i = .opened) :
    (if s.target i then s.pendingCloseQ i else s).view.Lax nobody := by
  split
  · next ht => exact h.pendingCloseQ ht
  · exact h.rest (fun j e => nobody_eq j i e) hs (by simp)

theorem State.Work.acceptOpenQ (h : s.Work nobody i) : (s.acceptOpenQ i).view.Lax nobody := by
  have k := (((h.of_core (State.core_startDwell i s)).emit .stringIsolated (some i) 0 0).enter .opened none
    (by simp)).takeReports
  unfold State.acceptOpenQ
  refine k.arrive ?_
  rw [State.switchState_takeReports, State.switchState_enter, if_pos rfl]

/-! ### Faults (R90, R91) -/

theorem View.Lax.off (h : v.Lax ex) (i : StringId) :
    View.Lax ex { v with drive := Function.update v.drive i .off } := by
  refine ⟨h.absent, h.closing, fun j hd => ?_, h.ramp, h.nodup, h.retest⟩
  by_cases hj : j = i
  · subst hj
    simp at hd
  · simp only [Function.update_of_ne hj] at hd
    exact h.drive j hd

theorem View.Lax.leaveRampList (h : s.view.Lax ex) (i : StringId) : (s.leaveRampList i).view.Lax ex :=
  ⟨h.absent, h.closing, h.drive, fun j m => h.ramp j (List.mem_filter.1 m).1, h.nodup.sublist List.filter_sublist,
    h.retest⟩

theorem View.Lax.becomeFaulted (h : s.view.Lax nobody) (hs : s.switchState i ≠ .faulted ∧ s.switchState i ≠ .absent)
    (kind : FaultKind) : (s.becomeFaulted i kind).view.Lax nobody := by
  have view : (((s.drive i .off).leaveQueue i).leaveRampList i).view = { s.view with
      drive := Function.update s.view.drive i .off, queue := s.view.queue.filter fun e => e.string != i
      rampList := s.view.rampList.filter fun j => j != i } := by
    rw [State.view_leaveRampList, State.view_leaveQueue, State.view_drive]
  have lax : (((s.drive i .off).leaveQueue i).leaveRampList i).view.Lax nobody := by
    refine View.Lax.leaveRampList (s := (s.drive i .off).leaveQueue i)
      (View.Lax.of_core (v := (s.drive i .off).view) ?_ rfl) i
    rw [State.view_drive]
    exact h.off i
  have ready : (((s.drive i .off).leaveQueue i).leaveRampList i).view.Ready i := by
    rw [view]
    refine ⟨h.present hs.2, Function.update_self .., fun m => ?_, fun r m e => hs.1 ?_⟩
    · simp at m
    · exact e ▸ h.retest r m
  unfold State.becomeFaulted
  simp only []
  generalize ((s.drive i .off).leaveQueue i).leaveRampList i = u at lax ready ⊢
  have work : (u.modSwitch i fun w => { w with dwell := .stopped }).Work nobody i :=
    State.Work.of_core ⟨lax, ready⟩ (State.core_modSwitch i _ u fun _ => ⟨rfl, rfl⟩)
  have k := work.enter .faulted none (by simp)
  have state : ((u.modSwitch i fun w => { w with dwell := .stopped }).enter i .faulted none).switchState i = .faulted := by
    rw [State.switchState_enter, if_pos rfl]
  have faulted := k.lax.putHold (.switch kind) i fun c => by
    unfold View.closes at c
    rw [show View.state _ i = _ from state] at c
    simp at c
  exact (faulted.of_core (State.core_takeReports _)).of_core (State.core_emit _ _ _ _ _)

theorem View.Lax.replaceFault (h : s.view.Lax nobody) (hs : s.switchState i = .faulted) (kind : FaultKind) :
    (s.replaceFault i kind).view.Lax nobody := by
  have faulted := h.putHold (.switch kind) i fun c => by
    unfold View.closes at c
    rw [show View.state _ i = _ from hs] at c
    simp at c
  unfold State.replaceFault
  exact (faulted.of_core (State.core_takeReports _)).of_core (State.core_emit _ _ _ _ _)

/-! ### The retest (R96 to R98) -/

theorem View.Lax.setRetest (h : s.view.Lax ex) {r : Retest} (hr : s.switchState r.string = .faulted) :
    (s.modSseq fun q => { q with retest := some r }).view.Lax ex := by
  refine ⟨h.absent, h.closing, h.drive, h.ramp, h.nodup, fun q m => ?_⟩
  cases m
  exact hr

theorem View.Lax.retestStepQ (h : s.view.Lax ex) (hs : s.switchState i = .faulted) (step : RetestStep) :
    (s.retestStepQ i step).view.Lax ex := by
  unfold State.retestStepQ
  exact (h.setRetest (r := { string := i, step := step, pulsed := false, timer := _ }) hs).of_core
    (State.core_joinQueue i _ _)

theorem View.Lax.endRetest (h : s.view.Lax ex) (i : StringId) : (s.endRetest i).view.Lax ex := by
  rw [State.view_endRetest]
  exact ⟨h.absent, h.closing, h.drive, h.ramp, h.nodup, fun _ m => nomatch m⟩

theorem View.Lax.takeHold (h : s.view.Lax nobody) (k : HoldKind) (i : StringId) : (s.takeHold k i).view.Lax nobody := by
  by_cases hk : s.has k i = true
  · obtain ⟨y, e⟩ := State.view_takeHold k i s
    refine (h.setHolds i y fun c => ?_).of_core e.core
    have ht : s.target i = true := (h.closing i c).resolve_left id
    simp only [State.target, Bool.and_eq_true, decide_eq_true_eq] at ht
    rw [State.has, ht.2] at hk
    cases k <;> cases hk
  · rw [State.takeHold_none k i s (Bool.eq_false_iff.2 hk)]
    exact h

theorem State.core_defer (p : Port) (code : Byte) (w : Wait) (r : StoreRecord) (ps : List Port) (s : State) :
    ((s.startWait p code w).askCommit r ps).view.core = s.view.core := rfl

theorem View.Lax.retestSucceedsQ (h : s.view.Lax nobody) (hs : s.switchState i = .faulted) :
    (s.retestSucceedsQ i).view.Lax nobody := by
  have taken := h.takeHold .switch i
  have state : (s.takeHold .switch i).view.state i = .faulted := (State.switchState_takeHold .switch i i s).trans hs
  have ready : ((s.takeHold .switch i).endRetest i).view.Ready i := by
    rw [State.view_endRetest]
    refine ⟨taken.present (by simp [state]), taken.driveOff (by simp [state]), fun m => ?_, fun _ m => nomatch m⟩
    have l := taken.ramp i m
    rw [state] at l
    cases l
  have work : (((s.takeHold .switch i).endRetest i).startDwell i).Work nobody i :=
    State.Work.of_core ⟨taken.endRetest i, ready⟩ (State.core_startDwell i _)
  have k := (work.enter .opened none (by simp)).takeReports
  have here : ((((s.takeHold .switch i).endRetest i).startDwell i).enter i .opened none).takeReports.switchState i
      = .opened := by rw [State.switchState_takeReports, State.switchState_enter, if_pos rfl]
  unfold State.retestSucceedsQ
  simp only []
  generalize ((((s.takeHold .switch i).endRetest i).startDwell i).enter i .opened none).takeReports = v at k here ⊢
  split
  · exact (k.of_core (State.core_defer ..)).arrive here
  · exact k.arrive here

theorem View.Lax.retestPassesQ (h : s.view.Lax nobody) (hs : s.switchState i = .faulted) (step : RetestStep) :
    (s.retestPassesQ i step).view.Lax nobody := by
  cases step with
  | firstOpen => exact h.retestStepQ hs _
  | close => exact h.retestStepQ hs _
  | secondOpen => exact h.retestSucceedsQ hs

theorem View.Lax.retestEnds (h : s.view.Lax nobody) (i : StringId) :
    ((s.endRetest i).takeReports.endUnitWait .retest).view.Lax nobody :=
  ((h.endRetest i).of_core (State.core_takeReports _)).of_core (State.core_endUnitWait _ _)

theorem View.Lax.retestFails (h : s.view.Lax nobody) (hs : s.switchState i = .faulted) (kind : FaultKind) :
    (s.retestFails i kind).view.Lax nobody := by
  unfold State.retestFails
  exact ((h.of_core (w := (s.leaveQueue i).view) rfl).replaceFault hs kind).retestEnds i

/-! ### The Coil Arbiter (R92, R93) -/

theorem View.Lax.goesOn (h : s.view.Lax nobody) (i : StringId) : (s.goesOn i).view.Lax nobody := by
  unfold State.goesOn
  simp only []
  split
  · next hs =>
    have k := (h.ready_of hs (by simp)).enter .relayClosing (some (s.after (s.cfgNat .tConfirm))) (by simp)
    split
    · exact k.acceptClosedQ
    · exact k.lax
  · next hs =>
    have k := (h.ready_of hs (by simp)).enter .relayOpening (some (s.after (s.cfgNat .tConfirm))) (by simp)
    split
    · exact k.lax
    · exact k.acceptOpenQ
  · exact h.of_core (State.core_setTimer i _ s)
  · next hs =>
    split
    · next r hr =>
      have k := h.setRetest (r := { r with pulsed := true, timer := some (s.after (s.cfgNat .tConfirm)) }) (h.retest r hr)
      split
      · exact k.retestPassesQ hs _
      · exact k
    · exact h
  · exact h

theorem View.Lax.grant (h : s.view.Lax nobody) (e : CoilEntry) : (s.grant e).view.Lax nobody := by
  rw [State.grant_eq]
  refine View.Lax.goesOn (h.of_core ?_) _
  rw [State.view_pulseStarts]
  rfl

theorem View.Lax.arbiter (h : s.view.Lax nobody) : s.arbiter.view.Lax nobody := by
  have grants (n : Nat) : ∀ {s : State}, s.view.Lax nobody → (State.grants n s).view.Lax nobody := by
    induction n with
    | zero => exact fun h => h
    | succ n ih =>
      intro s h
      unfold State.grants
      split
      · split
        · exact ih (h.grant _)
        · exact h
      · exact h
  exact grants _ h

/-! ### Changed targets (R50, R78, R84 to R86) -/

theorem View.Lax.targetTurnsOpen (h : s.view.Lax (· = i)) : (s.targetTurnsOpen i).view.Lax nobody := by
  have off {x : SwitchState} (hs : s.switchState i = x) (hx : x = .ramping ∨ x = .closed) :
      (s.drive i .off).Work (· = i) i := by
    have hv : s.view.state i = x := hs
    refine ⟨?_, ?_⟩
    · rw [State.view_drive]
      exact h.off i
    · rw [State.view_drive]
      refine ⟨h.present ?_, Function.update_self .., fun m => ?_, fun r m e => ?_⟩
      · rcases hx with rfl | rfl <;> simp [hv]
      · have l := h.ramp i m
        rw [hv] at l
        rcases hx with rfl | rfl <;> cases l
      · have l := h.retest r m
        rw [e, hv] at l
        rcases hx with rfl | rfl <;> cases l
  have one (j : StringId) (e : j = i) : j = i := e
  unfold State.targetTurnsOpen
  split
  · next hs =>
    have k := ((h.ready_of hs (by simp)).of_core (State.core_leaveQueue i s)).enter .opened none (by simp)
    refine k.rest one (x := .opened) ?_ (by simp)
    rw [State.switchState_enter, if_pos rfl]
  · next hs =>
    have hv : s.view.state i = .rampWait := hs
    have k : (s.leaveRampList i).Work (· = i) i := by
      refine ⟨h.leaveRampList i, h.present (by simp [hv]), h.driveOff (by simp [hv]), fun m => ?_, fun r m e => ?_⟩
      · simp [State.view_leaveRampList] at m
      · have l := h.retest r m
        rw [e, hv] at l
        cases l
    exact (k.pendingOpenQ one).arbiter
  · next hs => exact ((off hs (.inl rfl)).interruptQ one).arbiter
  · next hs => exact ((off hs (.inr rfl)).interruptQ one).arbiter
  · next h1 h2 h3 h4 =>
    refine h.settles fun c => ?_
    rcases c with c | c | c | c
    · exact absurd c h1
    · exact absurd c h2
    · exact absurd c h3
    · exact absurd c h4

theorem View.Lax.targetTurnsClosed (h : s.view.Lax nobody) (ht : s.target i = true) :
    (s.targetTurnsClosed i).view.Lax nobody := by
  unfold State.targetTurnsClosed
  split
  · next hs => exact (((h.ready_of hs (by simp)).pendingCloseQ ht).joinIfReadyQ i).arbiter
  · exact h

theorem View.Lax.addHold (h : s.view.Lax nobody) (x : Hold) (i : StringId) : (s.addHold x i).view.Lax nobody := by
  have put : (s.putHold x i).view.Lax (· = i) := h.loosen.putHold x i fun _ => rfl
  unfold State.addHold
  simp only []
  split
  · exact put.targetTurnsOpen
  · next hc =>
    refine put.settles fun c => ?_
    rw [show View.closes _ i = s.view.closes i from ?_] at c
    · have ht : s.target i = true := (h.closing i c).resolve_left id
      by_contra hn
      exact hc ⟨ht, Bool.eq_false_iff.2 hn⟩
    · unfold View.closes
      rw [show (s.putHold x i).view.state i = s.view.state i from State.switchState_putHold x i s i]

theorem View.Lax.removeHold (h : s.view.Lax nobody) (k : HoldKind) (i : StringId) :
    (s.removeHold k i).view.Lax nobody := by
  unfold State.removeHold
  simp only []
  split
  · next hc => exact (h.takeHold k i).targetTurnsClosed hc.2
  · exact h.takeHold k i

/-! ### Feedback and crossings (R81, R86 to R91) -/

theorem View.Lax.faultedFeedback (h : s.view.Lax nobody) (hs : s.switchState i = .faulted) (closed : Bool) :
    (s.faultedFeedback i closed).view.Lax nobody := by
  have replaced : View.Lax nobody (if closed = true ∧ (s.str i).faultKind = some .failToClose
      then s.replaceFault i .uncommandedClosed else s).view := by
    split
    · exact h.replaceFault hs _
    · exact h
  unfold State.faultedFeedback
  split
  · next r _ =>
    split
    · split
      · split
        · exact (h.retestPassesQ hs r.step).arbiter
        · exact h
      · split
        · exact h
        · split
          · exact h.retestFails hs _
          · exact h
        · split
          · exact h
          · exact h.retestFails hs _
    · exact replaced
  · exact replaced

theorem View.Lax.feedbackClosed (h : s.view.Lax nobody) (i : StringId) : (s.feedbackClosed i).view.Lax nobody := by
  have k : (s.modSseq fun q => { q with feedback := q.feedback.set i true }).view.Lax nobody := h
  unfold State.feedbackClosed
  simp only []
  generalize s.modSseq (fun q => { q with feedback := q.feedback.set i true }) = u at k ⊢
  split
  · next hs => exact (k.ready_of hs (by simp)).acceptClosedQ.arbiter
  · next hs => exact k.becomeFaulted (by simp [hs]) _
  · next hs => exact k.becomeFaulted (by simp [hs]) _
  · next hs => exact k.faultedFeedback hs _
  · exact k

theorem View.Lax.feedbackOpen (h : s.view.Lax nobody) (i : StringId) : (s.feedbackOpen i).view.Lax nobody := by
  have k : (s.modSseq fun q => { q with feedback := q.feedback.set i false }).view.Lax nobody := h
  unfold State.feedbackOpen
  simp only []
  generalize s.modSseq (fun q => { q with feedback := q.feedback.set i false }) = u at k ⊢
  split
  · next hs => exact (k.ready_of hs (by simp)).acceptOpenQ.arbiter
  iterate 6
    · next hs => exact k.becomeFaulted (by simp [hs]) _
  · next hs => exact k.faultedFeedback hs _
  · exact k.of_core (State.core_setTimer i _ u)
  · exact k

theorem View.Lax.enterCurtailWait (h : s.view.Lax nobody) {x : SwitchState} (hs : s.switchState i = x)
    (hx : x = .interrupting ∨ x = .pendingOpen) : (s.enterCurtailWait i).view.Lax nobody :=
  (h.ready_of hs (by rcases hx with rfl | rfl <;> simp)).enterCurtailWait.lax

theorem View.Lax.cross (h : s.view.Lax nobody) (i : StringId) : (s.cross i).view.Lax nobody := by
  have one (j : StringId) (e : nobody j) : j = i := e.elim
  unfold State.cross State.fellBelow State.reachedIZero
  split
  · split
    · next hs => exact ((h.ready_of hs (by simp)).pendingOpenQ one).arbiter
    · next hs => exact ((h.ready_of hs (by simp)).pendingOpenQ one).arbiter
    · split
      · exact h.arbiter
      · exact h
  · split
    · next hs => exact h.enterCurtailWait hs (.inr rfl)
    · exact h

end Sys2Proof.Machine
end

section
/-! SUPPORT. The invariants of closing through every command (R50, R77, R94, R99). -/

namespace Sys2Proof.Machine

variable {s t u : State} {i j : StringId}

/-- One state comes of another by work that keeps the invariants of closing. -/
def Frees (s t : State) : Prop := s.view.Lax nobody → t.view.Lax nobody

theorem Frees.of_core (h : t.view.core = s.view.core) : Frees s t := fun x => x.of_core h

theorem Frees.of_heart (e : t.heart = s.heart) : Frees s t := by
  have present : t.present = s.present := congrArg Heart.present e
  have stab : t.stab = s.stab := congrArg Heart.stab e
  have state : t.view.state = s.view.state := congrArg Heart.state e
  have drive : t.view.drive = s.view.drive := congrArg Heart.drive e
  have ramp : t.view.rampList = s.view.rampList := congrArg Heart.rampList e
  have tested : t.sseq.retest.map Retest.string = s.sseq.retest.map Retest.string := congrArg Heart.tested e
  have target (i : StringId) : t.view.target i = s.view.target i := by
    change t.target i = s.target i
    rw [State.target, State.target, State.str, State.str, present, stab]
  intro h
  refine ⟨fun i hp => ?_, fun i c => ?_, fun i hd => ?_, fun i m => ?_, ramp ▸ h.nodup, fun r m => ?_⟩
  · rw [state]
    exact h.absent i ((congrFun present i).symm.trans hp)
  · rw [target]
    unfold View.closes at c
    rw [state] at c
    exact h.closing i c
  · rw [state]
    exact h.drive i (drive ▸ hd)
  · rw [state]
    exact h.ramp i (ramp ▸ m)
  · have k : some r.string = s.sseq.retest.map Retest.string := by
      rw [← tested, show t.sseq.retest = some r from m]
      rfl
    obtain ⟨q, hq, eq⟩ := Option.map_eq_some_iff.1 k.symm
    rw [state, ← eq]
    exact h.retest q hq

theorem Frees.addHolds (x : Hold) (xs : List StringId) (s : State) : Frees s (s.addHolds x xs) := by
  induction xs generalizing s with
  | nil => exact id
  | cons y ys ih => exact fun h => ih _ (h.addHold x y)

theorem Frees.removeHolds (k : HoldKind) (xs : List StringId) (s : State) : Frees s (s.removeHolds k xs) := by
  induction xs generalizing s with
  | nil => exact id
  | cons y ys ih => exact fun h => ih _ (h.removeHold k y)

theorem Frees.emit (k : EventKind) (x : Option StringId) (a b : Int) (s : State) : Frees s (s.emit k x a b) :=
  .of_core (State.core_emit k x a b s)

theorem Frees.emitHoldChanged (k : HoldKind) (added : Bool) (cause : ChangeCause) (xs : List StringId) (s : State) :
    Frees s (s.emitHoldChanged k added cause xs) := by
  unfold State.emitHoldChanged
  split
  · exact id
  · exact .emit _ _ _ _ s

theorem Frees.takeReports (s : State) : Frees s s.takeReports := .of_core s.core_takeReports

theorem Frees.askCommit (r : StoreRecord) (w : List Port) (s : State) : Frees s (s.askCommit r w) := .of_core rfl

/-- The search's work (R128 to R138). -/
theorem Frees.seek : Seek fun s => s.view.Lax nobody where
  addHold x j _ h := h.addHold x j
  removeHold j h := h.removeHold .search j
  takeReports h := Frees.takeReports _ h
  emit k x a b h := Frees.emit k x a b _ h
  modImon _ h := h
  widen _ _ h := h
  regroup f xs _ _ h := Frees.addHolds .search xs _ h
  start {s} cause x _ h := by
    refine Frees.addHolds x _ _ ?_
    obtain ⟨m, g, e⟩ := State.begun_eq cause s
    rw [e]
    exact h

theorem Frees.addOvercurrent (i : StringId) (current : Int) (time : Uptime) (s : State) :
    Frees s (s.addOvercurrent i current time) := by
  have taken (v : State) : Frees v (v.takeUpOvercurrent i current time) := by
    unfold State.takeUpOvercurrent
    refine .of_core ?_
    rw [State.view_emitAt, State.view_modString_same]
    · rfl
    · exact fun _ => rfl
  unfold State.addOvercurrent
  split
  · exact fun h => taken _ (Frees.takeReports _ (h.addHold .overcurrent i))
  · exact id

/-! ### Conditions (R47, R148, R151) -/

theorem Frees.standFire (s : State) : Frees s s.standFire := by
  have added := Frees.addHolds .fire s.presentSet
    (s.modStab fun t => { t with conditions := { t.conditions with fire := true } })
  unfold State.standFire
  simp only []
  split
  · exact id
  · exact fun h => Frees.seek.abortSearch (Frees.takeReports _ (Frees.emitHoldChanged _ _ _ _ _ (added h)))

theorem Frees.standArc (s : State) : Frees s s.standArc := by
  have added := Frees.addHolds .arc s.presentSet
    (s.modStab fun t => { t with conditions := { t.conditions with arc := true } })
  unfold State.standArc
  simp only []
  split
  · exact id
  · exact fun h => Frees.seek.abortSearch (Frees.takeReports _ (added h))

theorem Frees.acceptLoop (s : State) : Frees s s.acceptLoop := by
  unfold State.acceptLoop
  simp only []
  split
  · exact id
  · split
    · exact fun h => Frees.emit _ _ _ _ _ (Frees.standFire _ h)
    · exact fun h => Frees.emit _ _ _ _ _ h

/-! ### Presence (R69, R70) -/

theorem View.Lax.openFromAbsent (h : s.view.Lax nobody) (hs : s.switchState i = .absent) (hp : s.present i = true) :
    (s.openFromAbsent i).view.Lax nobody := by
  have hv : s.view.state i = .absent := hs
  have work : ((s.leaveQueue i).setTimer i none).Work nobody i :=
    State.Work.of_core (s := s) ⟨h, h.ready hp (by simp [hv])⟩
      ((State.core_setTimer i none (s.leaveQueue i)).trans (State.core_leaveQueue i s))
  unfold State.openFromAbsent
  simp only []
  generalize (s.leaveQueue i).setTimer i none = u at work ⊢
  split
  · refine (work.enter .opened none (by simp)).lax.becomeFaulted ?_ _
    rw [State.switchState_enter, if_pos rfl]
    simp
  · exact ((work.of_core (State.core_startDwell i u)).enter .opened none (by simp)).lax

theorem Frees.putHold (x : Hold) (hs : s.switchState i = .absent) : Frees s (s.putHold x i) := fun h =>
  h.putHold x i fun c => by
    unfold View.closes at c
    rw [show s.view.state i = _ from hs] at c
    simp at c

theorem Frees.addConditions (hs : s.switchState i = .absent) : Frees s (s.addConditions i) := by
  have one (c : Bool) (x : Hold) (u : State) (hu : u.switchState i = .absent ∧ Frees s u) :
      (if c then u.putHold x i else u).switchState i = .absent ∧ Frees s (if c then u.putHold x i else u) := by
    split
    · exact ⟨(State.switchState_putHold x i u i).trans hu.1, fun h => Frees.putHold x hu.1 (hu.2 h)⟩
    · exact hu
  unfold State.addConditions
  exact (one _ _ _ (one _ _ _ (one _ _ _ (one _ _ _ ⟨hs, id⟩)))).2

theorem Frees.makePresent (i : StringId) (code : LockCode) (hs : s.switchState i = .absent) :
    Frees s (s.makePresent i code) := by
  have kept := (State.addConditions_keeps i ((s.admits i).putHold (.svc code) i)).2.1 i
  have put : ((s.admits i).putHold (.svc code) i).switchState i = .absent := (State.switchState_putHold ..).trans hs
  have present : (((s.admits i).putHold (.svc code) i).addConditions i).present i = true := by
    have run := (Turns.putHold (L := AnyKind) (.svc code) (fun e => nomatch e) i (s.admits i)).trans (.addConditions i _)
    rw [State.present_of_frame run.frame, State.present_admits, if_pos rfl]
  intro h
  have admitted : (s.admits i).view.Lax nobody := by
    refine ⟨fun j hp => ?_, fun j c => (h.closing j c).imp_right fun ht => ?_, h.drive, h.ramp, h.nodup, h.retest⟩
    · have e := State.present_admits i j s
      by_cases hj : j = i
      · exact hj ▸ hs
      · rw [if_neg hj] at e
        exact h.absent j (e.symm.trans hp)
    · have hj : j ≠ i := fun e => by
        have k : s.view.closes j := c
        unfold View.closes at k
        rw [e, show s.view.state i = _ from hs] at k
        simp at k
      have e := State.present_admits i j s
      rw [if_neg hj] at e
      change ((s.admits i).present j && _) = true
      rw [e]
      exact ht
  have opened := (Frees.addConditions put (Frees.putHold (.svc code) hs admitted)).openFromAbsent (kept.trans put) present
  have told := Frees.emitHoldChanged .svc true .presence [i] _ (Frees.takeReports _ opened)
  rw [State.makePresent_eq]
  unfold State.welcomes
  simp only []
  refine Frees.askCommit _ _ _ ?_
  split
  · exact Frees.emitHoldChanged .fire true .presence [i] _ told
  · exact told

/-- What the invariants of closing see of a string stripped of its holds. -/
structure Stripped (i : StringId) (s t : State) : Prop where
  present : ∀ j, t.present j = if j = i then false else s.present j
  str : ∀ j, j ≠ i → t.str j = s.str j
  switches : ∀ j, (t.sw j).state = (s.sw j).state ∧ (t.sw j).drive = (s.sw j).drive
  lists : t.sseq.rampList = s.sseq.rampList ∧ t.sseq.retest = s.sseq.retest

theorem State.stripped_sees (i : StringId) (s : State) : Stripped i s (s.stripped i) := by
  obtain ⟨g, e⟩ := State.stripped_eq i s
  obtain ⟨loses, str, -⟩ := State.dropped_took i s
  have records (j : StringId) := State.str_modString i j (fun r => { r with overcurrentCount := 0 })
    (State.takeAll i allHoldKinds (s.dropped i))
  have switches (j : StringId) := State.sw_modSwitch i j (fun w => { w with dwell := .stopped })
    (State.takeAll i allHoldKinds (s.dropped i))
  generalize State.takeAll i allHoldKinds (s.dropped i) = v at e loses str records switches
  obtain ⟨r, q, c, o, x, y, l⟩ := loses
  have sw (j : StringId) : v.sw j = s.sw j := by
    rw [l]
    rfl
  have lists : v.sseq.rampList = s.sseq.rampList ∧ v.sseq.retest = s.sseq.retest := by
    rw [l]
    exact ⟨rfl, rfl⟩
  have present (j : StringId) : v.present j = (s.dropped i).present j := by
    rw [l]
    rfl
  rw [e]
  refine ⟨fun j => (present j).trans (State.present_dropped_or i j s), fun j hj => ?_, fun j => ?_, lists⟩
  · refine (records j).trans ?_
    rw [if_neg hj, str j, if_neg hj]
    rfl
  · have k : (v.modSwitch i fun w => { w with dwell := .stopped }).sw j = _ := switches j
    change ((v.modSwitch i fun w => { w with dwell := .stopped }).sw j).state = _ ∧ 
      ((v.modSwitch i fun w => { w with dwell := .stopped }).sw j).drive = _
    rw [k, ← sw j]
    split
    · next hj => exact hj ▸ ⟨rfl, rfl⟩
    · exact ⟨rfl, rfl⟩

theorem State.core_makeAbsent (i : StringId) (s : State) :
    (s.makeAbsent i).view.core = ((s.stripped i).enter i .absent none).view.core := by
  obtain ⟨g, e⟩ := State.emitLost_eq i (fun k => s.has k i) [.sup, .inv, .svc, .fire] (s.absented i)
  have asked (v : State) : (v.askCommit .holds []).view.core = v.view.core := rfl
  have told : (State.emitLost i (fun k => s.has k i) [.sup, .inv, .svc, .fire] (s.absented i)).view.core
      = (s.absented i).view.core := by
    generalize s.absented i = v at e ⊢
    rw [e]
    rfl
  have marked (v : State) (f : Tsc → Tsc) : (v.modTsc f).view.core = v.view.core := rfl
  rw [State.makeAbsent_absented, asked, told, State.absented, State.core_takeReports, marked]

theorem Frees.makeAbsent (hs : s.switchState i = .opened) : Frees s (s.makeAbsent i) := by
  obtain ⟨present, str, switches, ramp, retest⟩ := State.stripped_sees i s
  intro h
  refine View.Lax.of_core ?_ (State.core_makeAbsent i s)
  obtain ⟨y, e, -⟩ := State.view_enter i .absent none (s.stripped i)
  rw [e]
  generalize s.stripped i = v at present str switches ramp retest
  have hv : s.view.state i = .opened := hs
  have ready := h.ready (i := i) (h.present (by simp [hv])) (by simp [hv])
  have ha : s.view.OffAgrees { v.view with
      state := Function.update v.view.state i .absent, holds := Function.update v.view.holds i y, queue := [] } i := by
    refine ⟨fun j hj => (present j).trans (if_neg hj), fun j hj => ?_, fun j hj => ?_, fun j _ => (switches j).2,
      (fun e m => nomatch m), fun j m _ => (congrArg (j ∈ ·) ramp).mp m,
      fun r _ => by rw [show View.retest _ = s.view.retest from retest]⟩
    · refine (Function.update_of_ne hj _ _).trans ?_
      exact congrArg StringRecord.holds (str j hj)
    · refine (Function.update_of_ne hj _ _).trans ?_
      exact (switches j).1
  refine View.Lax.of_core (h.one ha ramp retest ready.ramp ready.retest (fun _ => Function.update_self ..) (fun c => ?_)
    fun hd => ?_) rfl
  · unfold View.closes at c
    simp at c
  · exact absurd ((switches i).2.trans ready.drive) hd

theorem Frees.beginWrite (s : State) : Frees s s.beginWrite := by
  unfold State.beginWrite
  split
  · exact id
  · exact id

theorem Frees.walk : Walk Frees where
  refl _ := id
  trans h k := k ∘ h
  quiet := .of_heart
  beginWrite := .beginWrite
  finishWrite s w _ := .of_core rfl
  addHold x i s _ _ h := h.addHold x i
  addOvercurrent := .addOvercurrent
  removeHold k i s _ h := h.removeHold k i
  setCount i n s := .of_core (by rw [State.view_modString_same]; exact fun _ => rfl)
  arbiter s h := h.arbiter
  testAndJoinQ i s h := h.testAndJoinQ i
  feedbackClosed i s h := h.feedbackClosed i
  feedbackOpen i s h := h.feedbackOpen i
  cross i s h := h.cross i
  rampTest s h := View.Lax.rampStarts _ h
  rampEnds i s hs h := h.rampEnds hs
  enterCurtailWait i s hs h := h.enterCurtailWait hs (.inl rfl)
  becomeFaulted i kind s hs h := h.becomeFaulted (by rcases hs with e | e <;> simp [e]) kind
  startRetest i s hs h := View.Lax.arbiter (View.Lax.retestStepQ (s := s.setRetestMark i true) h hs _)
  retestFails r kind s hr h := h.retestFails (h.retest r hr) kind
  endRetest r s _ h := h.endRetest r.string
  settle _ := Frees.seek.settle
  abortSearch _ := Frees.seek.abortSearch
  startSearch cause _ := Frees.seek.startSearch cause
  searchMeasured reading _ := Frees.seek.searchMeasured reading
  stepTimerExpires _ := Frees.seek.stepTimerExpires
  standArc := .standArc
  acceptLoop := .acceptLoop
  clear k xs s _ _ h := Frees.removeHolds k xs _ h
  makePresent i code s hs _ := .makePresent i code hs

/-- A start-up leaves the invariants of closing as the recovery of the relays does (R99, R179). -/
theorem Frees.startUp (cause : StartCause) (inp : StartInputs) (s : State) : (s.startUp cause inp).view.Lax nobody := by
  have clean : (s.reinstated cause inp).view.Starts := by
    have starts := State.started_starts inp (s.storeAtStart inp).read (s.storeAtStart inp) s.pending
    obtain ⟨q, g, e⟩ := s.reinstated_eq cause inp
    rw [e]
    exact ⟨starts.absent, starts.still, starts.drive, starts.ramp, starts.retest, starts.capture, starts.entry⟩
  have sound := (State.recoverRelays_keeps (s.reinstated cause inp)).2 clean
  have lax : (s.reinstated cause inp).recoverRelays.view.Lax nobody :=
    (State.lax_iff _).2 ((State.sound_iff _).1 sound).1
  have measured (v : State) : Frees v (v.startMeasurement .periodic .routine) := .of_core rfl
  rw [State.startUp_eq]
  exact Frees.beginWrite _ (measured _ lax)

theorem Frees.needs (c : Instr) (s : State) : Walk.Needs Frees c s where
  release _ _ _ u _ := Frees.removeHolds _ _ u
  absent _ _ _ _ _ h := Frees.makeAbsent (State.presenceCheck_changes h)
  startUp cause inp _ _ := Frees.startUp cause inp s
  losePower _ _ := by
    have sw (i : StringId) : s.losePower.sw i = restingSwitch := by
      simp [State.sw, State.losePower, State.off]
    have state (i : StringId) : s.losePower.view.state i = .absent := congrArg Switch.state (sw i)
    refine ⟨fun i _ => state i, fun i c => ?_, fun i hd => ?_, fun i m => (nomatch m), List.nodup_nil,
      fun r m => nomatch m⟩
    · unfold View.closes at c
      rw [state] at c
      simp at c
    · exact absurd (congrArg Switch.drive (sw i)) hd

end Sys2Proof.Machine
end

section

namespace Sys2Proof.Machine

/-- Settles O9: the sequencer's operations keep the invariants of closing whatever entries wait in the coil queue. -/
theorem stringsCloseOnlyWithoutHolds : Obligations.StringsCloseOnlyWithoutHolds :=
  fun s t hs h => t.lax_iff.1 (Frees.walk.step (fun c u _ => Frees.needs c u) h (s.lax_iff.2 hs))

end Sys2Proof.Machine
end

section
/-! SUPPORT. The statement on the failures of the list requests (R53, R54). -/

namespace Sys2Proof.Machine

variable {s t u : State} {i j : StringId} {p : Port} {b list : List Byte} {particular : StringId → Option Result}
  {v : Byte} {r : Result}

/-! ### One value's checks -/

/-- The checks of a list's value are those of R54, in their order. -/
theorem State.checkValue_iff (hv : v ∈ list) :
    s.checkValue list false particular v = some r ↔ s.failsAt list particular v r := by
  have count : list.count v = 1 ↔ ¬1 < list.count v := by
    have := List.count_pos_iff.2 hv
    omega
  by_cases hn : 1 ≤ v.toNat ∧ v.toNat ≤ 16
  · obtain ⟨i, hi⟩ : ∃ i, stringOfByte v = some i := ⟨_, dif_pos hn⟩
    have same (j : StringId) : v = byte (stringNumber j) ↔ j = i := by
      refine ⟨fun e => ?_, fun e => e ▸ stringOfByte_some hi⟩
      rw [e, stringOfByte_number] at hi
      exact Option.some.inj hi
    unfold State.checkValue State.failsAt
    simp only [hi, hn, and_self, not_true, false_and, false_or, same, exists_eq_left, count]
    clear same hi count hn
    by_cases h1 : 1 < list.count v
    · simp [h1, eq_comm (a := r)]
    · by_cases h2 : s.present i = true
      · by_cases h3 : s.has .retired i = true <;> simp [h1, h2, h3, eq_comm (a := r)]
      · simp [h1, h2, eq_comm (a := r)]
  · unfold State.checkValue State.failsAt
    rw [stringOfByte_none hn]
    have none_ : ¬∃ i : StringId, v = byte (stringNumber i) := by
      rintro ⟨i, rfl⟩
      have k := stringOfByte_none hn
      rw [stringOfByte_number] at k
      cases k
    constructor
    · intro h
      exact .inl ⟨hn, (Option.some.inj h).symm⟩
    · rintro (⟨-, h⟩ | ⟨i, hi, -⟩)
      · rw [h]
      · exact absurd ⟨i, hi⟩ none_

/-! ### The lowest failing value -/

/-- The distinct values of a list stand in ascending order (R54). -/
theorem distinctValues_ascend (list : List Byte) :
    (distinctValues list).Pairwise fun a c => a.toNat < c.toNat := by
  refine List.Pairwise.filter _ (List.pairwise_map.2 ?_)
  refine List.Pairwise.imp_of_mem (fun {a c} ha hc h => ?_) List.pairwise_lt_range
  have small {n : Nat} (hn : n ∈ List.range 256) : (BitVec.ofNat 8 n).toNat = n := by
    simp only [List.mem_range] at hn
    simp only [BitVec.toNat_ofNat]
    omega
  rw [small ha, small hc]
  exact h

theorem State.firstFailure_append {vs ws : List Byte} (h : ∀ u ∈ vs, s.checkValue list false particular u = none)
    (hv : s.checkValue list false particular v = some r) :
    s.firstFailure list false particular (vs ++ v :: ws) = some (r, v) := by
  induction vs with
  | nil =>
    change s.firstFailure list false particular (v :: ws) = _
    unfold State.firstFailure
    rw [hv]
  | cons w vs ih =>
    change s.firstFailure list false particular (w :: (vs ++ v :: ws)) = _
    unfold State.firstFailure
    rw [h w List.mem_cons_self]
    exact ih fun u m => h u (List.mem_cons_of_mem _ m)

/-- A list fails with its lowest failing value. -/
theorem State.checkList_lowest (hv : v ∈ list) (hf : s.failsAt list particular v r)
    (low : ∀ u ∈ list, u.toNat < v.toNat → ∀ r', ¬s.failsAt list particular u r') :
    s.checkList list particular = some (r, v) := by
  obtain ⟨a, c, e⟩ := List.append_of_mem (mem_distinctValues_iff.2 hv)
  unfold State.checkList
  rw [e]
  refine State.firstFailure_append (fun u m => ?_) ((State.checkValue_iff hv).2 hf)
  have mem : u ∈ list := mem_distinctValues (e ▸ List.mem_append_left _ m)
  have less : u.toNat < v.toNat := (List.pairwise_append.1 (e ▸ distinctValues_ascend list)).2.2 u m v List.mem_cons_self
  cases hu : s.checkValue list false particular u with
  | none => rfl
  | some r' => exact absurd ((State.checkValue_iff mem).1 hu) (low u mem less r')

/-! ### The requests -/

/-- What a list request is answered before it takes effect: BAD_FORM, or its first failure. -/
def State.rejects (s : State) (q : RequestCode) (p : Port) (form : Bool) (list : List Byte)
    (particular : StringId → Option Result) (work : State) : State :=
  if form then
    match s.checkList list particular with
    | some (r, v) => s.answered p (requestCode q) r [v]
    | none => work
  else s.answered p (requestCode q) .badForm [0]

theorem State.rejects_of (q : RequestCode) (p : Port) (form : Bool) (list : List Byte)
    (particular : StringId → Option Result) (s work : State) :
    (if form = false then (s.hear p).tableReply p q .badForm 0
      else match (s.hear p).checkList list particular with
        | some (r, v) => (s.hear p).tableReply p q r v
        | none => work) = s.rejects q p form list particular work := by
  have same : (s.hear p).checkList list particular = s.checkList list particular := by
    unfold State.checkList
    generalize distinctValues list = vs
    induction vs with
    | nil => rfl
    | cons v vs ih =>
      unfold State.firstFailure
      rw [ih]
      rfl
  unfold State.rejects State.tableReply
  rw [same]
  cases form
  · exact State.reply_hear ..
  · change (match s.checkList list particular with | some (r, v) => _ | none => work) = _
    split
    · exact State.reply_hear ..
    · rfl

/-- ACKNOWLEDGE of a kind byte that belongs to the row is served on it. -/
theorem State.serveAck_of_belongs {kind : AckKind} {flag : Byte} (hk : ackKindOf flag = some kind)
    (hb : ackBelongs flag b = true) (owner : State → State) (s : State) :
    s.serveAck kind p b owner = s.serve .acknowledge p b owner := by
  have other : ackOfOther kind b = false := by
    cases b with
    | nil => rfl
    | cons k rest =>
      simp only [ackBelongs, Bool.or_eq_true, beq_iff_eq, Bool.not_eq_true'] at hb
      change (match ackKindOf k with | some x => x != kind | none => false) = false
      rcases hb with rfl | hb
      · rw [hk]
        simp
      · simp only [ackFlags, List.contains_eq_mem, List.mem_cons, List.not_mem_nil, or_false, not_or,
        decide_eq_false_iff_not] at hb
        obtain ⟨h1, h2, h3, h4, h5⟩ := hb
        rw [ackKindOf, if_neg h1, if_neg h2, if_neg h3, if_neg h4, if_neg h5]
  unfold State.serveAck
  rw [other]
  rfl

/-- The form of an ACKNOWLEDGE of a per-string kind (R53, R183). -/
theorem ackForm_iff {kind : AckKind} {flag : Byte} (hk : ∀ k, ackKindOf k = some kind ↔ k = flag) (hn : b ≠ []) :
    (ackKindOf (byteAt b 0) ≠ some kind ∨ listFits (b.drop 1) = false) ↔
      State.listRequest.ackForm flag b = false := by
  cases b with
  | nil => exact absurd rfl hn
  | cons k rest =>
    change (ackKindOf k ≠ some kind ∨ listFits rest = false) ↔ ((some k == some flag) && listFits rest) = false
    rw [Bool.and_eq_false_iff, ne_eq, hk]
    simp

/-- A list request goes through R53 and R54 before it takes effect. -/
theorem listRequest_rejects {c : Instr} {q : RequestCode} {form : Bool}
    (h : s.listRequest c = some (q, p, b, form, list, particular)) (hw : c.wf = true) (ha : s.accepts p)
    (hs : sizeFits q p b = true) (hp : s.permitted q p b = true) :
    ∃ work, exec c s = .next (s.rejects q p form list particular work) := by
  have party (q : RequestCode) (fails : Bool) (l : List Byte) (f : StringId → Option Result) (work : State) :
      (if fails then (s.hear p).tableReply p q .badForm 0
        else match (s.hear p).checkList l f with
          | some (r, v) => (s.hear p).tableReply p q r v
          | none => work) = s.rejects q p (!fails) l f work := by
    rw [← State.rejects_of]
    cases fails <;> rfl
  have listed {kind : AckKind} {flag : Byte} (hk : ∀ k, ackKindOf k = some kind ↔ k = flag)
      (hb : ackBelongs flag b = true) (hs : sizeFits .acknowledge p b = true)
      (hp : s.permitted .acknowledge p b = true) : ∃ work,
      s.serveAck kind p b (State.acknowledgeListed kind p b) =
        s.rejects .acknowledge p (State.listRequest.ackForm flag b) (b.drop 1)
          (State.listRequest.carries s kind.holdKind) work := by
    have hn : b ≠ [] := by
      rintro rfl
      cases hs
    rw [State.serveAck_of_belongs ((hk flag).2 rfl) hb, State.serve_accepts _ ha hs hp]
    refine ⟨((s.hear p).acknowledgeStrings kind (stringsOf (b.drop 1))).conclude p .acknowledge
      (if kind = .overcurrent then [] else [.holds]) .done [0], Eq.trans ?_ (State.rejects_of ..)⟩
    exact if_congr (ackForm_iff hk hn) rfl rfl
  cases c with
  | hold p' b' =>
    cases h
    have run : exec (.hold p b) s = .next (s.serve .hold p b (State.holdRequest p b)) := rfl
    rw [run, State.serve_accepts _ ha hs hp]
    exact ⟨_, congrArg Host.Outcome.next (party ..)⟩
  | release p' b' =>
    cases h
    have run : exec (.release p b) s = .next (s.serve .release p b (State.releaseRequest p b)) := rfl
    rw [run, State.serve_accepts _ ha hs hp]
    exact ⟨_, congrArg Host.Outcome.next (party ..)⟩
  | acknowledgeReverse p' b' =>
    cases h
    obtain ⟨work, e⟩ := listed (kind := .reverse) (flag := 1) (by decide) (Bool.and_eq_true_iff.1 hw).2 hs hp
    exact ⟨work, congrArg Host.Outcome.next e⟩
  | acknowledgeGround p' b' =>
    cases h
    obtain ⟨work, e⟩ := listed (kind := .ground) (flag := 2) (by decide) (Bool.and_eq_true_iff.1 hw).2 hs hp
    exact ⟨work, congrArg Host.Outcome.next e⟩
  | acknowledgeOvercurrent p' b' =>
    cases h
    obtain ⟨work, e⟩ := listed (kind := .overcurrent) (flag := 8) (by decide) (Bool.and_eq_true_iff.1 hw).2 hs hp
    exact ⟨work, congrArg Host.Outcome.next e⟩
  | _ => cases h

/-- Settles O22: the checks run over the values in ascending order, and the first that fails is answered. -/
theorem listRequestsFailAtTheirLowestString : Obligations.ListRequestsFailAtTheirLowestString := by
  intro s c q p b form list particular h hw ha hs hp
  obtain ⟨work, e⟩ := listRequest_rejects h hw ha hs hp
  rw [e]
  refine ⟨fun hf => ?_, fun hf v hv r hr low => ?_⟩
  · rw [hf]
    rfl
  · rw [State.rejects, hf, if_pos rfl, State.checkList_lowest hv hr low]

end Sys2Proof.Machine
end

section
/-! SUPPORT. The statement on RETIRE (R53, R54, R66). -/

namespace Sys2Proof.Machine

variable {s t u : State} {i j : StringId} {codes : List Byte} {n : Byte}

theorem exec_retire (ha : s.accepts .m) (hk : s.ports.key.on = true) (hl : codes.length = 8) :
    exec (.retire .m (n :: codes)) s = .next ((s.hear .m).retireRequest .m (n :: codes)) :=
  congrArg Host.Outcome.next (State.serve_accepts _ ha (by simp [sizeFits, hl]) hk)

theorem retire_badForm (hc : lockCodeOf codes = 0) :
    (s.hear .m).retireRequest .m (n :: codes) = s.answered .m 0x07 .badForm [0] :=
  (if_pos hc).trans (State.reply_hear ..)

theorem retire_badString (hc : lockCodeOf codes ≠ 0) (hn : stringOfByte n = none) :
    (s.hear .m).retireRequest .m (n :: codes) = s.answered .m 0x07 .badString [n] := by
  have check (f : StringId → Option Result) : (s.hear .m).checkValue [n] true f n = some .badString := by
    unfold State.checkValue
    rw [hn]
  refine (if_neg hc).trans ?_
  change (match (s.hear .m).checkValue [n] true _ n, stringOfByte n with
    | some r, _ => _ | none, some i => _ | none, none => _) = _
  rw [check]
  exact State.reply_hear ..

/-- RETIRE of a string, by its checks (R54, R66). -/
theorem retire_string (hc : lockCodeOf codes ≠ 0) (i : StringId) (u : State) :
    u.retireRequest .m (byte (stringNumber i) :: codes) =
      match (if u.present i = false then some .badString else u.retireCheck (lockCodeOf codes) i) with
      | some r => u.tableReply .m .retire r (byte (stringNumber i))
      | none => if u.has .retired i then u.tableReply .m .retire .done 0
          else (u.addHold .retired i).conclude .m .retire [.holds] .done [0] := by
  have check (f : StringId → Option Result) (v : Byte) (hv : stringOfByte v = some i) :
      u.checkValue [v] true f v = if u.present i = false then some .badString else f i := by
    unfold State.checkValue
    rw [hv]
    simp
  refine (if_neg hc).trans ?_
  change (match u.checkValue [byte (stringNumber i)] true (u.retireCheck (lockCodeOf codes)) (byte (stringNumber i)),
    stringOfByte (byte (stringNumber i)) with
    | some r, _ => _ | none, some i => _ | none, none => _) = _
  rw [check _ _ (stringOfByte_number i), stringOfByte_number]
  generalize (if u.present i = false then some .badString else u.retireCheck (lockCodeOf codes) i) = o
  cases o <;> rfl

/-- A hold put on a string that has one changes no target. -/
theorem State.addHold_held (x : Hold) (h : s.target i = false) : s.addHold x i = s.putHold x i := by
  unfold State.addHold
  exact if_neg fun k => by rw [h] at k; cases k.1

/-- A hold put on a string, but SWITCH, makes no report (R43). -/
theorem State.putHold_quiet {x : Hold} (hx : x.kind ≠ .switch) (i : StringId) (s : State) : ∃ r q,
    s.putHold x i = { s with stab := { s.stab with strings := r }, cfs := { s.cfs with queue := q } } := by
  unfold State.putHold
  split
  · exact ⟨_, _, rfl⟩
  · split
    · cases x <;> first | exact ⟨_, _, rfl⟩ | exact absurd rfl hx
    · cases x <;> first | exact ⟨_, _, rfl⟩ | exact absurd rfl hx

/-- Settles O29: RETIRED joins a lockout, so that no target turns and no report is made. -/
theorem retireStandsBesideTheLockout : Obligations.RetireStandsBesideTheLockout := by
  intro s i codes ha hk hl v o
  have run : o = .next ((s.hear .m).retireRequest .m (v :: codes)) := exec_retire ha hk hl
  refine ⟨fun n hn hc => ?_, fun hc => ?_, fun hc => ⟨fun hp => ?_, fun hp hv => ?_, fun hp hv hw => ?_,
    fun hp hv hw => ?_⟩⟩
  · rw [exec_retire ha hk hl, retire_badString hc (stringOfByte_none hn)]
  · rw [run, retire_badForm hc]
  all_goals rw [run, retire_string hc i]
  · rw [show (s.hear .m).present i = false from hp, if_pos rfl]
    exact congrArg Host.Outcome.next (State.reply_hear ..)
  · have check : (s.hear .m).retireCheck (lockCodeOf codes) i = some .state := if_pos hv
    rw [show (s.hear .m).present i = true from hp, if_neg (by decide), check]
    exact congrArg Host.Outcome.next (State.reply_hear ..)
  · have check : (s.hear .m).retireCheck (lockCodeOf codes) i = some .wrongCode :=
      (if_neg (Bool.ne_false_iff.2 hv)).trans (if_pos hw)
    rw [show (s.hear .m).present i = true from hp, if_neg (by decide), check]
    exact congrArg Host.Outcome.next (State.reply_hear ..)
  · have check : (s.hear .m).retireCheck (lockCodeOf codes) i = none :=
      (if_neg (Bool.ne_false_iff.2 hv)).trans (if_neg (not_not.2 hw))
    rw [show (s.hear .m).present i = true from hp, if_neg (by decide), check]
    have held : (s.hear .m).target i = false := State.target_of_has (k := .svc) hv
    simp only []
    refine ⟨fun hr => ?_, ?_, fun hcalm hr => ?_⟩
    · rw [if_pos (show (s.hear .m).has .retired i = true from hr)]
      exact congrArg Host.Outcome.next (State.reply_hear ..)
    · split
      · next h => exact ⟨_, rfl, h⟩
      · refine ⟨_, rfl, ?_⟩
        rw [State.addHold_held _ held]
        have kept (w : State) (h : w.takeReports.settle.has .retired i = true) :
            (w.conclude .m .retire [.holds] .done [0]).has .retired i = true := by
          rw [State.has, State.str_conclude]
          exact h
        refine kept _ ?_
        have o := State.has_outlasts (i := i) (k := .retired) (by decide)
        exact o.settle (o.takeReports (State.has_putHold (x := .retired) (by decide) hp))
    · rw [if_neg (Bool.eq_false_iff.1 (show (s.hear .m).has .retired i = false from hr)), State.addHold_held _ held]
      have str (j : StringId) := State.str_putHold .retired i j (s.hear .m) hp hr
      obtain ⟨r, c, e⟩ := State.putHold_quiet (x := .retired) (by decide) i (s.hear .m)
      generalize (s.hear .m).putHold .retired i = w at str e
      have calm : w.calm := by
        rw [e]
        exact hcalm
      refine ⟨_, congrArg Host.Outcome.next (State.conclude_quiet calm), ?_, fun j hj => ?_,
        deferred_of_port (by rw [e]; rfl), ?_⟩
      all_goals obtain ⟨q, p, x, f⟩ := State.waitForCommit_eq .m .retire .holds .done [0] w
      · rw [f]
        exact (str i).trans (if_pos rfl)
      · rw [f]
        exact (str j).trans (if_neg hj)
      · rw [f, e]
        exact ⟨rfl, rfl, rfl⟩

end Sys2Proof.Machine
end

section
/-! SUPPORT. The layouts of replies (R182): bytes in their places, and numbers as sums of bits. -/

namespace Sys2Proof.Machine

/-! ### Sums of bits -/

/-- Adding a power of two whose bit is clear sets that bit and no other. -/
theorem testBit_two_pow_add_of_clear {n k : Nat} (h : n.testBit k = false) (j : Nat) :
    (2 ^ k + n).testBit j = (decide (j = k) || n.testBit j) := by
  rcases lt_trichotomy j k with hj | rfl | hj
  · rw [Nat.testBit_two_pow_add_gt hj, decide_eq_false hj.ne, Bool.false_or]
  · rw [Nat.testBit_two_pow_add_eq, h, decide_eq_true rfl]
    rfl
  · obtain ⟨d, rfl⟩ : ∃ d, j = d + (k + 1) := ⟨j - (k + 1), by omega⟩
    have even : n / 2 ^ k % 2 = 0 := by
      rw [Nat.testBit_eq_decide_div_mod_eq, decide_eq_false_iff_not] at h
      omega
    have same : (2 ^ k + n) / 2 ^ (k + 1) = n / 2 ^ (k + 1) := by
      rw [pow_succ, ← Nat.div_div_eq_div_mul, ← Nat.div_div_eq_div_mul, Nat.add_div_left _ (Nat.two_pow_pos k)]
      omega
    rw [decide_eq_false (by omega), Bool.false_or, ← Nat.testBit_div_two_pow, same, Nat.testBit_div_two_pow]

theorem testBit_bitAt_add {n k : Nat} (h : n.testBit k = false) (b : Bool) (j : Nat) :
    (bitAt k b + n).testBit j = ((b && decide (j = k)) || n.testBit j) := by
  cases b with
  | false => simp [bitAt]
  | true => simpa [bitAt] using testBit_two_pow_add_of_clear h j

/-- The number with the bits given. -/
def sumOfBits (bits : List (Nat × Bool)) : Nat := (bits.map fun b => bitAt b.1 b.2).sum

theorem sumOfBits_cons (b : Nat × Bool) (bits : List (Nat × Bool)) :
    sumOfBits (b :: bits) = bitAt b.1 b.2 + sumOfBits bits := rfl

/-- A sum of bits at distinct places has no bit at another place. -/
theorem testBit_sumOfBits_of_notMem {bits : List (Nat × Bool)} (h : (bits.map Prod.fst).Nodup) :
    ∀ j ∉ bits.map Prod.fst, (sumOfBits bits).testBit j = false := by
  induction bits with
  | nil => exact fun j _ => Nat.zero_testBit j
  | cons b bits ih =>
    intro j hj
    obtain ⟨fresh, rest⟩ := List.nodup_cons.1 h
    obtain ⟨hb, hj⟩ := not_or.1 (mt List.mem_cons.2 hj)
    rw [sumOfBits_cons, testBit_bitAt_add (ih rest _ fresh), decide_eq_false hb, ih rest j hj]
    simp

/-- A sum of bits at distinct places has each of its bits. -/
theorem flagged_sumOfBits {bits : List (Nat × Bool)} (h : (bits.map Prod.fst).Nodup) :
    Flagged (sumOfBits bits) bits := by
  induction bits with
  | nil => exact fun b hb => absurd hb List.not_mem_nil
  | cons a bits ih =>
    intro b hb
    obtain ⟨fresh, rest⟩ := List.nodup_cons.1 h
    have clear := testBit_sumOfBits_of_notMem rest _ fresh
    rw [sumOfBits_cons, testBit_bitAt_add clear]
    rcases List.mem_cons.1 hb with rfl | hb
    · rw [clear, decide_eq_true rfl, Bool.and_true, Bool.or_false]
    · rw [ih rest b hb, decide_eq_false fun e : b.1 = a.1 => fresh (e ▸ List.mem_map_of_mem hb), Bool.and_false,
        Bool.false_or]

/-- A number's bits within a field of so many bits. -/
theorem Flagged.mod {n w : Nat} {bits : List (Nat × Bool)} (h : Flagged n bits) (hw : ∀ b ∈ bits, b.1 < w) :
    Flagged (n % 2 ^ w) bits := fun b hb => by
  rw [Nat.testBit_mod_two_pow, decide_eq_true (hw b hb), Bool.true_and, h b hb]

/-- A set of strings as a sum of bits (R182). -/
theorem setBits_stringsWhere (f : StringId → Bool) :
    setBits (stringsWhere f) = sumOfBits (allStrings.map fun i => (i.val, f i)) := by
  unfold setBits stringsWhere sumOfBits
  induction allStrings with
  | nil => rfl
  | cons i is ih =>
    cases h : f i <;> simp [h, ih, bitAt]

/-- Bit n - 1 of a set's field stands for string n (R182). -/
theorem testBit_setBits (f : StringId → Bool) (i : StringId) :
    (setBits (stringsWhere f) % 2 ^ 16).testBit i.val = f i := by
  rw [Nat.testBit_mod_two_pow, decide_eq_true i.isLt, Bool.true_and, setBits_stringsWhere]
  have all : (allStrings.map fun i => ((i.val, f i) : Nat × Bool)).map Prod.fst = List.range 16 := rfl
  exact flagged_sumOfBits (all ▸ List.nodup_range) (i.val, f i)
    (List.mem_map_of_mem (List.contains_iff_mem.1 (mem_allStrings i)))

/-- Bit k of a hold set's field stands for the kind in row k + 1 of the kinds table (section 11.1). -/
theorem testBit_holdBits (h : HoldSet) (k : HoldKind) : (holdBits h % 2 ^ 16).testBit k.slot.val = h[k.slot] := by
  rw [Nat.testBit_mod_two_pow, decide_eq_true (k.slot.isLt.trans (by decide)), Bool.true_and]
  have places : ((allHoldKinds.map fun k => ((k.slot.val, h[k.slot]) : Nat × Bool)).map Prod.fst).Nodup := by
    change (allHoldKinds.map fun k => k.slot.val).Nodup
    decide
  have sum : holdBits h = sumOfBits (allHoldKinds.map fun k => (k.slot.val, h[k.slot])) := rfl
  rw [sum]
  exact flagged_sumOfBits places (k.slot.val, h[k.slot]) (List.mem_map_of_mem (mem_allHoldKinds k))

/-! ### Numbers in their bytes -/

theorem numberOf_byte (n : Nat) : numberOf [byte n] = n % 256 ^ 1 := by
  simp [numberOf, byte]

theorem numberOf_bytes16 (x : BitVec 16) : numberOf (bytes16 x) = x.toNat := by
  have := x.isLt
  simp [numberOf, bytes16, BitVec.extractLsb'_toNat, Nat.shiftRight_eq_div_pow]
  omega

theorem numberOf_bytes32 (x : BitVec 32) : numberOf (bytes32 x) = x.toNat := by
  have := x.isLt
  simp [numberOf, bytes32, BitVec.extractLsb'_toNat, Nat.shiftRight_eq_div_pow]
  omega

/-- A field of one byte holds its number. -/
theorem fieldAt_byte {bytes : List Byte} {place m n : Nat} (h : (bytes.drop place).take 1 = [byte m]) (e : m = n) :
    fieldAt bytes place 1 = n % 256 ^ 1 := by
  rw [fieldAt, h, numberOf_byte, e]

/-- A field of two bytes holds its number. -/
theorem fieldAt_bytes16 {bytes : List Byte} {place m n : Nat}
    (h : (bytes.drop place).take 2 = bytes16 (BitVec.ofNat 16 m)) (e : m = n) :
    fieldAt bytes place 2 = n % 256 ^ 2 := by
  rw [fieldAt, h, numberOf_bytes16, BitVec.toNat_ofNat, e]
  rfl

/-- A field of four bytes holds its number. -/
theorem fieldAt_bytes32 {bytes : List Byte} {place : Nat} {x : BitVec 32}
    (h : (bytes.drop place).take 4 = bytes32 x) : fieldAt bytes place 4 = x.toNat % 256 ^ 4 := by
  rw [fieldAt, h, numberOf_bytes32]
  exact (Nat.mod_eq_of_lt x.isLt).symm

/-! ### Fields that may be absent (R182) -/

theorem field16_eq (x : Option Nat) : field16 x = bytes16 (BitVec.ofNat 16 (x.getD 0xFFFF)) := by
  cases x <;> rfl

/-- The number of a signed field: its most negative value where it is absent. -/
def signedNumber (x : Option Int) : Nat := (x.map fun n => (BitVec.ofInt 16 n).toNat).getD 0x8000

theorem signedField16_eq (x : Option Int) : signedField16 x = bytes16 (BitVec.ofNat 16 (signedNumber x)) := by
  cases x with
  | none => rfl
  | some n => exact congrArg bytes16 ((BitVec.ofNat_toNat 16 _).trans (BitVec.setWidth_eq _)).symm

end Sys2Proof.Machine
end

section
/-! SUPPORT. The statement on STATUS, READ STRING and READ SETTING (R72, R166, R169). -/

namespace Sys2Proof.Machine

variable {s : State} {p : Port} {i : StringId}

/-! ### READ STRING (R72, section 11.1) -/

/-- The flags of a READ STRING reply with those that are sent clear where they have no meaning. -/
def State.stringFlagBits (s : State) (i : StringId) : List (Nat × Bool) :=
  [(0, (s.eval i).suspect), (1, ((s.mfe.samples.map fun v => v.channels[i]).map Sample.clipped).getD false),
   (2, s.mfe.daylight == .day), (3, s.target i), (4, ((s.str i).overcurrent.map OvercurrentDetail.auto).getD false)]

/-- The bytes of a READ STRING reply, field by field. -/
theorem State.readString_eq (s : State) (i : StringId) : s.readString i =
    [byte (stringNumber i), byte (bitAt 0 (s.strSet i).present), byte (groupCode (s.strSet i).group),
      byte (s.strSet i).rank, byte (rangeCode (s.strSet i).range)]
    ++ bytes16 (BitVec.ofNat 16 (holdBits (s.str i).holds))
    ++ [byte (s.str i).overcurrentCount,
        byte (((s.str i).overcurrent.map OvercurrentDetail.attempt).getD 0xFF)]
    ++ bytes16 (BitVec.ofNat 16 ((s.recloseLeft i).getD 0xFFFF))
    ++ [byte (((s.str i).faultKind.map faultCode).getD 0xFF),
        byte (((s.str i).groundDetail.map detailCode).getD 0xFF), byte (switchCode (s.switchState i)),
        byte (s.eval i).suspicion]
    ++ bytes16 (BitVec.ofNat 16 ((s.eval i).lastDeficit.getD 0xFFFF))
    ++ bytes16 (BitVec.ofNat 16 (signedNumber ((s.mfe.samples.map fun v => v.channels[i]).map Sample.current)))
    ++ bytes16 (BitVec.ofNat 16 (((s.mfe.samples.map fun v => v.channels[i]).map Sample.sideVoltage).getD 0xFFFF))
    ++ [byte (s.stackPosition i), byte (sumOfBits (s.stringFlagBits i))] := by
  unfold State.readString
  simp only [field16_eq, signedField16_eq, field8, sumOfBits, State.stringFlagBits, List.map_cons, List.map_nil,
    List.sum_cons, List.sum_nil, add_zero, add_assoc]

theorem State.length_readString (s : State) (i : StringId) : (s.readString i).length = 23 := by
  rw [State.readString_eq]
  rfl

/-- The reclose time a READ STRING reply shows (R106). -/
theorem State.recloseLeft_number (s : State) (i : StringId) : (s.recloseLeft i).getD 0xFFFF =
    match (s.str i).overcurrent, (s.rcl[i]).reclose with
    | none, _ => 0xFFFF
    | some d, some t => if d.auto then (t - s.now + 999) / 1000 else 0
    | some _, none => 0 := by
  unfold State.recloseLeft
  cases (s.str i).overcurrent with
  | none => rfl
  | some d => cases (s.rcl[i]).reclose <;> cases h : d.auto <;> simp [h, secondsUp]

theorem State.stackPosition_eq (s : State) (i : StringId) : s.stackPosition i =
    match (s.tsc.stack.map ShedEntry.string).findIdx? fun j => decide (j = i) with
    | some k => k + 1
    | none => 0 := by
  rw [List.findIdx?_map]
  rfl

/-- A READ STRING reply is laid out as section 11.1 gives it. -/
theorem State.readString_laidOut (s : State) (i : StringId) : LaidOut (s.readString i) (s.stringLayout i) := by
  have current (x : Option Samples) : signedNumber ((x.map fun v => v.channels[i]).map Sample.current) =
      match x.map fun v => v.channels[i] with
      | some x => (BitVec.ofInt 16 x.current).toNat
      | none => 0x8000 := by cases x <;> rfl
  have side (x : Option Samples) : ((x.map fun v => v.channels[i]).map Sample.sideVoltage).getD 0xFFFF =
      match x.map fun v => v.channels[i] with
      | some x => x.sideVoltage
      | none => 0xFFFF := by cases x <;> rfl
  rw [State.readString_eq]
  simp only [LaidOut, State.stringLayout, List.forall_mem_cons]
  refine ⟨fieldAt_byte rfl rfl, fieldAt_byte rfl rfl, fieldAt_byte rfl rfl, fieldAt_byte rfl rfl,
    fieldAt_byte rfl rfl, fieldAt_byte rfl rfl, fieldAt_byte rfl ?_, fieldAt_bytes16 rfl (State.recloseLeft_number s i),
    fieldAt_byte rfl ?_, fieldAt_byte rfl ?_, fieldAt_byte rfl rfl, fieldAt_byte rfl rfl, fieldAt_bytes16 rfl rfl,
    fieldAt_bytes16 rfl (current _), fieldAt_bytes16 rfl (side _), fieldAt_byte rfl (State.stackPosition_eq s i),
    fun _ h => absurd h List.not_mem_nil⟩
  · cases (s.str i).overcurrent <;> rfl
  · cases (s.str i).faultKind <;> rfl
  · cases (s.str i).groundDetail <;> rfl

theorem State.testBit_readString (s : State) (i : StringId) (k : HoldKind) :
    (fieldAt (s.readString i) 5 2).testBit k.slot.val = s.has k i := by
  have field : fieldAt (s.readString i) 5 2 = holdBits (s.str i).holds % 2 ^ 16 := by
    rw [State.readString_eq]
    exact fieldAt_bytes16 rfl rfl
  rw [field, testBit_holdBits]
  rfl

/-- The flags of a READ STRING reply are those of section 11.1. -/
theorem State.readString_flagged (s : State) (i : StringId) :
    Flagged (fieldAt (s.readString i) 22 1) (s.stringBits i) := by
  have field : fieldAt (s.readString i) 22 1 = sumOfBits (s.stringFlagBits i) % 2 ^ 8 := by
    rw [State.readString_eq]
    exact fieldAt_byte rfl rfl
  have flags : Flagged (fieldAt (s.readString i) 22 1) (s.stringFlagBits i) := by
    have places : ((s.stringFlagBits i).map Prod.fst).Nodup := (by decide : [0, 1, 2, 3, 4].Nodup)
    rw [field]
    exact (flagged_sumOfBits places).mod (by simp [State.stringFlagBits])
  simp only [Flagged, State.stringFlagBits, List.forall_mem_cons] at flags
  obtain ⟨suspect, clipped, day, target, auto, -⟩ := flags
  simp only [Flagged, State.stringBits, List.forall_mem_append, List.forall_mem_cons]
  refine ⟨⟨suspect, day, target, ?_, fun _ h => absurd h List.not_mem_nil⟩, ?_⟩
  · rw [auto]
    cases (s.str i).overcurrent <;> rfl
  · cases h : s.mfe.samples with
    | none => exact fun _ h => absurd h List.not_mem_nil
    | some v =>
      rw [h] at clipped
      simpa using clipped

theorem exec_readString (ha : s.accepts p) (n : Byte) :
    exec (.readString p [n]) s = .next ((s.hear p).readStringRequest p [n]) :=
  congrArg Host.Outcome.next (State.serve_accepts _ ha rfl (by cases p <;> rfl))

theorem exec_readString_badString (ha : s.accepts p) {n : Byte} (hn : ¬(1 ≤ n.toNat ∧ n.toNat ≤ 16)) :
    exec (.readString p [n]) s = .next (s.answered p 0x02 .badString []) := by
  rw [exec_readString ha]
  change Host.Outcome.next (match stringOfByte n with | some i => _ | none => _) = _
  rw [stringOfByte_none hn]
  exact congrArg _ (State.reply_hear ..)

theorem exec_readString_done (ha : s.accepts p) (i : StringId) :
    exec (.readString p [byte (stringNumber i)]) s = .next (s.answered p 0x02 .done (s.readString i)) := by
  rw [exec_readString ha]
  change Host.Outcome.next (match stringOfByte (byte (stringNumber i)) with | some i => _ | none => _) = _
  rw [stringOfByte_number]
  exact congrArg _ (State.reply_hear ..)

/-! ### STATUS (R169, section 11.1) -/

/-- The flags of a STATUS reply with the one that is sent clear where it has no meaning. -/
def State.statusFlagBits (s : State) : List (Nat × Bool) :=
  [(0, s.mfe.daylight == .day), (1, s.imon.lowMark), (2, s.imon.suppression), (3, s.stab.conditions.fire),
   (4, s.stab.conditions.start), (5, s.stab.conditions.store), (6, s.stab.conditions.arc),
   (7, (s.arcd.latest.map Prod.snd).getD false), (8, s.sseq.curtail), (9, s.arcd.latest.isSome)]

theorem State.statusFlags_eq (s : State) : s.statusFlags = sumOfBits s.statusFlagBits := by
  simp only [State.statusFlags, sumOfBits, State.statusFlagBits, List.map_cons, List.map_nil, List.sum_cons,
    List.sum_nil, add_zero, add_assoc]

/-- The bytes of a STATUS reply, field by field. -/
theorem State.statusFields_eq (s : State) (p : Port) : s.statusFields p =
    bytes32 s.uptime ++ bytes16 (BitVec.ofNat 16 ((s.mfe.samples.map Samples.bus).getD 0xFFFF))
    ++ bytes16 (BitVec.ofNat 16 (signedNumber (s.mfe.samples.map Samples.temperature)))
    ++ (bytes16 (BitVec.ofNat 16 ((s.seval.groups[0]).reference.getD 0xFFFF)) ++ [byte (s.seval.groups[0]).count])
    ++ (bytes16 (BitVec.ofNat 16 ((s.seval.groups[1]).reference.getD 0xFFFF)) ++ [byte (s.seval.groups[1]).count])
    ++ (bytes16 (BitVec.ofNat 16 ((s.seval.groups[2]).reference.getD 0xFFFF)) ++ [byte (s.seval.groups[2]).count])
    ++ (bytes16 (BitVec.ofNat 16 ((s.seval.groups[3]).reference.getD 0xFFFF)) ++ [byte (s.seval.groups[3]).count])
    ++ bytes16 (BitVec.ofNat 16 (s.tsc.limit.getD 0xFFFF)) ++ bytes16 (BitVec.ofNat 16 (s.tsc.total.getD 0xFFFF))
    ++ [byte s.tsc.stack.length]
    ++ (bytes16 (BitVec.ofNat 16 ((s.imon.last.map LastReading.reading).getD 0xFFFF))
      ++ bytes32 ((s.imon.last.map LastReading.time).getD 0xFFFFFFFF)
      ++ [byte ((s.imon.last.map fun l => l.owner.code).getD 0xFF)])
    ++ [byte s.cycleState.code, byte s.gsu.state.code, byte s.gsu.measurements, byte s.gsu.restarts,
        byte s.gsu.p.length, byte s.gsu.c.length, byte s.gsu.x.length, byte s.gsu.k.length, byte s.gsu.f.length,
        byte s.gsu.e.length, byte s.gsu.v.length,
        (s.arcd.latest.map Prod.fst).getD 0xFF, byte s.overCount, byte s.presentSet.length]
    ++ bytes16 (BitVec.ofNat 16 (setBits s.closedSet))
    ++ bytes16 (BitVec.ofNat 16 (setBits (stringsWhere fun i => s.switchState i == .faulted)))
    ++ [byte (s.ring p).records.length]
    ++ bytes16 (BitVec.ofNat 16 (sumOfBits s.statusFlagBits)) := by
  unfold State.statusFields
  simp only [field16_eq, signedField16_eq, groupBytes, State.statusFlags_eq]
  cases s.imon.last with
  | none => rfl
  | some l => simp only [Option.map_some, Option.getD_some]

theorem State.length_statusFields (s : State) (p : Port) : (s.statusFields p).length = 53 := by
  rw [State.statusFields_eq]
  rfl

/-- A STATUS reply is laid out as section 11.1 gives it. -/
theorem State.statusFields_laidOut (s : State) (p : Port) : LaidOut (s.statusFields p) (s.statusLayout p) := by
  have temperature (x : Option Samples) : signedNumber (x.map Samples.temperature) =
      match x with
      | some v => (BitVec.ofInt 16 v.temperature).toNat
      | none => 0x8000 := by cases x <;> rfl
  rw [State.statusFields_eq]
  simp only [List.append_assoc, List.cons_append, List.nil_append]
  simp only [LaidOut, State.statusLayout, State.statusLayout.allGroups, List.map_cons, List.map_nil,
    List.flatten_cons, List.flatten_nil, List.forall_mem_append, List.forall_mem_cons, List.append_nil]
  have none_left {P : Nat × Nat × Nat → Prop} : ∀ row ∈ ([] : List (Nat × Nat × Nat)), P row :=
    fun _ h => absurd h List.not_mem_nil
  refine ⟨⟨⟨⟨⟨⟨⟨fieldAt_bytes32 rfl, fieldAt_bytes16 rfl rfl, fieldAt_bytes16 rfl (temperature _), none_left⟩,
    ?groups⟩, ⟨fieldAt_bytes16 rfl rfl, fieldAt_bytes16 rfl rfl, fieldAt_byte rfl rfl, none_left⟩⟩, ?last⟩,
    ?search⟩, ?arc⟩, ⟨fieldAt_byte rfl rfl, fieldAt_byte rfl rfl, fieldAt_byte rfl rfl, none_left⟩⟩
  case groups =>
    exact ⟨⟨fieldAt_bytes16 rfl rfl, fieldAt_byte rfl rfl, none_left⟩,
      ⟨fieldAt_bytes16 rfl rfl, fieldAt_byte rfl rfl, none_left⟩,
      ⟨fieldAt_bytes16 rfl rfl, fieldAt_byte rfl rfl, none_left⟩,
      ⟨fieldAt_bytes16 rfl rfl, fieldAt_byte rfl rfl, none_left⟩⟩
  case last =>
    cases s.imon.last with
    | none => exact List.forall_mem_cons.2 ⟨fieldAt_byte rfl rfl, none_left⟩
    | some l =>
      simp only [List.forall_mem_cons]
      exact ⟨fieldAt_bytes16 rfl rfl, fieldAt_bytes32 rfl, fieldAt_byte rfl rfl, none_left⟩
  case search =>
    exact ⟨fieldAt_byte rfl rfl, fieldAt_byte rfl rfl, fieldAt_byte rfl rfl, fieldAt_byte rfl rfl,
      fieldAt_byte rfl rfl, fieldAt_byte rfl rfl, fieldAt_byte rfl rfl, fieldAt_byte rfl rfl, fieldAt_byte rfl rfl,
      fieldAt_byte rfl rfl, fieldAt_byte rfl rfl, none_left⟩
  case arc =>
    cases s.arcd.latest with
    | none => exact none_left
    | some l =>
      have same : byte l.1.toNat = l.1 := (BitVec.ofNat_toNat 8 _).trans (BitVec.setWidth_eq _)
      exact List.forall_mem_cons.2 ⟨fieldAt_byte (congrArg (fun b => [b]) same.symm) rfl, none_left⟩

/-- The sets of a STATUS reply: the CLOSED and the FAULTED strings (section 11.1). -/
theorem State.testBit_statusFields (s : State) (p : Port) (i : StringId) :
    (fieldAt (s.statusFields p) 46 2).testBit i.val = decide (s.switchState i = .closed) ∧
      (fieldAt (s.statusFields p) 48 2).testBit i.val = decide (s.switchState i = .faulted) := by
  have closed : fieldAt (s.statusFields p) 46 2 = setBits s.closedSet % 2 ^ 16 := by
    rw [State.statusFields_eq]
    simp only [List.append_assoc, List.cons_append, List.nil_append]
    exact fieldAt_bytes16 rfl rfl
  have faulted : fieldAt (s.statusFields p) 48 2 =
      setBits (stringsWhere fun i => s.switchState i == .faulted) % 2 ^ 16 := by
    rw [State.statusFields_eq]
    simp only [List.append_assoc, List.cons_append, List.nil_append]
    exact fieldAt_bytes16 rfl rfl
  rw [closed, faulted]
  exact ⟨testBit_setBits _ i, testBit_setBits _ i⟩

/-- The flags of a STATUS reply are those of section 11.1. -/
theorem State.statusFields_flagged (s : State) (p : Port) :
    Flagged (fieldAt (s.statusFields p) 51 2) s.statusBits := by
  have field : fieldAt (s.statusFields p) 51 2 = sumOfBits s.statusFlagBits % 2 ^ 16 := by
    rw [State.statusFields_eq]
    simp only [List.append_assoc, List.cons_append, List.nil_append]
    exact fieldAt_bytes16 rfl rfl
  have flags : Flagged (fieldAt (s.statusFields p) 51 2) s.statusFlagBits := by
    have places : (s.statusFlagBits.map Prod.fst).Nodup := (by decide : [0, 1, 2, 3, 4, 5, 6, 7, 8, 9].Nodup)
    rw [field]
    exact (flagged_sumOfBits places).mod (by simp [State.statusFlagBits])
  simp only [Flagged, State.statusFlagBits, List.forall_mem_cons] at flags
  obtain ⟨day, low, suppression, fire, start, store, arc, blank, curtail, index, -⟩ := flags
  simp only [Flagged, State.statusBits, List.forall_mem_append, List.forall_mem_cons]
  refine ⟨⟨day, low, suppression, fire, start, store, arc, curtail, index, fun _ h => absurd h List.not_mem_nil⟩, ?_⟩
  cases h : s.arcd.latest with
  | none => exact fun _ h => absurd h List.not_mem_nil
  | some l =>
    rw [h] at blank
    simpa using blank

theorem exec_status (ha : s.accepts p) :
    exec (.status p []) s = .next (s.answered p 0x01 .done (s.statusFields p)) := by
  have fields : (s.hear p).statusFields p = s.statusFields p := by cases p <;> rfl
  have run : exec (.status p []) s = .next ((s.hear p).statusRequest p) :=
    congrArg Host.Outcome.next (State.serve_accepts _ ha rfl (by cases p <;> rfl))
  rw [run, State.statusRequest, fields]
  exact congrArg _ (State.reply_hear ..)

/-! ### READ SETTING (R166) -/

theorem exec_readSetting (ha : s.accepts p) (k n : Byte) :
    exec (.readSetting p [k, n]) s = .next ((s.hear p).readSettingRequest p [k, n]) :=
  congrArg Host.Outcome.next (State.serve_accepts _ ha rfl (by cases p <;> rfl))

/-- READ SETTING of an index and a string byte that name no setting. -/
theorem exec_readSetting_error (ha : s.accepts p) {k n : Byte} {r : Result} (h : settingTarget [k, n] = .error r) :
    exec (.readSetting p [k, n]) s = .next (s.answered p 0x0E r []) := by
  rw [exec_readSetting ha, State.readSettingRequest, h]
  exact congrArg _ (State.reply_hear ..)

/-- READ SETTING of a setting, with its value in force. -/
theorem exec_readSetting_ok (ha : s.accepts p) {k n : Byte} {r : SettingRef} {i : StringId}
    (h : settingTarget [k, n] = .ok (r, i)) : exec (.readSetting p [k, n]) s =
      .next (s.answered p 0x0E .done ([k, n] ++ bytes32 (BitVec.ofInt 32 (s.settingInForce r i)))) := by
  rw [exec_readSetting ha, State.readSettingRequest, h]
  exact congrArg _ (State.reply_hear ..)

theorem settingTarget_none {k n : Byte} (h : settingOfIndex k = none) : settingTarget [k, n] = .error .badForm := by
  change (match settingOfIndex k with | none => _ | some r => _) = _
  rw [h]

theorem settingTarget_whole {k n : Byte} {x : Setting} (h : settingOfIndex k = some (.whole x)) :
    settingTarget [k, n] = .ok (.whole x, 0) := by
  change (match settingOfIndex k with | none => _ | some r => _) = _
  rw [h]
  rfl

theorem settingTarget_badString {k n : Byte} {r : SettingRef} (h : settingOfIndex k = some r)
    (hr : r.perString = true) (hn : ¬(1 ≤ n.toNat ∧ n.toNat ≤ 16)) : settingTarget [k, n] = .error .badString := by
  change (match settingOfIndex k with | none => _ | some r => _) = _
  rw [h]
  change (if r.perString = true then (match stringOfByte n with | some i => _ | none => _) else _) = _
  rw [if_pos hr, stringOfByte_none hn]

/-- The per-string settings of section 11.2, by their indices. -/
theorem State.stringSettingRows_names (s : State) (i : StringId) : ∀ row ∈ s.stringSettingRows i,
    ∃ r, settingOfIndex row.1 = some r ∧ r.perString = true ∧ s.settingInForce r i = row.2 := by
  simp only [State.stringSettingRows, List.forall_mem_cons]
  refine ⟨⟨.offset, rfl, rfl, rfl⟩, ⟨.gain, rfl, rfl, rfl⟩, ⟨.range, rfl, rfl, ?_⟩, ⟨.group, rfl, rfl, ?_⟩,
    ⟨.rank, rfl, rfl, rfl⟩, fun _ h => absurd h List.not_mem_nil⟩
  · change (rangeCode (s.settings.strings[i]).range : Int) = _
    cases (s.settings.strings[i]).range <;> rfl
  · change (groupCode (s.settings.strings[i]).group : Int) = _
    cases (s.settings.strings[i]).group <;> rfl

/-! ### The status byte (R182) -/

/-- The flags of a status byte by its parts. -/
theorem statusByte_flags (attention key search safe : Bool) (l : LoopState) :
    let status := (byte (bitAt 0 attention + bitAt 1 key + 4 * loopCode l + bitAt 4 search + bitAt 5 safe)).toNat
    Flagged status [(0, attention), (1, key), (4, search), (5, safe), (6, false), (7, false)] ∧
      status / 4 % 4 = loopNumber l := by
  revert attention key search safe
  cases l <;> decide

theorem State.statusByte_flagged (s : State) (p : Port) :
    Flagged (s.statusByte p).toNat (s.statusByteBits p) ∧
      (s.statusByte p).toNat / 4 % 4 = loopNumber s.fli.accepted := by
  have attention : s.attention p = decide (s.cfgNat (notifyOf p) ≤ (s.ring p).records.length ∨
      ((s.ring p).delay = .expired ∧ 0 < (s.ring p).records.length)) := by
    rw [Bool.eq_iff_iff]
    simp [State.attention, List.length_pos_iff]
  have search : s.searchActive = decide (s.gsu.state ≠ .idle) := by
    rw [Bool.eq_iff_iff]
    simp [State.searchActive]
  have bits : s.statusByteBits p = [(0, s.attention p), (1, s.ports.key.on), (4, s.searchActive),
      (5, s.fli.arraySafe), (6, false), (7, false)] := by
    rw [attention, search]
    cases p <;> rfl
  rw [bits]
  exact statusByte_flags ..

/-- Settles O23: each request is accepted and answered from the fields as they stand, which a heard request leaves
alone; the layouts are read field by field, and the flags are sums of bits at distinct places. -/
theorem readsOnlyReply : Obligations.ReadsOnlyReply := by
  unfold Obligations.ReadsOnlyReply
  intro s p ha
  refine ⟨?status, fun n hn => exec_readString_badString ha hn, ?string,
    fun k n hk => exec_readSetting_error ha (settingTarget_none hk),
    fun k n x hk => ?_, fun k n r hk hr => ⟨fun hn => ?_, ?_⟩,
    fun i row hrow => ?_, ?byte⟩
  case status =>
    exact ⟨exec_status ha, s.length_statusFields p, s.statusFields_laidOut p, s.testBit_statusFields p,
      s.statusFields_flagged p⟩
  case string =>
    exact fun i => ⟨exec_readString_done ha i, s.length_readString i, s.readString_laidOut i, s.testBit_readString i,
      s.readString_flagged i⟩
  · have value : s.settingInForce (.whole x) 0 = s.cfg x := rfl
    rw [exec_readSetting_ok ha (settingTarget_whole hk), value]
  · exact exec_readSetting_error ha (settingTarget_badString hk hr hn)
  · rintro i rfl
    exact exec_readSetting_ok ha (settingTarget_string hk hr rfl)
  · obtain ⟨r, hk, hr, e⟩ := s.stringSettingRows_names i row hrow
    rw [← e]
    exact exec_readSetting_ok ha (settingTarget_string hk hr rfl)
  case byte => exact fun _ _ _ => s.statusByte_flagged p

end Sys2Proof.Machine
end

section
/-! SUPPORT. What a request's end and the search's work at it cannot give back to a string that has lost a kind
(R51, R52, R127 to R138). -/

namespace Sys2Proof.Machine

variable {R : Prop} {s t u : State} {i j : StringId} {k : HoldKind} {Q : StringRecord → Prop}

/-! ### Properties of a record that only a party, a condition or a block can undo -/

/-- A property of a record that removals keep, and the freeze of a string by the search. -/
structure Freezable (Q : StringRecord → Prop) : Prop where
  freeze : ∀ {r}, Q r → Q (r.put .search)
  take : ∀ {r} (k : HoldKind), Q r → Q (r.take k)

/-- One that the search's other addition keeps as well. -/
structure Lasting (Q : StringRecord → Prop) : Prop extends Freezable Q where
  ground : ∀ {r} (d : GroundDetail), Q r → Q (r.put (.ground d))

/-- A kind that the search does not add. -/
def HoldKind.notSearched (k : HoldKind) : Prop := k ≠ .search ∧ k ≠ .ground

theorem StringRecord.lacks_put {r : StringRecord} {x : Hold} (hx : k ≠ x.kind) (h : r.holds[k.slot] = false) :
    (r.put x).holds[k.slot] = false := by
  rw [StringRecord.has_put, h, decide_eq_false hx]
  rfl

theorem freezable_lacks (hk : k ≠ .search) : Freezable fun r => r.holds[k.slot] = false where
  freeze h := StringRecord.lacks_put hk h
  take x h := by rw [StringRecord.has_take, h, Bool.and_false]

theorem lasting_lacks (hk : k.notSearched) : Lasting fun r => r.holds[k.slot] = false where
  toFreezable := freezable_lacks hk.1
  ground _ h := StringRecord.lacks_put hk.2 h

theorem lasting_count (n : Nat) : Lasting fun r => r.overcurrentCount = n where
  freeze h := h
  take x h := by cases x <;> exact h
  ground _ h := h

theorem Lasting.and {Q' : StringRecord → Prop} (h : Lasting Q) (h' : Lasting Q') : Lasting fun r => Q r ∧ Q' r where
  freeze x := ⟨h.freeze x.1, h'.freeze x.2⟩
  take k x := ⟨h.take k x.1, h'.take k x.2⟩
  ground d x := ⟨h.ground d x.1, h'.ground d x.2⟩

/-- What a changed target sets going after a removal is work in which no target turns OPEN. -/
theorem State.removeHold_deeds (k : HoldKind) (i : StringId) (s : State) :
    Deeds True (fun _ => False) (s.takeHold k i) (s.removeHold k i) := by
  unfold State.removeHold
  simp only []
  split
  · next hc => exact (Deeds.refl _).targetTurnsClosed (fun n => absurd trivial n) hc.2
  · exact Deeds.refl _

section Work

variable (o : Freezable Q)

include o

theorem Freezable.enter (i : StringId) (new : SwitchState) (timer : Option Nat) (h : Q (s.str j)) :
    Q ((s.enter i new timer).str j) := by
  rcases State.str_enter i j new timer s with e | ⟨-, -, -, e⟩ <;> rw [e]
  · exact h
  · exact o.freeze h

/-- Work in which no target turns OPEN. -/
theorem Freezable.deeds (d : Deeds R (fun _ => False) s t) (h : Q (s.str j)) : Q (t.str j) :=
  d.keeps (P := fun v => Q (v.str j)) (fun {v _} d h => by
    rcases d.str j with e | ⟨-, -, e⟩ | ⟨-, e | ⟨-, -, e⟩⟩ | ⟨n, -⟩
    · exact e ▸ h
    · exact e ▸ o.freeze h
    · exact e ▸ o.take _ h
    · exact e ▸ o.freeze (o.take _ h)
    · exact n.elim) h

theorem Freezable.arbiter (h : Q (s.str j)) : Q (s.arbiter.str j) :=
  o.deeds (R := True) ((Deeds.refl s).arbiter fun n => absurd trivial n) h

theorem Freezable.takeReports (h : Q (s.str j)) : Q (s.takeReports.str j) :=
  o.deeds (R := True) (Deeds.refl s).takeReports h

theorem Freezable.emit (x : EventKind) (y : Option StringId) (a b : Int) (h : Q (s.str j)) : Q ((s.emit x y a b).str j) :=
  o.deeds (R := True) ((Deeds.refl s).emit x y a b) h

theorem Freezable.pendingOpenQ (h : Q (s.str j)) : Q ((s.pendingOpenQ i).str j) := by
  have k := o.enter i .pendingOpen none h
  have joined : Q (((s.enter i .pendingOpen none).joinQueue i .toOpen).str j) :=
    o.deeds (R := True) ((Deeds.refl _).joinQueue i _) k
  unfold State.pendingOpenQ
  simp only []
  split
  · exact joined
  · exact o.emit _ _ _ _ (o.enter (s := ((s.enter i .pendingOpen none).joinQueue i .toOpen).modSwitch i fun w =>
      { w with periods := 0 }) i _ _ joined)

theorem Freezable.targetTurnsOpen (h : Q (s.str j)) : Q ((s.targetTurnsOpen i).str j) := by
  have interrupted : Q ((s.interruptQ i).arbiter.str j) := by
    have k : Q ((s.interrupts i).str j) := o.enter (s := s.drive i .off) i _ _ h
    rw [State.interruptQ_eq]
    refine o.arbiter ?_
    split
    · exact o.pendingOpenQ k
    · exact k
  unfold State.targetTurnsOpen
  split
  · exact o.enter (s := s.leaveQueue i) i _ _ h
  · exact o.arbiter (o.pendingOpenQ (s := s.leaveRampList i) h)
  · exact interrupted
  · exact interrupted
  · exact h

theorem Freezable.takeHold (k : HoldKind) (i : StringId) (h : Q (s.str j)) : Q ((s.takeHold k i).str j) := by
  rcases State.str_taken k i j s with e | ⟨-, e⟩ <;> rw [e]
  · exact h
  · split
    · exact o.freeze (o.take k h)
    · exact o.take k h

/-- What a removal makes of a record outlasts the work that a changed target sets going. -/
theorem Freezable.removed (k : HoldKind) (i : StringId) (h : Q ((s.takeHold k i).str j)) :
    Q ((s.removeHold k i).str j) := o.deeds (State.removeHold_deeds k i s) h

theorem Freezable.removeHold (k : HoldKind) (i : StringId) (h : Q (s.str j)) : Q ((s.removeHold k i).str j) :=
  o.removed k i (o.takeHold k i h)

theorem Freezable.removeHolds (k : HoldKind) (xs : List StringId) (h : Q (s.str j)) : Q ((s.removeHolds k xs).str j) := by
  induction xs generalizing s with
  | nil => exact h
  | cons y ys ih => exact ih (o.removeHold k y h)

/-- What a removal makes of every record, it makes of each string of a list. -/
theorem Freezable.removesAll (k : HoldKind) (hq : ∀ s : State, Q ((s.takeHold k i).str i)) {xs : List StringId}
    (hi : i ∈ xs) (s : State) : Q ((s.removeHolds k xs).str i) := by
  induction xs generalizing s with
  | nil => exact absurd hi List.not_mem_nil
  | cons y ys ih =>
    rcases List.mem_cons.1 hi with rfl | hi
    · exact o.removeHolds k ys (o.removed k i (hq s))
    · exact ih hi _

theorem Freezable.emitHoldChanged (k : HoldKind) (added : Bool) (cause : ChangeCause) (xs : List StringId)
    (h : Q (s.str j)) : Q ((s.emitHoldChanged k added cause xs).str j) := by
  unfold State.emitHoldChanged
  split
  · exact h
  · exact o.emit _ _ _ _ h

end Work

section Search

variable (o : Lasting Q)

include o

/-- An addition of the search's. -/
theorem Lasting.addHold {x : Hold} (hx : x.ofSearch) (i : StringId) (h : Q (s.str j)) : Q ((s.addHold x i).str j) := by
  have k : Q ((s.putHold x i).str j) := by
    rcases State.str_putHold_or x hx.kinds.1 i j s with e | ⟨-, -, -, e⟩ <;> rw [e]
    · exact h
    · rcases hx with rfl | ⟨d, rfl⟩
      · exact o.freeze h
      · exact o.ground d h
  unfold State.addHold
  simp only []
  split
  · exact o.targetTurnsOpen k
  · exact k

theorem Lasting.addHolds {x : Hold} (hx : x.ofSearch) (xs : List StringId) (h : Q (s.str j)) :
    Q ((s.addHolds x xs).str j) := by
  induction xs generalizing s with
  | nil => exact h
  | cons y ys ih => exact ih (o.addHold hx y h)

theorem Lasting.seek : Seek fun s => Q (s.str j) where
  addHold x i hx h := o.addHold hx i h
  removeHold i h := o.removeHold .search i h
  takeReports h := o.takeReports h
  emit x y a b h := o.emit x y a b h
  modImon f h := h
  widen f _ h := h
  regroup f xs _ _ h := o.addHolds (.inl rfl) xs h
  start cause x hx h := by
    refine o.addHolds hx _ ?_
    obtain ⟨m, g, e⟩ := State.begun_eq cause _
    rw [e]
    exact h

/-- The end of a request. -/
theorem Lasting.conclude (p : Port) (q : RequestCode) (waits : List StoreRecord) (r : Result) (body : List Byte)
    (h : Q (s.str j)) : Q ((s.conclude p q waits r body).str j) := by
  rw [State.str_conclude]
  exact o.seek.settle (o.takeReports h)

end Search

/-- The record that a removal leaves of a string that carries the kind (R43, R51). -/
theorem State.str_takeHold_of_has (hh : s.has k i = true) (j : StringId) : (s.takeHold k i).str j =
    if j = i then (if s.freezes k i then ((s.str i).take k).put .search else (s.str i).take k) else s.str j := by
  have e (v : State) (hv : v.stab = (s.modString i fun r =>
      if s.freezes k i then (r.take k).put .search else r.take k).stab) : v.str j = _ :=
    (congrArg (fun b => b.strings[j]) hv).trans (State.str_modString i j _ s)
  unfold State.takeHold
  rw [if_neg (by simp [hh])]
  refine e _ ?_
  cases k with
  | svc => exact (congrArg Heart.stab (State.heart_abandonCapture i _)).trans rfl
  | _ => rfl

/-- A taken hold is gone. -/
theorem State.has_takeHold (hk : k ≠ .search) (i : StringId) (s : State) : (s.takeHold k i).has k i = false := by
  by_cases hh : s.has k i = true
  · have other : decide (k = Hold.search.kind) = false := decide_eq_false hk
    rw [State.has, State.str_takeHold_of_has hh, if_pos rfl]
    split
    · rw [StringRecord.has_put, StringRecord.has_take, other]
      simp
    · rw [StringRecord.has_take]
      simp
  · rw [State.takeHold_none k i s (Bool.eq_false_iff.2 hh)]
    exact Bool.eq_false_iff.2 hh

/-- Every string of a list has lost the kind that is taken from them. -/
theorem State.lacks_removeHolds (hk : k ≠ .search) {xs : List StringId} (hi : i ∈ xs) (s : State) :
    (s.removeHolds k xs).has k i = false :=
  (freezable_lacks hk).removesAll k (fun s => s.has_takeHold hk i) hi s

end Sys2Proof.Machine
end

section
/-! SUPPORT. A string whose target turns CLOSED goes on its way to CLOSED, while no search is under way (R78 to R82). -/

namespace Sys2Proof.Machine

variable {R : Prop} {s t u : State} {i j : StringId} {k : HoldKind}

/-- The states of a string on its way from OPEN to CLOSED. -/
def closingStates : List SwitchState := [.pendingClose, .relayClosing, .rampWait, .ramping]

/-- A string with its target CLOSED is on its way there. -/
def State.Advances (s : State) (i : StringId) : Prop :=
  s.gsu.state = .idle ∧ s.target i = true ∧ s.switchState i ∈ closingStates

/-! ### What closing work leaves of a string -/

/-- Starting ramps leaves a string's state, or ramps it (R82). -/
theorem State.rampStarts_rides (n : Nat) (s : State) (j : StringId) :
    (State.rampStarts n s).switchState j = s.switchState j ∨ (State.rampStarts n s).switchState j = .ramping := by
  induction n generalizing s with
  | zero => exact .inl rfl
  | succ n ih =>
    have one (i : StringId) :
        (s.startRamp i).switchState j = s.switchState j ∨ (s.startRamp i).switchState j = .ramping := by
      rw [State.startRamp, State.switchState_enter]
      split
      · exact .inr rfl
      · exact .inl ((State.switchState_drive ..).trans rfl)
    unfold State.rampStarts
    split
    · exact .inl rfl
    · next i _ _ =>
      split
      · rcases ih (s.startRamp i) with e | e
        · rw [e]
          exact one i
        · exact .inr e
      · exact .inl rfl

theorem State.acceptClosedQ_rides (hj : j ≠ i) (s : State) :
    (s.acceptClosedQ i).switchState j = s.switchState j ∨ (s.acceptClosedQ i).switchState j = .ramping := by
  unfold State.acceptClosedQ
  split
  · rcases State.rampStarts_rides _ ((s.enter i .rampWait none).modSseq fun q => { q with
        rampList := q.rampList ++ [i] }) j with e | e
    · refine .inl (e.trans ?_)
      change (s.enter i .rampWait none).switchState j = _
      rw [State.switchState_enter, if_neg hj]
    · exact .inr e
  · exact .inl ((State.switchState_pendingOpenQ i j s).trans (if_neg hj))

/-- A confirmed close of a string whose target is CLOSED (R81). -/
theorem State.acceptClosedQ_advances (ht : s.target i = true) : (s.acceptClosedQ i).switchState i ∈ closingStates := by
  unfold State.acceptClosedQ
  rw [if_pos ht]
  have here : ((s.enter i .rampWait none).modSseq fun q => { q with rampList := q.rampList ++ [i] }).switchState i
      = .rampWait := (State.switchState_enter i i .rampWait none s).trans (if_pos rfl)
  rcases State.rampStarts_rides _ ((s.enter i .rampWait none).modSseq fun q => { q with
      rampList := q.rampList ++ [i] }) i with e | e
  · rw [State.rampTest, e, here]
    decide
  · rw [State.rampTest, e]
    decide

/-- What a granted string's going on leaves of another. -/
theorem State.goesOn_rides (hu : s.switchState i = .faulted → s.underRetest i = true) (hj : j ≠ i) :
    (s.goesOn i).switchState j = s.switchState j ∨ (s.goesOn i).switchState j = .ramping := by
  by_cases hr : s.switchState i = .pendingClose ∧ s.feedback i = true
  · have e : s.goesOn i = (s.enter i .relayClosing (some (s.after (s.cfgNat .tConfirm)))).acceptClosedQ i := by
      unfold State.goesOn
      simp only [hr.1, State.feedback_enter, hr.2, if_true]
    rw [e]
    have other : (s.enter i .relayClosing (some (s.after (s.cfgNat .tConfirm)))).switchState j = s.switchState j :=
      (State.switchState_enter ..).trans (if_neg hj)
    exact other ▸ State.acceptClosedQ_rides hj _
  · exact .inl ((Acts.goesOn hu).switchState hj fun x => absurd x hr)

theorem State.goesOn_advances (ht : s.target i = true) (hs : s.switchState i ∈ closingStates) :
    (s.goesOn i).switchState i ∈ closingStates := by
  have rest (h : s.goesOn i = s) : (s.goesOn i).switchState i ∈ closingStates := h.symm ▸ hs
  have entered : (s.enter i .relayClosing (some (s.after (s.cfgNat .tConfirm)))).switchState i = .relayClosing :=
    (State.switchState_enter ..).trans (if_pos rfl)
  have target : (s.enter i .relayClosing (some (s.after (s.cfgNat .tConfirm)))).target i = true :=
    (State.target_enter i i .relayClosing _ s (by decide)).trans ht
  unfold State.goesOn at rest ⊢
  cases h : s.switchState i <;> simp only [h] at rest hs ⊢
  case pendingClose =>
    split
    · exact State.acceptClosedQ_advances target
    · rw [entered]
      decide
  case relayClosing | rampWait | ramping => exact hs
  all_goals exact absurd hs (by decide)

/-! ### The arbiter's work -/

/-- The target stays CLOSED through work that turns no target OPEN. -/
theorem Deeds.advances (d : Deeds R (fun _ => False) s t) (h : s.Advances i) (hs : t.switchState i ∈ closingStates) :
    t.Advances i := ⟨d.search.trans h.1, d.target h.1 id h.2.1, hs⟩

theorem State.Advances.grant (h : s.Advances i) {e : CoilEntry} (hg : s.grantable e = true) :
    (s.grant e).Advances i := by
  have d : Deeds True (fun _ => False) s (s.grant e) := (Deeds.refl s).grant hg fun _ _ => trivial
  refine d.advances h ?_
  have same (j : StringId) : (s.pulseStarts e).switchState j = s.switchState j := rfl
  rw [State.grant_eq]
  by_cases hi : i = e.string
  · subst hi
    exact State.goesOn_advances h.2.1 h.2.2
  · rcases State.goesOn_rides (s := s.pulseStarts e) (State.underRetest_of_grantable hg) hi with x | x
    · rw [x, same]
      exact h.2.2
    · rw [x]
      decide

theorem State.Advances.arbiter (h : s.Advances i) : s.arbiter.Advances i := by
  have grants (n : Nat) : ∀ s : State, s.Advances i → (State.grants n s).Advances i := by
    induction n with
    | zero => exact fun s h => h
    | succ n ih =>
      intro s h
      unfold State.grants
      split
      · split
        · next e he => exact ih _ (h.grant (s.nextGrant_mem e he).2)
        · exact h
      · exact h
  exact grants _ s h

/-! ### A target that turns CLOSED -/

theorem State.switchState_startsClosing (i j : StringId) (s : State) :
    ((s.pendingCloseQ i).joinIfReadyQ i).switchState j = if j = i then .pendingClose else s.switchState j := by
  have joined : ((s.pendingCloseQ i).joinIfReadyQ i).switchState j = (s.pendingCloseQ i).switchState j := by
    unfold State.joinIfReadyQ
    split
    · exact State.switchState_joinQueue ..
    · rfl
  have set : (s.pendingCloseQ i).switchState j =
      (s.enter i .pendingClose (some (s.after (1000 * s.cfgNat .tQual)))).switchState j := by
    rw [State.pendingCloseQ, State.switchState, State.sw_modSwitch]
    split
    · next e => rw [e]; rfl
    · rfl
  rw [joined, set, State.switchState_enter]

/-- A string whose target turns CLOSED in OPEN goes to PENDING_CLOSE and on (R78). -/
theorem State.targetTurnsClosed_advances (hg : s.gsu.state = .idle) (ht : s.target i = true)
    (hs : s.switchState i = .opened) : (s.targetTurnsClosed i).Advances i := by
  have d : Deeds True (fun _ => False) s ((s.pendingCloseQ i).joinIfReadyQ i) :=
    ((Deeds.refl s).pendingCloseQ hs ht).joinIfReadyQ i
  have state : ((s.pendingCloseQ i).joinIfReadyQ i).switchState i = .pendingClose :=
    (State.switchState_startsClosing i i s).trans (if_pos rfl)
  unfold State.targetTurnsClosed
  rw [hs]
  exact State.Advances.arbiter ⟨d.search.trans hg, d.target hg id ht, by rw [state]; decide⟩

theorem State.Advances.targetTurnsClosed (h : s.Advances i) (j : StringId) (ht : s.target j = true) :
    (s.targetTurnsClosed j).Advances i := by
  unfold State.targetTurnsClosed
  split
  · next hs =>
    have d : Deeds True (fun _ => False) s ((s.pendingCloseQ j).joinIfReadyQ j) :=
      ((Deeds.refl s).pendingCloseQ hs ht).joinIfReadyQ j
    have other : i ≠ j := fun e => by
      have := h.2.2
      rw [e, hs] at this
      exact absurd this (by decide)
    have state : ((s.pendingCloseQ j).joinIfReadyQ j).switchState i = s.switchState i :=
      (State.switchState_startsClosing j i s).trans (if_neg other)
    exact (d.advances h (state ▸ h.2.2)).arbiter
  · exact h

/-! ### Removals -/

theorem State.abandonCapture_eq (i : StringId) (s : State) : ∃ c o, s.abandonCapture i =
    { s with mfe := { s.mfe with capture := c }, ports := { s.ports with port := o } } := by
  unfold State.abandonCapture
  split
  · split
    · obtain ⟨o, e⟩ := State.endUnitWait_eq .capture (s.modMfe fun m => { m with capture := none })
      exact ⟨none, o, e⟩
    · exact ⟨s.mfe.capture, s.ports.port, rfl⟩
  · exact ⟨s.mfe.capture, s.ports.port, rfl⟩

/-- What a removal can change (R43, R52). -/
theorem State.takeHold_eq (k : HoldKind) (i : StringId) (s : State) : ∃ x c q st r o, s.takeHold k i =
    { s with stab := { s.stab with strings := x }, mfe := { s.mfe with capture := c }, cfs := { s.cfs with queue := q }
             tsc := { s.tsc with stack := st }, rcl := r, ports := { s.ports with port := o } } := by
  unfold State.takeHold
  split
  · exact ⟨_, _, _, _, _, _, rfl⟩
  · cases k with
    | svc =>
      obtain ⟨c, o, e⟩ := State.abandonCapture_eq i ((s.modString i fun r =>
        if s.freezes .svc i then (r.take .svc).put .search else r.take .svc).askCommit .holds [])
      exact ⟨_, c, _, _, _, o, e⟩
    | _ => exact ⟨_, _, _, _, _, _, rfl⟩

/-- The records after a removal while no search is active. -/
theorem State.str_takeHold_idle (hg : s.gsu.state = .idle) (k : HoldKind) (i j : StringId) :
    (s.takeHold k i).str j = if j = i ∧ s.has k i = true then (s.str i).take k else s.str j := by
  by_cases hh : s.has k i = true
  · have off : s.freezes k i = false := by simp [State.freezes, State.searchActive, hg]
    rw [State.str_takeHold_of_has hh, off]
    simp [hh]
  · rw [State.takeHold_none k i s (Bool.eq_false_iff.2 hh), if_neg fun e => hh e.2]

theorem StringRecord.take_switch_comm (r : StringRecord) (k : HoldKind) :
    (r.take .switch).take k = (r.take k).take .switch := by
  cases k <;> simp only [StringRecord.take, HoldKind.slot] <;> rw [Vector.set_comm] <;> decide

theorem Retested.take {c : Bool} {r w : StringRecord} (h : Retested c w r) (k : HoldKind) :
    Retested c (w.take k) (r.take k) := by
  rcases h with rfl | ⟨hc, rfl⟩
  · exact .inl rfl
  · exact .inr ⟨hc, StringRecord.take_switch_comm ..⟩

theorem Retested.has {c : Bool} {r w : StringRecord} (h : Retested c w r) (hk : k ≠ .switch) :
    r.holds[k.slot] = w.holds[k.slot] := by
  rcases h with rfl | ⟨-, rfl⟩
  · rfl
  · rw [StringRecord.has_take, decide_eq_true hk, Bool.true_and]

/-- The records after a removal with what a changed target sets going (R50). -/
theorem State.removeHold_records (hg : s.gsu.state = .idle) (k : HoldKind) (i j : StringId) :
    Retested (s.underRetest j) (if j = i ∧ s.has k i = true then (s.str i).take k else s.str j)
      ((s.removeHold k i).str j) ∧
    ((s.removeHold k i).underRetest j = true → s.underRetest j = true) ∧ (s.removeHold k i).gsu.state = .idle := by
  obtain ⟨x, c, q, st, r, o, e⟩ := State.takeHold_eq k i s
  have idle : (s.takeHold k i).gsu.state = .idle := by rw [e]; exact hg
  have retest : (s.takeHold k i).underRetest j = s.underRetest j := by rw [e]; rfl
  have d := State.removeHold_deeds k i s
  rw [← State.str_takeHold_idle hg k i j, ← retest]
  exact ⟨d.records idle id, d.retest, d.search.trans idle⟩

/-- The records after a kind is taken from the strings of a list. -/
theorem State.removeHolds_records (hk : k ≠ .switch) (xs : List StringId) (j : StringId) : ∀ s : State,
    s.gsu.state = .idle → Retested (s.underRetest j) (if j ∈ xs ∧ s.has k j = true then (s.str j).take k else s.str j)
      ((s.removeHolds k xs).str j) ∧ (s.removeHolds k xs).gsu.state = .idle := by
  induction xs with
  | nil => exact fun s hg => ⟨.inl rfl, hg⟩
  | cons y ys ih =>
    intro s hg
    obtain ⟨one, retest, idle⟩ := State.removeHold_records hg k y j
    obtain ⟨rest, idle'⟩ := ih (s.removeHold k y) idle
    refine ⟨?_, idle'⟩
    change Retested _ _ (((s.removeHold k y).removeHolds k ys).str j)
    generalize s.removeHold k y = v at *
    by_cases hj : j = y ∧ s.has k y = true
    · obtain ⟨rfl, hh⟩ := hj
      rw [if_pos ⟨rfl, hh⟩] at one
      have gone : v.has k j = false := by
        rw [State.has, one.has hk, StringRecord.has_take]
        simp
      rw [if_pos ⟨List.mem_cons_self, hh⟩]
      rw [gone, if_neg (by simp)] at rest
      exact one.trans rest retest
    · rw [if_neg hj] at one
      have same : v.has k j = s.has k j := one.has hk
      have mem : (j ∈ y :: ys ∧ s.has k j = true) ↔ (j ∈ ys ∧ s.has k j = true) := by
        refine and_congr_left fun hh => ⟨fun m => ?_, List.mem_cons_of_mem _⟩
        exact (List.mem_cons.1 m).resolve_left fun e => hj ⟨e, e ▸ hh⟩
      rw [if_congr mem rfl rfl]
      rw [same] at rest
      refine Retested.trans ?_ rest retest
      split
      · exact one.take k
      · exact one

/-! ### Strings that a removal empties (R78) -/

/-- A string that waits for its turn to lose the one kind that it carries: in OPEN, or ramping where a ramp list named
it there. -/
structure State.AwaitsRemoval (s : State) (k : HoldKind) (i : StringId) : Prop where
  idle : s.gsu.state = .idle
  present : s.present i = true
  has : s.has k i = true
  last : ((s.str i).take k).holds = noHolds
  state : s.switchState i ∈ [SwitchState.opened, .ramping]

/-- It waits on while the targets of others turn CLOSED. -/
theorem Deed.awaitsRemoval (hk : k ≠ .switch) (d : Deed R (fun _ => False) s t) (h : s.AwaitsRemoval k i) :
    t.AwaitsRemoval k i where
  idle := d.search.trans h.idle
  present := (d.still.present i).trans h.present
  has := d.has hk h.has
  last := by
    rcases Deeds.records (R := R) (j := i) (Relation.ReflTransGen.single d) h.idle id with e | ⟨-, e⟩
    · rw [e]
      exact h.last
    · rw [e, StringRecord.take_switch_comm]
      exact StringRecord.take_noHolds h.last _
  state := by
    have state := h.state
    rcases d.sw i with e | ⟨-, e, -⟩ | ⟨hl, -⟩ | ⟨n, -⟩ | ⟨-, -, e⟩
    · rw [State.switchState, e]
      exact state
    · rw [e]
      exact state
    · generalize t.switchState i = new at hl
      simp only [List.mem_cons, List.not_mem_nil, or_false] at state
      cases hl with
      | wanted _ ht => exact absurd ht (by rw [State.target_of_has h.has]; decide)
      | passed => decide
      | arrived => decide
      | granted e | closed e | back e | curtailed e | pulsed e => exact absurd state (by rw [e]; decide)
      | turned _ n | unlisted _ n | interrupted _ n | fallen _ n => exact n.elim
    · exact n.elim
    · rw [e]
      decide

theorem Deeds.awaitsRemoval (hk : k ≠ .switch) (d : Deeds R (fun _ => False) s t) (h : s.AwaitsRemoval k i) :
    t.AwaitsRemoval k i := d.keeps (P := fun v => v.AwaitsRemoval k i) (fun d h => d.awaitsRemoval hk h) h

theorem State.AwaitsRemoval.removeHold (h : s.AwaitsRemoval k i) (hk : k ≠ .switch) (hj : j ≠ i) :
    (s.removeHold k j).AwaitsRemoval k i := by
  have str : (s.takeHold k j).str i = s.str i := by
    rw [State.str_takeHold_idle h.idle, if_neg fun e => hj e.1.symm]
  obtain ⟨x, c, q, st, r, o, e⟩ := State.takeHold_eq k j s
  have taken : (s.takeHold k j).AwaitsRemoval k i := by
    refine ⟨by rw [e]; exact h.idle, by rw [e]; exact h.present, ?_, by rw [str]; exact h.last, ?_⟩
    · rw [State.has, str]
      exact h.has
    · rw [e]
      exact h.state
  exact (State.removeHold_deeds k j s).awaitsRemoval hk taken

/-- Its turn comes. -/
theorem State.AwaitsRemoval.turn (h : s.AwaitsRemoval k i) : (s.removeHold k i).Advances i := by
  have str : (s.takeHold k i).str i = (s.str i).take k := by
    rw [State.str_takeHold_idle h.idle, if_pos ⟨rfl, h.has⟩]
  obtain ⟨x, c, q, st, r, o, e⟩ := State.takeHold_eq k i s
  have idle : (s.takeHold k i).gsu.state = .idle := by rw [e]; exact h.idle
  have present : (s.takeHold k i).present i = true := by rw [e]; exact h.present
  have state : (s.takeHold k i).switchState i = s.switchState i := by rw [e]; rfl
  have target : (s.takeHold k i).target i = true := by
    rw [State.target, present, str, h.last]
    decide
  unfold State.removeHold
  simp only []
  rw [if_pos ⟨State.target_of_has h.has, target⟩]
  have cases := h.state
  simp only [List.mem_cons, List.not_mem_nil, or_false] at cases
  rcases cases with hs | hs
  · exact State.targetTurnsClosed_advances idle target (state.trans hs)
  · exact State.Advances.targetTurnsClosed ⟨idle, target, by rw [state, hs]; decide⟩ i target

theorem State.Advances.removeHold (h : s.Advances i) (k : HoldKind) (j : StringId) : (s.removeHold k j).Advances i := by
  obtain ⟨x, c, q, st, r, o, e⟩ := State.takeHold_eq k j s
  have taken : (s.takeHold k j).Advances i := by
    refine ⟨by rw [e]; exact h.1, ?_, by rw [e]; exact h.2.2⟩
    have present : (s.takeHold k j).present i = s.present i := by rw [e]; rfl
    have free := h.2.1
    rw [State.target, Bool.and_eq_true, decide_eq_true_eq] at free ⊢
    refine ⟨present.trans free.1, ?_⟩
    rw [State.str_takeHold_idle h.1]
    split
    · next c => exact c.1 ▸ StringRecord.take_noHolds free.2 k
    · exact free.2
  unfold State.removeHold
  simp only []
  split
  · next hc => exact taken.targetTurnsClosed j hc.2
  · exact taken

theorem State.Advances.removeHolds (h : s.Advances i) (k : HoldKind) (xs : List StringId) :
    (s.removeHolds k xs).Advances i := by
  induction xs generalizing s with
  | nil => exact h
  | cons y ys ih => exact ih (h.removeHold k y)

/-- A string in OPEN that loses the one kind that it carries goes to PENDING_CLOSE and on (R78). -/
theorem State.AwaitsRemoval.removeHolds (h : s.AwaitsRemoval k i) (hk : k ≠ .switch) {xs : List StringId}
    (hi : i ∈ xs) : (s.removeHolds k xs).Advances i := by
  induction xs generalizing s with
  | nil => exact absurd hi List.not_mem_nil
  | cons y ys ih =>
    by_cases hy : y = i
    · subst hy
      exact h.turn.removeHolds k ys
    · exact ih (h.removeHold hk hy) ((List.mem_cons.1 hi).resolve_left fun e => hy e.symm)

end Sys2Proof.Machine
end

section
/-! SUPPORT. The statement on ACKNOWLEDGE of ARC and STORE and FIRE RESTORE (R64, R65, R150, R153). -/

namespace Sys2Proof.Machine

variable {s t u : State} {i j : StringId} {p : Port} {b list : List Byte} {k : HoldKind}

/-! ### The end of a request that removes holds -/

/-- What a request's end leaves alone while no search is under way. -/
theorem State.conclude_stands (hg : u.gsu.state = .idle) (p : Port) (q : RequestCode) (waits : List StoreRecord)
    (r : Result) (body : List Byte) : (u.conclude p q waits r body).stab = u.stab ∧
    (u.conclude p q waits r body).sseq = u.sseq ∧ (u.conclude p q waits r body).rcl = u.rcl := by
  obtain ⟨a, g, c, o, x, w, e⟩ := State.conclude_eq (p := p) (q := q) (r := r) (body := body) hg waits
  rw [e]
  exact ⟨rfl, rfl, rfl⟩

/-- The port of a request whose work has not been answered. -/
theorem State.accepts.unanswered (ha : s.accepts p) (h : Still (s.hear p) u) :
    u.port p = (s.hear p).port p ∧ (u.port p).outstanding = none := by
  have free : ((s.hear p).port p).outstanding = none := by
    rw [State.port_hear, if_pos rfl]
    exact ha.2.2.1
  have port := h.port p fun _ => free
  exact ⟨port, port ▸ free⟩

/-- HOLD_CHANGED of the strings that changed, if there are any, is handed over at once (R52). -/
theorem State.emitHoldChanged_eq (k : HoldKind) (added : Bool) (cause : ChangeCause) (xs : List StringId) (s : State) :
    ∃ g, s.emitHoldChanged k added cause xs = { s with evr := { s.evr with ring := g } } := by
  unfold State.emitHoldChanged
  split
  · exact ⟨s.evr.ring, rfl⟩
  · exact State.emit_eq ..

theorem State.emitHoldChanged_lately {xs : List StringId} (hn : xs ≠ []) (hu : u.uptime = s.uptime) (k : HoldKind)
    (added : Bool) (cause : ChangeCause) : Lately (u.emitHoldChanged k added cause xs)
      (s.eventNow .holdChanged none (setBits xs) (partyCode k + (if added then 0 else 0x10) + 0x100 * cause.code)) 1 := by
  have event (a b : Int) : s.eventNow .holdChanged none a b = u.eventNow .holdChanged none a b := by
    rw [State.eventNow, State.eventNow, hu]
  unfold State.emitHoldChanged
  rw [if_neg (by simpa using hn), event]
  exact Lately.route _ rfl _

/-! ### A condition's hold is taken from every string -/

theorem State.mem_carriers : i ∈ s.carriers k ↔ s.has k i = true := by
  simp only [State.carriers, stringsWhere, List.mem_filter]
  exact and_iff_right (List.contains_iff_mem.1 (mem_allStrings i))

/-- The kinds of the array's conditions have no code and no detail (R43). -/
theorem StringRecord.take_of_lacks (hk : k ∈ conditionKinds) {r : StringRecord} (h : r.holds[k.slot] = false) :
    r.take k = r := by
  have same : r.holds.set k.slot false = r.holds := by
    rw [← h]
    exact Vector.set_getElem_self _
  simp only [conditionKinds, List.mem_cons, List.not_mem_nil, or_false] at hk
  rcases hk with rfl | rfl | rfl | rfl <;> exact congrArg (fun x => { r with holds := x }) same

theorem HoldKind.condition_notSearched (hk : k ∈ conditionKinds) : k.notSearched ∧ k ≠ .switch := by
  simp only [conditionKinds, List.mem_cons, List.not_mem_nil, or_false] at hk
  rcases hk with rfl | rfl | rfl | rfl <;> exact ⟨⟨by decide, by decide⟩, by decide⟩

/-- After a condition's clearing its hold is on no string. -/
theorem State.lacks_cleared (hk : k.notSearched) (f : Stab → Stab) (hf : (f s.stab).strings = s.stab.strings) (i : StringId) :
    ((s.modStab f).removeHolds k (s.carriers k)).has k i = false := by
  by_cases hi : i ∈ s.carriers k
  · exact State.lacks_removeHolds hk.1 hi _
  · refine (lasting_lacks hk).removeHolds k _ ?_
    have same : (s.modStab f).str i = s.str i := congrArg (fun v => v[i]) hf
    rw [same]
    exact Bool.eq_false_iff.2 fun e => hi (State.mem_carriers.2 e)

/-- The records after a condition's clearing. -/
theorem State.cleared_records (hk : k ∈ conditionKinds) (hg : s.gsu.state = .idle) (f : Stab → Stab)
    (hf : (f s.stab).strings = s.stab.strings) (i : StringId) :
    Retested (s.underRetest i) ((s.str i).take k) (((s.modStab f).removeHolds k (s.carriers k)).str i) ∧
    ((s.modStab f).removeHolds k (s.carriers k)).gsu.state = .idle := by
  obtain ⟨records, idle⟩ := State.removeHolds_records (HoldKind.condition_notSearched hk).2 (s.carriers k) i (s.modStab f) hg
  have str : (s.modStab f).str i = s.str i := congrArg (fun v => v[i]) hf
  have has : (s.modStab f).has k i = s.has k i := congrArg (fun r => r.holds[k.slot]) str
  refine ⟨?_, idle⟩
  have same : (if i ∈ s.carriers k ∧ s.has k i = true then (s.str i).take k else s.str i) = (s.str i).take k := by
    by_cases hh : s.has k i = true
    · rw [if_pos ⟨State.mem_carriers.2 hh, hh⟩]
    · rw [if_neg fun e => hh e.2, StringRecord.take_of_lacks hk (Bool.eq_false_iff.2 hh)]
  rw [str, has, same] at records
  exact records

/-! ### The requests -/

/-- An ACKNOWLEDGE of a kind but STORE is permitted to who commands (R165). -/
theorem State.commands.permitted (hc : s.commands p) (hf : (byteAt b 0 &&& 0x1F) ≠ AckKind.store.flag) :
    s.permitted .acknowledge p b = true := by
  rcases hc with rfl | ⟨rfl, hk⟩
  · simpa [State.permitted] using hf
  · exact hk

theorem exec_acknowledgeArc (ha : s.accepts p) (hc : s.commands p) : exec (.acknowledgeArc p [4]) s =
    .next (if s.stab.conditions.arc = false then s.answered p 0x05 .state [0]
      else ((s.hear p).clearArc).conclude p .acknowledge [.holds] .done [0]) := by
  have run : exec (.acknowledgeArc p [4]) s = .next ((s.hear p).acknowledgeArc p [4]) :=
    congrArg Host.Outcome.next ((State.serveAck_of_belongs (flag := 4) (by decide) rfl _ s).trans
      (State.serve_accepts _ ha rfl (hc.permitted (by decide))))
  have form : ¬(ackKindOf (byteAt [4] 0) ≠ some .arc ∨ List.drop 1 ([4] : List Byte) ≠ []) := by decide
  rw [run, State.acknowledgeArc, if_neg form]
  exact congrArg _ (if_congr Iff.rfl (State.reply_hear ..) rfl)

theorem exec_acknowledgeStore (ha : s.accepts .m) (hk : s.ports.key.on = true) : exec (.acknowledgeStore .m [16]) s =
    .next (if s.stab.conditions.store = false then s.answered .m 0x05 .state [0]
      else ((s.hear .m).clearStore).conclude .m .acknowledge [] .done [0]) := by
  have run : exec (.acknowledgeStore .m [16]) s = .next ((s.hear .m).acknowledgeStore .m [16]) :=
    congrArg Host.Outcome.next ((State.serveAck_of_belongs (flag := 16) (by decide) rfl _ s).trans
      (State.serve_accepts _ ha rfl hk))
  have form : ¬(ackKindOf (byteAt [16] 0) ≠ some .store ∨ List.drop 1 ([16] : List Byte) ≠ []) := by decide
  rw [run, State.acknowledgeStore, if_neg form]
  exact congrArg _ (if_congr Iff.rfl (State.reply_hear ..) rfl)

theorem exec_fireRestore (ha : s.accepts p) (hc : s.commands p) : exec (.fireRestore p []) s =
    .next (if s.fli.accepted ≠ .normal then s.answered p 0x06 .state []
      else if s.stab.conditions.fire = false then s.answered p 0x06 .done []
      else ((s.hear p).clearFire p).conclude p .fireRestore [.holds] .done []) := by
  have perm : s.permitted .fireRestore p [] = true := by
    rcases hc with rfl | ⟨rfl, hk⟩
    · rfl
    · exact hk
  have run : exec (.fireRestore p []) s = .next ((s.hear p).fireRestoreRequest p) :=
    congrArg Host.Outcome.next (State.serve_accepts _ ha rfl perm)
  rw [run]
  exact congrArg _ (if_congr Iff.rfl (State.reply_hear ..) (if_congr Iff.rfl (State.reply_hear ..) rfl))

/-! ### What each leaves before its end, no search being under way -/

theorem State.clearArc_leaves (hg : s.gsu.state = .idle) :
    (∀ i, Retested (s.underRetest i) ((s.str i).take .arc) (s.clearArc.str i)) ∧ s.clearArc.gsu.state = .idle ∧
    s.clearArc.beyondSwitching = { s with
      stab := { s.stab with conditions := { s.stab.conditions with arc := false } }
      arcd := { s.arcd with window := [] } }.beyondSwitching := by
  have cleared (i : StringId) := State.cleared_records (k := .arc) (by decide) hg
    (fun t => { t with conditions := { t.conditions with arc := false } }) rfl i
  have beyond := State.removeHolds_beyond .arc (s.carriers .arc)
    (s.modStab fun t => { t with conditions := { t.conditions with arc := false } }) (by decide)
  exact ⟨fun i => (cleared i).1, (cleared 0).2,
    congrArg (fun x : State => { x with arcd := { x.arcd with window := [] } }) beyond⟩

theorem State.clearStore_leaves (hg : s.gsu.state = .idle) :
    (∀ i, Retested (s.underRetest i) ((s.str i).take .store) (s.clearStore.str i)) ∧ s.clearStore.gsu.state = .idle ∧
    s.clearStore.beyondSwitching = { s with
      stab := { s.stab with conditions := { s.stab.conditions with store := false } } }.beyondSwitching := by
  have cleared (i : StringId) := State.cleared_records (k := .store) (by decide) hg
    (fun t => { t with conditions := { t.conditions with store := false } }) rfl i
  exact ⟨fun i => (cleared i).1, (cleared 0).2, State.removeHolds_beyond .store _ _ (by decide)⟩

/-- The fire condition cleared and FIRE taken from its strings, before the event (R153). -/
def State.firesOut (s : State) : State :=
  (s.modStab fun t => { t with conditions := { t.conditions with fire := false } }).removeHolds .fire (s.carriers .fire)

theorem State.clearFire_eq (p : Port) (s : State) :
    s.clearFire p = s.firesOut.emitHoldChanged .fire false (.port p) (s.carriers .fire) := rfl

theorem State.clearFire_leaves (hg : s.gsu.state = .idle) (p : Port) :
    (∀ i, Retested (s.underRetest i) ((s.str i).take .fire) ((s.clearFire p).str i)) ∧
    (s.clearFire p).gsu.state = .idle ∧
    (s.carriers .fire ≠ [] → Lately (s.clearFire p) (s.eventNow .holdChanged none (setBits (s.carriers .fire))
      (0x13 + 0x100 * (ChangeCause.port p).code)) 1) ∧
    (s.clearFire p).beyondSwitching = { s with
      stab := { s.stab with conditions := { s.stab.conditions with fire := false } } }.beyondSwitching := by
  have cleared (i : StringId) : Retested (s.underRetest i) ((s.str i).take .fire) (s.firesOut.str i) ∧ _ :=
    State.cleared_records (k := .fire) (by decide) hg (fun t => { t with conditions := { t.conditions with fire := false } }) rfl i
  have beyond : s.firesOut.beyondSwitching = _ := State.removeHolds_beyond .fire (s.carriers .fire)
    (s.modStab fun t => { t with conditions := { t.conditions with fire := false } }) (by decide)
  have still : Still (s.modStab fun t => { t with conditions := { t.conditions with fire := false } }) s.firesOut :=
    ((Keeps.refl _).removeHolds .fire (s.carriers .fire)).still
  have now : s.firesOut.uptime = s.uptime := by
    rw [State.uptime, still.now]
    rfl
  have event (hn : s.carriers .fire ≠ []) := State.emitHoldChanged_lately hn now .fire false (.port p)
  rw [State.clearFire_eq]
  obtain ⟨g, e⟩ := State.emitHoldChanged_eq .fire false (.port p) (s.carriers .fire) s.firesOut
  refine ⟨fun i => ?_, ?_, event, ?_⟩
  · rw [e]
    exact (cleared i).1
  · rw [e]
    exact (cleared 0).2
  · rw [e]
    exact beyond

/-! ### The statement -/

/-- Settles O28: a condition's kind is none that the search adds, so its hold is gone from every string at the request's
end; while no search is under way the records, the reply and the rest follow from the removals one by one. -/
theorem arrayConditionsAreClearedWhole : Obligations.ArrayConditionsAreClearedWhole := by
  intro s p ha hc
  have arc := exec_acknowledgeArc ha hc
  have fire := exec_fireRestore ha hc
  have store (hp : p = .m) : s.accepts .m ∧ s.ports.key.on = true := by
    subst hp
    exact ⟨ha, hc.elim (fun e => nomatch e) And.right⟩
  have removed {k : HoldKind} (hk : k ∈ conditionKinds) := lasting_lacks (HoldKind.condition_notSearched hk).1
  have cleared {k : HoldKind} (hk : k ∈ conditionKinds) (f : Stab → Stab) (hf : (f s.stab).strings = s.stab.strings) :=
    State.lacks_cleared (s := s.hear p) (HoldKind.condition_notSearched hk).1 f hf
  refine ⟨fun h => ?_, fun hp h => ?_, fun hn h => ?_, ⟨fun h => ?_, fun hm h => ?_⟩, fun hp => ⟨fun h => ?_, fun hm h => ?_⟩,
    fun h => ?_, fun hn h => ?_, fun hm hn h => ?_⟩
  · rw [arc, if_neg (by simp [h])]
    exact ⟨_, rfl, fun i => (removed (k := .arc) (by decide)).conclude _ _ _ _ _
      (cleared (k := .arc) (by decide) (fun t => { t with conditions := { t.conditions with arc := false } }) rfl i)⟩
  · subst hp
    rw [exec_acknowledgeStore ha (store rfl).2, if_neg (by simp [h])]
    exact ⟨_, rfl, fun i => (removed (k := .store) (by decide)).conclude _ _ _ _ _
      (cleared (k := .store) (by decide) (fun t => { t with conditions := { t.conditions with store := false } }) rfl i)⟩
  · rw [fire, if_neg (by simp [hn]), if_neg (by simp [h])]
    exact ⟨_, rfl, fun i => (removed (k := .fire) (by decide)).conclude _ _ _ _ _
      ((removed (k := .fire) (by decide)).emitHoldChanged _ _ _ _
        (cleared (k := .fire) (by decide) (fun t => { t with conditions := { t.conditions with fire := false } }) rfl i))⟩
  · rw [arc, if_pos h]
  · rw [arc, if_neg (by simp [h])]
    obtain ⟨records, idle, beyond⟩ := State.clearArc_leaves (s := s.hear p) hm.1
    obtain ⟨port, free⟩ := State.accepts.unanswered ha (Keeps.refl (s.hear p)).clearArc.still
    refine ⟨_, rfl, ?_, concludes_deferred (by decide) idle port free, (State.conclude_beyond idle _).trans beyond⟩
    intro i
    rw [State.str, (State.conclude_stands idle ..).1]
    exact records i
  · subst hp
    rw [exec_acknowledgeStore ha (store rfl).2, if_pos h]
  · subst hp
    rw [exec_acknowledgeStore ha (store rfl).2, if_neg (by simp [h])]
    obtain ⟨records, idle, beyond⟩ := State.clearStore_leaves (s := s.hear .m) hm.1
    obtain ⟨port, free⟩ := State.accepts.unanswered ha (Keeps.refl (s.hear .m)).clearStore.still
    refine ⟨_, rfl, ?_, concludes_replied idle port free, (State.conclude_beyond idle _).trans beyond⟩
    intro i
    rw [State.str, (State.conclude_stands idle ..).1]
    exact records i
  · rw [fire, if_pos h]
  · rw [fire, if_neg (by simp [hn]), if_pos h]
  · rw [fire, if_neg (by simp [hn]), if_neg (by simp [h])]
    obtain ⟨records, idle, event, beyond⟩ := State.clearFire_leaves (s := s.hear p) hm.1 p
    obtain ⟨port, free⟩ := State.accepts.unanswered ha ((Keeps.refl (s.hear p)).clearFire p).still
    refine ⟨_, rfl, ?_, concludes_deferred (by decide) idle port free, fun hn => (event hn).conclude idle (by decide) _,
      (State.conclude_beyond idle _).trans beyond⟩
    intro i
    rw [State.str, (State.conclude_stands idle ..).1]
    exact records i

end Sys2Proof.Machine
end

section
/-! SUPPORT. The statement on RELEASE (R55, R57, R59, R78). -/

namespace Sys2Proof.Machine

variable {s t u : State} {i j : StringId} {p : Port} {b : List Byte}

/-- The strings of a RELEASE that lose the sender's kind. -/
def State.loses (s : State) (p : Port) (b : List Byte) : List StringId :=
  stringsWhere fun i => decide (listed (listOf p b) i) && s.has (partyKind p) i

theorem State.mem_loses : i ∈ s.loses p b ↔ i ∈ stringsOf (listOf p b) ∧ s.has (partyKind p) i = true := by
  rw [mem_stringsOf]
  simp only [State.loses, stringsWhere, List.mem_filter, Bool.and_eq_true, decide_eq_true_eq]
  exact and_iff_right (List.contains_iff_mem.1 (mem_allStrings i))

theorem State.loses_eq (s : State) (p : Port) (b : List Byte) :
    ((stringsOf (listOf p b)).filter fun i => s.has (partyKind p) i) = s.loses p b := by
  unfold State.loses stringsOf stringsWhere
  rw [List.filter_filter]
  refine List.filter_congr fun i _ => ?_
  rw [Bool.and_comm]
  congr 1
  simp

/-- The strings with the sender's kind taken, and the event (R57). -/
def State.letGo (p : Port) (b : List Byte) (s : State) : State :=
  (s.removeHolds (partyKind p) (stringsOf (listOf p b))).emitHoldChanged (partyKind p) false (.port p) (s.loses p b)

/-- RELEASE of a list that passes (R54, R59). -/
theorem exec_release (ha : s.accepts p) (hl : s.listPasses (listOf p b))
    (hm : p = .m → s.ports.key.on = true ∧ 8 ≤ b.length ∧ lockCodeOf b ≠ 0 ∧
      ∀ i, listed (listOf p b) i → s.has .svc i = true → (s.str i).lockCode = some (lockCodeOf b)) :
    exec (.release p b) s =
      .next (((s.hear p).letGo p b).conclude p .release (partyWaits p (s.loses p b)) .done [0]) := by
  have size : sizeFits .release p b = true := by
    by_cases h : p = .m
    · simp [sizeFits, h, (hm h).2.1]
    · simp [sizeFits, h]
  have perm : s.permitted .release p b = true := by
    cases p with
    | m => exact (hm rfl).1
    | s => rfl
    | v => rfl
  have form : holdFormFails p b = false := by
    simp only [holdFormFails, listFits, hl.1, hl.2.1, decide_true, Bool.and_self, Bool.not_true, Bool.false_or,
      Bool.and_eq_false_iff, decide_eq_false_iff_not]
    exact Decidable.not_or_of_imp fun h => (hm h).2.2.1
  have list : (s.hear p).checkList (listOf p b) ((s.hear p).codeCheck p (lockCodeOf b) .wrongCode) = none := by
    refine State.checkList_none hl fun i hi => if_neg ?_
    rintro ⟨h1, h2, h3⟩
    exact h3 ((hm h1).2.2.2 i hi h2)
  have run : exec (.release p b) s = .next ((s.hear p).releaseRequest p b) :=
    congrArg Host.Outcome.next (State.serve_accepts _ ha size perm)
  rw [run]
  unfold State.releaseRequest
  simp only [form, list, Bool.false_eq_true, if_false, State.loses_eq]
  rfl

theorem partyKind_taken (p : Port) : (partyKind p).notSearched ∧ partyKind p ≠ .switch ∧
    (partyKind p ≠ .thermal ∧ partyKind p ≠ .overcurrent) := by
  cases p <;> exact ⟨⟨by decide, by decide⟩, by decide, by decide, by decide⟩

/-- What a RELEASE leaves before its end, no search being under way. -/
theorem State.letGo_leaves (hg : s.gsu.state = .idle) (p : Port) (b : List Byte) :
    (∀ i, Retested (s.underRetest i) (if i ∈ s.loses p b then (s.str i).take (partyKind p) else s.str i)
      ((s.letGo p b).str i)) ∧ (s.letGo p b).gsu.state = .idle ∧
    (s.loses p b ≠ [] → Lately (s.letGo p b) (s.eventNow .holdChanged none (setBits (s.loses p b))
      (partyCode (partyKind p) + 0x10 + 0x100 * (ChangeCause.port p).code)) 1) ∧
    (s.letGo p b).beyondSwitching = s.beyondSwitching := by
  obtain ⟨-, notSwitch, plain⟩ := partyKind_taken p
  have records (i : StringId) := State.removeHolds_records notSwitch (stringsOf (listOf p b)) i s hg
  have beyond := State.removeHolds_beyond (partyKind p) (stringsOf (listOf p b)) s plain
  have now : (s.removeHolds (partyKind p) (stringsOf (listOf p b))).uptime = s.uptime := by
    rw [State.uptime, ((Keeps.refl s).removeHolds (partyKind p) (stringsOf (listOf p b))).still.now]
    rfl
  have event (hn : s.loses p b ≠ []) := State.emitHoldChanged_lately hn now (partyKind p) false (.port p)
  obtain ⟨g, e⟩ := State.emitHoldChanged_eq (partyKind p) false (.port p) (s.loses p b)
    (s.removeHolds (partyKind p) (stringsOf (listOf p b)))
  refine ⟨fun i => ?_, ?_, event, ?_⟩
  · rw [State.letGo, e, if_congr State.mem_loses rfl rfl]
    exact (records i).1
  · rw [State.letGo, e]
    exact (records 0).2
  · rw [State.letGo, e]
    exact beyond

/-- A string in OPEN that a RELEASE empties goes on its way to CLOSED (R78). -/
theorem State.letGo_advances (hg : s.gsu.state = .idle) (hi : i ∈ s.loses p b) (hp : s.present i = true)
    (hs : s.switchState i = .opened) (he : ((s.str i).take (partyKind p)).holds = noHolds) :
    (s.letGo p b).switchState i ∈ closingStates := by
  obtain ⟨mem, has⟩ := State.mem_loses.1 hi
  have waits : s.AwaitsRemoval (partyKind p) i := ⟨hg, hp, has, he, by rw [hs]; decide⟩
  have done := waits.removeHolds (partyKind_taken p).2.1 mem
  obtain ⟨g, e⟩ := State.emitHoldChanged_eq (partyKind p) false (.port p) (s.loses p b)
    (s.removeHolds (partyKind p) (stringsOf (listOf p b)))
  rw [State.letGo, e]
  exact done.2.2

/-- A list that passes names present strings (R54). -/
theorem State.listPasses.present {list : List Byte} (hl : s.listPasses list) (hi : listed list i) : s.present i = true := by
  obtain ⟨-, j, hj, hp, -⟩ := hl.2.2 _ hi
  have e : i = j := Option.some.inj ((stringOfByte_number i).symm.trans (hj ▸ stringOfByte_number j))
  exact e ▸ hp

/-- Settles O26: the sender's kind is none that the search adds, so the listed strings lack it at the request's end; while
no search is under way each string takes its turn, and one that its removal empties starts to close. -/
theorem releaseTakesTheSendersKind : Obligations.ReleaseTakesTheSendersKind := by
  intro s p b ha hl hm
  have run := exec_release ha hl hm
  obtain ⟨notSearched, -, -⟩ := partyKind_taken p
  refine ⟨⟨_, run, fun i hi => ?_⟩, fun hc => ⟨_, run, ?_⟩⟩
  · exact (lasting_lacks notSearched).conclude _ _ _ _ _
      ((lasting_lacks notSearched).emitHoldChanged _ _ _ _ (State.lacks_removeHolds notSearched.1 (mem_stringsOf.2 hi) _))
  · obtain ⟨records, idle, event, beyond⟩ := State.letGo_leaves (s := s.hear p) hc.1 p b
    have still : Still (s.hear p) ((s.hear p).letGo p b) :=
      (((Keeps.refl _).removeHolds _ _).emitHoldChanged _ _ _ _).still
    obtain ⟨port, free⟩ := State.accepts.unanswered ha still
    obtain ⟨stab, sseq, -⟩ := State.conclude_stands idle p .release (partyWaits p (s.loses p b)) .done [0]
    refine ⟨fun i => ?_, fun i hi hs he => ?_, fun hn => (event hn).conclude idle (by decide) _, ?_,
      (State.conclude_beyond idle _).trans beyond⟩
    · rw [State.str, stab]
      exact records i
    · rw [State.switchState, State.sw, sseq]
      exact State.letGo_advances (s := s.hear p) hc.1 hi (hl.present (mem_stringsOf.1 (State.mem_loses.1 hi).1)) hs he
    · split
      · next hw =>
        have waits : partyWaits p (s.loses p b) = [.holds] := if_pos hw
        rw [waits]
        exact concludes_deferred (by decide) idle port free
      · next hw =>
        have waits : partyWaits p (s.loses p b) = [] := if_neg hw
        rw [waits]
        exact concludes_replied idle port free

end Sys2Proof.Machine
end

section
/-! SUPPORT. What an ACKNOWLEDGE of OVERCURRENT leaves of the counts and the reclose timers (R63), and what removals leave
of a measurement of the search (R51, R62). -/

namespace Sys2Proof.Machine

variable {R : Prop} {s t u : State} {i j : StringId} {p : Port} {b list : List Byte} {k : HoldKind}

/-! ### The counts (R63) -/

/-- The overcurrent counts of a list's strings are set to 0. -/
def State.zeroCounts (xs : List StringId) (s : State) : State :=
  forStrings (fun i s => s.modString i fun r => { r with overcurrentCount := 0 }) xs s

theorem State.zeroCounts_eq (xs : List StringId) (s : State) :
    ∃ x, s.zeroCounts xs = { s with stab := { s.stab with strings := x } } := by
  induction xs generalizing s with
  | nil => exact ⟨s.stab.strings, rfl⟩
  | cons y ys ih =>
    obtain ⟨x, e⟩ := ih (s.modString y fun r => { r with overcurrentCount := 0 })
    exact ⟨x, e⟩

theorem State.str_zeroCounts (xs : List StringId) (s : State) (j : StringId) : (s.zeroCounts xs).str j =
    if j ∈ xs then { s.str j with overcurrentCount := 0 } else s.str j := by
  induction xs generalizing s with
  | nil => rfl
  | cons y ys ih =>
    refine (ih (s.modString y fun r => { r with overcurrentCount := 0 })).trans ?_
    rw [State.str_modString]
    by_cases hj : j = y
    · subst hj
      simp
    · simp [hj]

/-! ### The reclose timers (R63, R103) -/

/-- The running reclose timers, which no work of the sequencer touches. -/
def State.reclosing (s : State) (j : StringId) : Option Nat := (s.rcl[j]).reclose

theorem State.reclosing_of_beyond (h : t.beyondSwitching = s.beyondSwitching) (j : StringId) :
    t.reclosing j = s.reclosing j := by
  have same : (t.rcl.map fun r => { r with stable := none }) = s.rcl.map fun r => { r with stable := none } :=
    congrArg State.rcl h
  have one := congrArg (fun v : Vector RecloseTimers 16 => (v[j]).reclose) same
  rw [State.reclosing, State.reclosing]
  simpa using one

/-- An OVERCURRENT taken stops the string's reclose timer, and touches nothing else beyond switching. -/
theorem State.takeHold_overcurrent (i : StringId) (s : State) :
    (∀ j, (s.takeHold .overcurrent i).reclosing j = if j = i ∧ s.has .overcurrent i = true then none else s.reclosing j) ∧
    ∀ c, { (s.takeHold .overcurrent i) with rcl := c }.beyondSwitching = { s with rcl := c }.beyondSwitching := by
  unfold State.takeHold
  split
  · next hn => exact ⟨fun j => by rw [hn, if_neg (by simp)], fun c => rfl⟩
  · next hh =>
    refine ⟨fun j => ?_, fun c => rfl⟩
    have get (v : Vector RecloseTimers 16) (r : RecloseTimers) : ((v.set i r)[j]).reclose =
        if j = i then r.reclose else (v[j]).reclose := by
      by_cases hj : j = i
      · subst hj
        simp
      · have : i.val ≠ j.val := fun e => hj (Fin.ext e.symm)
        simp [hj, this]
    have has : s.has .overcurrent i = true := by simpa using hh
    refine (get s.rcl { s.rcl[i] with reclose := none }).trans ?_
    simp [has, State.reclosing]

theorem State.removeHold_overcurrent (i : StringId) (s : State) :
    (∀ j, (s.removeHold .overcurrent i).reclosing j = if j = i ∧ s.has .overcurrent i = true then none else s.reclosing j) ∧
    ∀ c, { (s.removeHold .overcurrent i) with rcl := c }.beyondSwitching = { s with rcl := c }.beyondSwitching := by
  obtain ⟨timers, beyond⟩ := State.takeHold_overcurrent i s
  have turned := State.targetTurnsClosed_beyond i (s.takeHold .overcurrent i)
  unfold State.removeHold
  simp only []
  split
  · refine ⟨fun j => (State.reclosing_of_beyond turned j).trans (timers j), fun c => Eq.trans ?_ (beyond c)⟩
    exact congrArg (fun x : State => { x with rcl := c.map fun r : RecloseTimers => { r with stable := none } }) turned
  · exact ⟨timers, beyond⟩

theorem State.removeHolds_overcurrent (xs : List StringId) (j : StringId) : ∀ s : State, s.gsu.state = .idle →
    (s.removeHolds .overcurrent xs).reclosing j =
      (if j ∈ xs ∧ s.has .overcurrent j = true then none else s.reclosing j) ∧
    ∀ c, { (s.removeHolds .overcurrent xs) with rcl := c }.beyondSwitching = { s with rcl := c }.beyondSwitching := by
  induction xs with
  | nil => exact fun s hg => ⟨rfl, fun c => rfl⟩
  | cons y ys ih =>
    intro s hg
    obtain ⟨records, -, idle⟩ := State.removeHold_records hg .overcurrent y j
    obtain ⟨timer, beyond⟩ := State.removeHold_overcurrent y s
    obtain ⟨rest, beyond'⟩ := ih (s.removeHold .overcurrent y) idle
    refine ⟨?_, fun c => (beyond' c).trans (beyond c)⟩
    change ((s.removeHold .overcurrent y).removeHolds .overcurrent ys).reclosing j = _
    rw [rest, timer]
    by_cases hj : j = y ∧ s.has .overcurrent y = true
    · obtain ⟨rfl, hh⟩ := hj
      simp [hh]
    · rw [if_neg hj] at records ⊢
      have same : (s.removeHold .overcurrent y).has .overcurrent j = s.has .overcurrent j := records.has (by decide)
      have mem : (j ∈ y :: ys ∧ s.has .overcurrent j = true) ↔ (j ∈ ys ∧ s.has .overcurrent j = true) := by
        refine and_congr_left fun hh => ⟨fun m => ?_, List.mem_cons_of_mem _⟩
        exact (List.mem_cons.1 m).resolve_left fun e => hj ⟨e, e ▸ hh⟩
      rw [same, if_congr mem rfl rfl]

end Sys2Proof.Machine
end

section
/-! SUPPORT. What removals leave of a measurement of the search: while no target turns OPEN, no string leaves CLOSED
(R51, R62, R136). -/

namespace Sys2Proof.Machine

variable {R : Prop} {s t u : State} {i j : StringId} {p : Port} {b list : List Byte} {k : HoldKind}

/-! ### The search's books -/

/-- The search is told of a string's change only where it leaves CLOSED (R76, R136). -/
theorem State.gsu_enter (h : s.switchState i ≠ .closed) (new : SwitchState) (timer : Option Nat) :
    (s.enter i new timer).gsu = s.gsu := by
  have skip (c : Prop) [Decidable c] (t : State) (f : State → State) (hf : (f t).gsu = t.gsu) :
      (if c then f t else t).gsu = t.gsu := by
    split
    · exact hf
    · rfl
  have note (t : State) : t.noteStates.gsu = t.gsu := rfl
  have check (t : State) : t.connectedCheck.gsu = t.gsu := by
    obtain ⟨e, h⟩ := State.connectedCheck_eq t
    rw [h]
  have arrival (t : State) : (t.freezeArrival i).gsu = t.gsu := by
    obtain ⟨r, h⟩ := State.freezeArrival_eq i t
    rw [h]
  unfold State.enter State.report
  simp only [h, ne_eq, false_and, if_false]
  rw [note, skip _ _ State.connectedCheck (check _), skip _ _ (State.freezeArrival i) (arrival _),
    skip _ _ (State.modTsc _) rfl, skip _ _ (State.reportEnteredClosed i) rfl, skip _ _ (State.modArcd _) rfl,
    skip _ _ (State.modArcd _) rfl, skip _ _ (State.modArcd _) rfl]
  rfl

/-- No string that the ramp list names is CLOSED. -/
def State.rampsOpen (s : State) : Prop := ∀ j ∈ s.sseq.rampList, s.switchState j ≠ .closed

/-- Work in which no target turns OPEN closes no string at once, and takes none from CLOSED. -/
theorem Deed.rampsOpen (d : Deed R (fun _ => False) s t) (h : s.rampsOpen) : t.rampsOpen := by
  intro j m
  have before : s.switchState j ≠ .closed := by
    rcases (d.ramps.2 j).1 m with m | ⟨-, e⟩
    · exact h j m
    · rw [e]
      decide
  rcases d.sw j with e | ⟨-, e, -⟩ | ⟨hl, -⟩ | ⟨n, -⟩ | ⟨-, -, e⟩
  · rw [State.switchState, e]
    exact before
  · rw [e]
    exact before
  · exact hl.ne_closed
  · exact n.elim
  · rw [e]
    decide

theorem State.imon_of_beyond (h : t.beyondSwitching = s.beyondSwitching) : t.imon = s.imon :=
  congrArg (fun x => x.imon) h

theorem Deed.gsu (d : Deed R (fun _ => False) s t) (h : s.rampsOpen) : t.gsu = s.gsu ∧ t.imon = s.imon := by
  have imon : t.imon = s.imon := State.imon_of_beyond d.beyond
  refine ⟨?_, imon⟩
  cases d with
  | @enter i new hl timer =>
    refine State.gsu_enter (fun e => ?_) new timer
    cases hl with
    | granted h | closed h | back h | curtailed h | pulsed h | arrived h | passed h | wanted h => rw [h] at e; cases e
    | turned _ n | unlisted _ n | interrupted _ n | fallen _ n => exact n
  | @startRamp i _ m =>
    refine (State.gsu_enter (s := (s.modSseq fun q => { q with
      rampList := q.rampList.drop 1
      slot := some { startedAt := s.now, freeAt := s.after (s.cfgNat .tSpace) } }).drive i .ramping) ?_ _ _).trans rfl
    rw [State.switchState_drive]
    exact h i m
  | emit x i a b =>
    obtain ⟨g, e⟩ := State.emit_eq x i a b s
    rw [e]
  | takeReports =>
    obtain ⟨a, g, c, p, e⟩ := s.takeReports_eq
    rw [e]
  | @takeSwitch i _ =>
    obtain ⟨x, c, q, st, r, o, e⟩ := State.takeHold_eq .switch i s
    rw [e]
  | putHold n => exact n.elim
  | _ => rfl

theorem Deeds.gsu (d : Deeds R (fun _ => False) s t) (h : s.rampsOpen) :
    t.gsu = s.gsu ∧ t.imon = s.imon ∧ t.rampsOpen :=
  d.keeps (P := fun v => v.gsu = s.gsu ∧ v.imon = s.imon ∧ v.rampsOpen)
    (fun d ⟨h1, h2, h3⟩ => ⟨(d.gsu h3).1.trans h1, (d.gsu h3).2.trans h2, d.rampsOpen h3⟩) ⟨rfl, rfl, h⟩

theorem State.removeHold_gsu (h : s.rampsOpen) (k : HoldKind) (i : StringId) :
    (s.removeHold k i).gsu = s.gsu ∧ (s.removeHold k i).imon = s.imon ∧ (s.removeHold k i).rampsOpen := by
  have taken : (s.takeHold k i).gsu = s.gsu ∧ (s.takeHold k i).imon = s.imon ∧ (s.takeHold k i).rampsOpen := by
    obtain ⟨x, c, q, st, r, o, e⟩ := State.takeHold_eq k i s
    rw [e]
    exact ⟨rfl, rfl, h⟩
  obtain ⟨gsu, imon, ramps⟩ := taken
  obtain ⟨gsu', imon', ramps'⟩ := (State.removeHold_deeds k i s).gsu ramps
  exact ⟨gsu'.trans gsu, imon'.trans imon, ramps'⟩

theorem State.removeHolds_gsu (k : HoldKind) (xs : List StringId) (h : s.rampsOpen) :
    (s.removeHolds k xs).gsu = s.gsu ∧ (s.removeHolds k xs).imon = s.imon := by
  induction xs generalizing s with
  | nil => exact ⟨rfl, rfl⟩
  | cons y ys ih =>
    obtain ⟨gsu, imon, ramps⟩ := State.removeHold_gsu h k y
    obtain ⟨gsu', imon'⟩ := ih ramps
    exact ⟨gsu'.trans gsu, imon'.trans imon⟩

/-- While the search measures and no string has left CLOSED, a request's end sets none of its work going. -/
theorem State.settle_measuring (hs : s.gsu.state ∈ [SearchState.busCheck, .probeMeasure, .verifyMeasure])
    (hl : s.gsu.left = []) : s.settle = s := by
  have rests : s.searchProgress = none := by
    unfold State.searchProgress
    rw [if_neg (by simp [hl])]
    simp only [List.mem_cons, List.not_mem_nil, or_false] at hs
    rcases hs with e | e | e <;> simp only [e]
  change State.settleSteps (31 + 1) s = s
  unfold State.settleSteps
  rw [rests]

/-! ### The freeze (R51) -/

theorem State.released_of_beyond (h : t.beyondSwitching = s.beyondSwitching) (i : StringId) :
    t.released i = s.released i := by
  have gsu : { t.gsu with left := [] } = { s.gsu with left := [] } := congrArg (fun x => x.gsu) h
  exact congrArg (fun g : Gsu => { s with gsu := g }.released i) gsu

/-- A string outside the released set that waits for its turn to lose a kind: it carries SEARCH, or no other kind. -/
structure State.AwaitsFreeze (s : State) (k : HoldKind) (i : StringId) : Prop where
  active : s.searchActive = true
  present : s.present i = true
  frozen : s.released i = false
  has : s.has k i = true
  last : s.has .search i = true ∨ ((s.str i).take k).holds = noHolds

theorem Deed.awaitsFreeze (hk : k ≠ .switch) (d : Deed R (fun _ => False) s t) (h : s.AwaitsFreeze k i) :
    t.AwaitsFreeze k i where
  active := by
    rw [State.searchActive, d.search]
    exact h.active
  present := (d.still.present i).trans h.present
  frozen := (State.released_of_beyond d.beyond i).trans h.frozen
  has := d.has hk h.has
  last := by
    rcases h.last with hs | he
    · exact .inl (d.has (by decide) hs)
    · rcases d.str i with e | ⟨-, -, e⟩ | ⟨-, e | ⟨-, -, e⟩⟩ | ⟨n, -⟩
      · exact .inr (by rw [e]; exact he)
      · exact .inl (by rw [State.has, e, StringRecord.has_put]; rfl)
      · exact .inr (by rw [e, StringRecord.take_switch_comm]; exact StringRecord.take_noHolds he _)
      · exact .inl (by rw [State.has, e, StringRecord.has_put]; rfl)
      · exact n.elim

theorem State.AwaitsFreeze.removeHold (h : s.AwaitsFreeze k i) (hk : k ≠ .switch) (hj : i ≠ j) :
    (s.removeHold k j).AwaitsFreeze k i := by
  have str : (s.takeHold k j).str i = s.str i := by
    rcases State.str_taken k j i s with e | ⟨e, -⟩
    · exact e
    · exact absurd e hj
  obtain ⟨x, c, q, st, r, o, e⟩ := State.takeHold_eq k j s
  have taken : (s.takeHold k j).AwaitsFreeze k i := by
    refine ⟨by rw [e]; exact h.active, by rw [e]; exact h.present, by rw [e]; exact h.frozen, ?_, ?_⟩
    · rw [State.has, str]
      exact h.has
    · rw [State.has, str]
      exact h.last
  exact (State.removeHold_deeds k j s).keeps (P := fun v => v.AwaitsFreeze k i) (fun d h => d.awaitsFreeze hk h) taken

/-- A kind stays through the removal of another. -/
theorem State.has_removeHold {x : HoldKind} (hx : x ≠ .switch) (hk : x ≠ k) (h : s.has x i = true) (j : StringId) :
    (s.removeHold k j).has x i = true := by
  have taken : (s.takeHold k j).has x i = true := by
    rw [State.has] at h ⊢
    rcases State.str_taken k j i s with e | ⟨-, e⟩ <;> rw [e]
    · exact h
    · have stays : ((s.str i).take k).holds[x.slot] = true := by
        rw [StringRecord.has_take, h, decide_eq_true hk]
        rfl
      split
      · rw [StringRecord.has_put, stays, Bool.or_true]
      · exact stays
  exact (State.removeHold_deeds k j s).has hx taken

/-- Its turn comes: it carries SEARCH. -/
theorem State.AwaitsFreeze.turn (h : s.AwaitsFreeze k i) (hk : k ≠ .search) : (s.removeHold k i).has .search i = true := by
  rcases h.last with hs | he
  · exact State.has_removeHold (by decide) hk.symm hs i
  · have freezes : s.freezes k i = true := by
      simp [State.freezes, h.active, h.present, h.frozen, he]
    have taken : (s.takeHold k i).has .search i = true := by
      rw [State.has, State.str_takeHold_of_has h.has, if_pos rfl, freezes, if_pos rfl, StringRecord.has_put]
      rfl
    exact (State.removeHold_deeds k i s).has (by decide) taken

/-- A string outside the released set that a removal would leave without a hold gains SEARCH (R51). -/
theorem State.AwaitsFreeze.removeHolds (h : s.AwaitsFreeze k i) (hk : k ≠ .switch ∧ k ≠ .search) {xs : List StringId}
    (hi : i ∈ xs) : (s.removeHolds k xs).has .search i = true := by
  have stays (ys : List StringId) : ∀ u : State, u.has .search i = true → (u.removeHolds k ys).has .search i = true := by
    induction ys with
    | nil => exact fun u h => h
    | cons y ys ih => exact fun u h => ih _ (State.has_removeHold (by decide) hk.2.symm h y)
  induction xs generalizing s with
  | nil => exact absurd hi List.not_mem_nil
  | cons y ys ih =>
    by_cases hy : i = y
    · subst hy
      exact stays ys _ (h.turn hk.2)
    · exact ih (h.removeHold hk.1 hy) ((List.mem_cons.1 hi).resolve_left hy)

end Sys2Proof.Machine
end

section
/-! SUPPORT. The statement on ACKNOWLEDGE of REVERSE, GROUND and OVERCURRENT (R61 to R63). -/

namespace Sys2Proof.Machine

variable {s t u : State} {i j : StringId} {p : Port} {list : List Byte} {kind : AckKind} {flag : Byte}

/-- ACKNOWLEDGE of a list that passes, of a per-string kind (R54, R61). -/
theorem serveAck_listed (ha : s.accepts p) (hc : s.commands p) (hk : ackKindOf flag = some kind)
    (hf : flag &&& 0x1F ≠ AckKind.store.flag) (hl : s.listPasses list)
    (hh : ∀ i, listed list i → s.has kind.holdKind i = true) :
    s.serveAck kind p (flag :: list) (State.acknowledgeListed kind p (flag :: list)) =
      ((s.hear p).acknowledgeStrings kind (stringsOf list)).conclude p .acknowledge
        (if kind = .overcurrent then [] else [.holds]) .done [0] := by
  have belongs : ackBelongs flag (flag :: list) = true := by simp [ackBelongs]
  have size : sizeFits .acknowledge p (flag :: list) = true := by simp [sizeFits]
  have form : ¬(ackKindOf (byteAt (flag :: list) 0) ≠ some kind ∨ listFits ((flag :: list).drop 1) = false) := by
    rintro (h | h)
    · exact h hk
    · simp [listFits, hl.1, hl.2.1] at h
  have passes : (s.hear p).checkList list (fun i => if (s.hear p).has kind.holdKind i then none else some .state) = none :=
    State.checkList_none hl fun i hi => if_pos (hh i hi)
  rw [State.serveAck_of_belongs hk belongs, State.serve_accepts _ ha size (hc.permitted hf)]
  unfold State.acknowledgeListed
  rw [if_neg form]
  change (match (s.hear p).checkList list _ with | some (r, v) => _ | none => _) = _
  rw [passes]
  rfl

/-- The records at the end of an ACKNOWLEDGE of REVERSE or GROUND, the reply and the rest, no search being under way. -/
theorem acknowledged_calm {k : HoldKind} (ha : s.accepts p) (hc : s.calm)
    (hk : k ≠ .switch ∧ k ≠ .thermal ∧ k ≠ .overcurrent) (hh : ∀ i, listed list i → s.has k i = true) :
    let t := ((s.hear p).removeHolds k (stringsOf list)).conclude p .acknowledge [.holds] .done [0]
    Records s t (fun i => if listed list i then (s.str i).take k else s.str i) ∧
      Deferred s t p .acknowledge .done [0] [.holds] ∧ t.beyondSwitching = s.beyondSwitching := by
  have records (i : StringId) := State.removeHolds_records hk.1 (stringsOf list) i (s.hear p) hc.1
  have idle := (records 0).2
  obtain ⟨port, free⟩ := State.accepts.unanswered ha ((Keeps.refl (s.hear p)).removeHolds k (stringsOf list)).still
  refine ⟨fun i => ?_, concludes_deferred (by decide) idle port free,
    (State.conclude_beyond idle _).trans (State.removeHolds_beyond k _ _ hk.2)⟩
  have mem : listed list i ↔ i ∈ stringsOf list ∧ s.has k i = true :=
    ⟨fun hi => ⟨mem_stringsOf.2 hi, hh i hi⟩, fun h => mem_stringsOf.1 h.1⟩
  rw [State.str, (State.conclude_stands idle ..).1]
  change Retested _ (if listed list i then (s.str i).take k else s.str i) _
  rw [if_congr mem rfl rfl]
  exact (records i).1

theorem Retested.zeroCount {c : Bool} {w r : StringRecord} (h : Retested c w r) :
    Retested c { w with overcurrentCount := 0 } { r with overcurrentCount := 0 } := by
  rcases h with rfl | ⟨hc, rfl⟩
  · exact .inl rfl
  · exact .inr ⟨hc, rfl⟩

/-- An ACKNOWLEDGE of OVERCURRENT, no search being under way (R63). -/
theorem acknowledged_overcurrent (ha : s.accepts p) (hc : s.calm)
    (hh : ∀ i, listed list i → s.has .overcurrent i = true) :
    let t := ((s.hear p).acknowledgeStrings .overcurrent (stringsOf list)).conclude p .acknowledge [] .done [0]
    Records s t (fun i => if listed list i then { (s.str i).take .overcurrent with overcurrentCount := 0 }
        else s.str i) ∧
      (∀ i : StringId, (t.rcl[i]).reclose = if listed list i then none else (s.rcl[i]).reclose) ∧
      Replied s t p .acknowledge .done [0] ∧ { t with rcl := s.rcl }.beyondSwitching = s.beyondSwitching := by
  have mem (i : StringId) : listed list i ↔ i ∈ stringsOf list ∧ s.has .overcurrent i = true :=
    ⟨fun hi => ⟨mem_stringsOf.2 hi, hh i hi⟩, fun h => mem_stringsOf.1 h.1⟩
  have removed (i : StringId) := State.removeHolds_records (k := .overcurrent) (by decide) (stringsOf list) i (s.hear p) hc.1
  have timers (i : StringId) := State.removeHolds_overcurrent (stringsOf list) i (s.hear p) hc.1
  have work : (s.hear p).acknowledgeStrings .overcurrent (stringsOf list) =
      ((s.hear p).removeHolds .overcurrent (stringsOf list)).zeroCounts (stringsOf list) := rfl
  have still := (Keeps.acknowledgeStrings .overcurrent (stringsOf list) (s.hear p)).still
  have counts (i : StringId) := State.str_zeroCounts (stringsOf list) ((s.hear p).removeHolds .overcurrent (stringsOf list)) i
  obtain ⟨x, e⟩ := State.zeroCounts_eq (stringsOf list) ((s.hear p).removeHolds .overcurrent (stringsOf list))
  rw [work] at still ⊢
  have idle : (((s.hear p).removeHolds .overcurrent (stringsOf list)).zeroCounts (stringsOf list)).gsu.state = .idle := by
    rw [e]
    exact (removed 0).2
  obtain ⟨port, free⟩ := State.accepts.unanswered ha still
  obtain ⟨stab, -, rcl⟩ := State.conclude_stands idle p .acknowledge [] .done [0]
  refine ⟨fun i => ?_, fun i => ?_, concludes_replied idle port free, ?_⟩
  · rw [State.str, stab]
    change Retested _ _ ((((s.hear p).removeHolds .overcurrent (stringsOf list)).zeroCounts (stringsOf list)).str i)
    have one : Retested (s.underRetest i) (if i ∈ stringsOf list ∧ s.has .overcurrent i = true
        then (s.str i).take .overcurrent else s.str i) _ := (removed i).1
    rw [counts i]
    beta_reduce
    by_cases hi : listed list i
    · rw [if_pos ((mem i).1 hi)] at one
      rw [if_pos hi, if_pos (mem_stringsOf.2 hi)]
      exact one.zeroCount
    · rw [if_neg fun h => hi ((mem i).2 h)] at one
      rw [if_neg hi, if_neg fun h => hi (mem_stringsOf.1 h)]
      exact one
  · rw [rcl, if_congr (mem i) rfl rfl, e]
    exact (timers i).1
  · have rest := (timers 0).2 s.rcl
    refine Eq.trans (congrArg (fun x => { x with rcl := s.rcl.map fun r : RecloseTimers => { r with stable := none } })
      (State.conclude_beyond idle _)) ?_
    rw [e]
    exact rest

/-- A request that ends in a measurement of the search leaves the search alone, and waits for its commits (R55, R163). -/
theorem concludes_measuring {q : RequestCode} {waits : List StoreRecord} {r : Result} {body : List Byte}
    (hs : u.gsu.state ∈ [SearchState.busCheck, .probeMeasure, .verifyMeasure]) (hl : u.gsu.left = []) (hw : waits ≠ [])
    (hu : u.port p = (s.hear p).port p) (ho : (u.port p).outstanding = none) :
    let t := u.conclude p q waits r body
    t.gsu = u.gsu ∧ t.imon = u.imon ∧ t.stab = u.stab ∧ Deferred s t p q r body waits := by
  have port : u.takeReports.port p = (s.hear p).port p := ((Keeps.refl u).takeReports.still.port p fun _ => ho).trans hu
  obtain ⟨a, g, c, o, e⟩ := u.takeReports_eq
  have settled : u.takeReports.settle = u.takeReports :=
    State.settle_measuring (by rw [e]; exact hs) (by rw [e]; exact hl)
  have awaits := askAll_awaits (p := p) waits (u.takeReports.startWait p (requestCode q) (.commit r body))
  obtain ⟨w, ew⟩ := State.beginWrite_eq (askAll p waits (u.takeReports.startWait p (requestCode q) (.commit r body)))
  obtain ⟨x, ex⟩ := askAll_eq p waits (u.takeReports.startWait p (requestCode q) (.commit r body))
  have ended : u.conclude p q waits r body =
      (askAll p waits (u.takeReports.startWait p (requestCode q) (.commit r body))).beginWrite := by
    unfold State.conclude
    simp only [settled, List.isEmpty_iff, if_neg hw]
  rw [ended, ew]
  refine ⟨?_, ?_, ?_, ?_, awaits⟩
  · rw [ex, e]
    rfl
  · rw [ex, e]
    rfl
  · rw [ex, e]
    rfl
  · rw [ex]
    change (u.takeReports.startWait p _ _).port p = _
    rw [State.port_startWait, if_pos rfl, port, State.port_hear, if_pos rfl]
    rfl

/-- An ACKNOWLEDGE of GROUND during a measurement of the search (R51, R62). -/
theorem acknowledged_ground (ha : s.accepts p) (hs : s.gsu.state ∈ [SearchState.busCheck, .probeMeasure, .verifyMeasure])
    (hl : s.gsu.left = []) (hf : s.closesOnlyFree) (hp : s.listPasses list)
    (hh : ∀ i, listed list i → s.has .ground i = true) :
    let t := ((s.hear p).removeHolds .ground (stringsOf list)).conclude p .acknowledge [.holds] .done [0]
    (∀ i, listed list i → t.has .ground i = false ∧
      (s.released i = false → ((s.str i).take .ground).holds = noHolds → t.has .search i = true)) ∧
    t.gsu = s.gsu ∧ t.imon = s.imon ∧ Deferred s t p .acknowledge .done [0] [.holds] := by
  obtain ⟨-, -, -, ramp, -⟩ := hf
  have rampsOpen : (s.hear p).rampsOpen := fun j m e => by
    have := ramp j m
    exact absurd (this.symm.trans e) (by decide)
  obtain ⟨gsu, imon⟩ := State.removeHolds_gsu .ground (stringsOf list) rampsOpen
  obtain ⟨port, free⟩ := State.accepts.unanswered ha ((Keeps.refl (s.hear p)).removeHolds .ground (stringsOf list)).still
  obtain ⟨gsu', imon', stab, deferred⟩ := concludes_measuring (q := .acknowledge) (r := .done) (body := [0])
    (waits := [.holds]) (by rw [gsu]; exact hs) (by rw [gsu]; exact hl) (by decide) port free
  refine ⟨fun i hi => ⟨?_, fun hr he => ?_⟩, gsu'.trans gsu, imon'.trans imon, deferred⟩
  · rw [State.has, State.str, stab]
    exact State.lacks_removeHolds (by decide) (mem_stringsOf.2 hi) _
  · have active : s.searchActive = true := by
      simp only [List.mem_cons, List.not_mem_nil, or_false] at hs
      rcases hs with e | e | e <;> simp [State.searchActive, e]
    have waits : (s.hear p).AwaitsFreeze .ground i := ⟨active, hp.present hi, hr, hh i hi, .inr he⟩
    rw [State.has, State.str, stab]
    exact waits.removeHolds (by decide) (mem_stringsOf.2 hi)

/-- Settles O27: REVERSE and OVERCURRENT are kinds that the search does not add, so the listed strings lack them at the
request's end; a removal of GROUND in a measurement takes no string from CLOSED, so the search has nothing to take up;
while no search is under way each string takes its turn. -/
theorem acknowledgementTakesTheKindNamed : Obligations.AcknowledgementTakesTheKindNamed := by
  intro s p list ha hc hl
  have reverse (hh : ∀ i, listed list i → s.has .reverse i = true) : exec (.acknowledgeReverse p (1 :: list)) s =
      .next (((s.hear p).removeHolds .reverse (stringsOf list)).conclude p .acknowledge [.holds] .done [0]) :=
    congrArg Host.Outcome.next (serveAck_listed (kind := .reverse) ha hc rfl (by decide) hl hh)
  have ground (hh : ∀ i, listed list i → s.has .ground i = true) : exec (.acknowledgeGround p (2 :: list)) s =
      .next (((s.hear p).removeHolds .ground (stringsOf list)).conclude p .acknowledge [.holds] .done [0]) :=
    congrArg Host.Outcome.next (serveAck_listed (kind := .ground) ha hc rfl (by decide) hl hh)
  have overcurrent (hh : ∀ i, listed list i → s.has .overcurrent i = true) : exec (.acknowledgeOvercurrent p (8 :: list)) s =
      .next (((s.hear p).acknowledgeStrings .overcurrent (stringsOf list)).conclude p .acknowledge [] .done [0]) :=
    congrArg Host.Outcome.next (serveAck_listed (kind := .overcurrent) ha hc rfl (by decide) hl hh)
  refine ⟨fun hh => ⟨_, reverse hh, fun i hi => ?_⟩, fun hh => ⟨_, overcurrent hh, fun i hi => ?_⟩,
    fun hs hleft _ hf hh => ⟨_, ground hh, acknowledged_ground ha hs hleft hf hl hh⟩,
    fun hm hh => ⟨_, reverse hh, acknowledged_calm ha hm (by decide) hh⟩,
    fun hm hh => ⟨_, ground hh, acknowledged_calm ha hm (by decide) hh⟩,
    fun hm hh => ⟨_, overcurrent hh, acknowledged_overcurrent ha hm hh⟩⟩
  · have lacks := lasting_lacks (k := .reverse) ⟨by decide, by decide⟩
    exact lacks.conclude _ _ _ _ _ (State.lacks_removeHolds (by decide) (mem_stringsOf.2 hi) _)
  · have lacks := (lasting_lacks (k := .overcurrent) ⟨by decide, by decide⟩).and (lasting_count 0)
    refine lacks.conclude _ _ _ _ _ ?_
    have removed := State.lacks_removeHolds (k := .overcurrent) (by decide) (mem_stringsOf.2 hi) (s.hear p)
    have counted := State.str_zeroCounts (stringsOf list) ((s.hear p).removeHolds .overcurrent (stringsOf list)) i
    rw [if_pos (mem_stringsOf.2 hi)] at counted
    have work : ((s.hear p).acknowledgeStrings .overcurrent (stringsOf list)).str i = _ := counted
    rw [work]
    exact ⟨removed, rfl⟩

end Sys2Proof.Machine
end

section
/-! SUPPORT. The statement on SET PRESENCE toward PRESENT (R53, R68, R70, R99). -/

namespace Sys2Proof.Machine

variable {s t u : State} {i j : StringId} {codes : List Byte} {n b v : Byte} {r : Result} {x : Hold}

/-! ### The request (R53, R68) -/

theorem exec_setPresencePresent (ha : s.accepts .m) (hk : s.ports.key.on = true) (hl : codes.length = 8) (hb : b ≠ 0) :
    exec (.setPresencePresent .m ([n, b] ++ codes)) s =
      .next ((s.hear .m).presenceRequest true .m ([n, b] ++ codes)) := by
  have row : s.servePresence true .m ([n, b] ++ codes) =
      s.serve .setPresence .m ([n, b] ++ codes) (State.presenceRequest true .m ([n, b] ++ codes)) :=
    if_neg fun h => hb h.2
  have size : sizeFits .setPresence .m ([n, b] ++ codes) = true := by simp [sizeFits, hl]
  have run : exec (.setPresencePresent .m ([n, b] ++ codes)) s =
      .next (s.servePresence true .m ([n, b] ++ codes)) := rfl
  rw [run, row, State.serve_accepts _ ha size hk]

/-- A check of SET PRESENCE that fails is answered, and nothing else changes. -/
theorem setPresencePresent_fails (ha : s.accepts .m) (hk : s.ports.key.on = true) (hl : codes.length = 8) (hb : b ≠ 0)
    (hc : s.presenceCheck true ([n, b] ++ codes) = .fails r v) :
    exec (.setPresencePresent .m ([n, b] ++ codes)) s = .next (s.answered .m 0x0A r [v]) := by
  have check : (s.hear .m).presenceCheck true ([n, b] ++ codes) = .fails r v := hc
  rw [exec_setPresencePresent ha hk hl hb, State.presenceRequest, check]
  exact congrArg Host.Outcome.next (State.reply_hear ..)

/-- A request for the presence that stands is DONE at once. -/
theorem setPresencePresent_same (ha : s.accepts .m) (hk : s.ports.key.on = true) (hl : codes.length = 8) (hb : b ≠ 0)
    (hc : s.presenceCheck true ([n, b] ++ codes) = .same) :
    exec (.setPresencePresent .m ([n, b] ++ codes)) s = .next (s.answered .m 0x0A .done [0]) := by
  have check : (s.hear .m).presenceCheck true ([n, b] ++ codes) = .same := hc
  rw [exec_setPresencePresent ha hk hl hb, State.presenceRequest, check]
  exact congrArg Host.Outcome.next (State.reply_hear ..)

theorem setPresenceAbsent_same (ha : s.accepts .m) (hk : s.ports.key.on = true) (hl : codes.length = 8) (hb : b ≠ 1)
    (hc : s.presenceCheck false ([n, b] ++ codes) = .same) :
    exec (.setPresenceAbsent .m ([n, b] ++ codes)) s = .next (s.answered .m 0x0A .done [0]) := by
  have check : (s.hear .m).presenceCheck false ([n, b] ++ codes) = .same := hc
  rw [exec_setPresenceAbsent ha hk hl hb, State.presenceRequest, check]
  exact congrArg Host.Outcome.next (State.reply_hear ..)

theorem setPresencePresent_makes (ha : s.accepts .m) (hk : s.ports.key.on = true) (hl : codes.length = 8) (hb : b ≠ 0)
    (hc : s.presenceCheck true ([n, b] ++ codes) = .changes i) :
    exec (.setPresencePresent .m ([n, b] ++ codes)) s =
      .next (((s.hear .m).makePresent i (lockCodeOf codes)).conclude .m .setPresence [.settings, .holds] .done
        [0]) := by
  have check : (s.hear .m).presenceCheck true ([n, b] ++ codes) = .changes i := hc
  rw [exec_setPresencePresent ha hk hl hb, State.presenceRequest, check]
  rfl

/-- The checks of a request for PRESENT whose form passes (R68). -/
theorem State.presenceCheck_toPresent (hc : lockCodeOf codes ≠ 0) (n : Byte) :
    s.presenceCheck true ([n, 1] ++ codes) = match stringOfByte n with
      | none => .fails .badString n
      | some i => if s.has .retired i then .fails .retired n
        else if s.present i = true then .same
        else if s.switchState i ≠ .absent then .fails .state n
        else .changes i := by
  have form : ¬(lockCodeOf codes = 0 ∨ (1 : Byte) ≠ 1) := fun h => h.elim hc fun x => x rfl
  refine (if_neg form).trans ?_
  change (match stringOfByte n with | none => _ | some i => _) = _
  split
  · rfl
  · simp [byteAt]

/-- The request on a string, by what its checks come to (R68). -/
theorem State.presenceCheck_string (hc : lockCodeOf codes ≠ 0) (i : StringId) :
    s.presenceCheck true ([byte (stringNumber i), 1] ++ codes) =
      if s.has .retired i then .fails .retired (byte (stringNumber i))
      else if s.present i = true then .same
      else if s.switchState i ≠ .absent then .fails .state (byte (stringNumber i))
      else .changes i := by
  rw [State.presenceCheck_toPresent hc, stringOfByte_number]

/-! ### The first holds (R70) -/

/-- What additions to one present string come to: the kinds gained; its code and fault kind, the other strings and all
the rest stand. -/
structure Gained (i : StringId) (ks : HoldKind → Bool) (s t : State) : Prop where
  has : ∀ k, t.has k i = (s.has k i || ks k)
  lock : (t.str i).lockCode = (s.str i).lockCode
  fault : (t.str i).faultKind = (s.str i).faultKind
  other : ∀ j, j ≠ i → t.str j = s.str j
  rest : ∃ r q, t = { s with stab := { s.stab with strings := r }, cfs := { s.cfs with queue := q } }

theorem Gained.present {ks : HoldKind → Bool} (h : Gained i ks s t) (j : StringId) : t.present j = s.present j := by
  obtain ⟨r, q, e⟩ := h.rest
  rw [e]
  rfl

theorem Gained.trans {ks ls : HoldKind → Bool} (h : Gained i ks s t) (k : Gained i ls t u) :
    Gained i (fun x => ks x || ls x) s u where
  has x := by rw [k.has, h.has, Bool.or_assoc]
  lock := k.lock.trans h.lock
  fault := k.fault.trans h.fault
  other j hj := (k.other j hj).trans (h.other j hj)
  rest := by
    obtain ⟨r, q, e⟩ := h.rest
    obtain ⟨r', q', e'⟩ := k.rest
    exact ⟨r', q', by rw [e', e]⟩

/-- The holds of the conditions, which have neither a code nor a detail. -/
def Hold.ofCondition (x : Hold) : Prop := x = .fire ∨ x = .start ∨ x = .store ∨ x = .arc

theorem StringRecord.put_condition (hx : x.ofCondition) (r : StringRecord) :
    (r.put x).lockCode = r.lockCode ∧ (r.put x).faultKind = r.faultKind := by
  rcases hx with rfl | rfl | rfl | rfl <;> exact ⟨rfl, rfl⟩

theorem Hold.ofCondition.kind (hx : x.ofCondition) : x.kind ≠ .switch := by
  rcases hx with rfl | rfl | rfl | rfl <;> decide

theorem State.has_putHold_or (hx : x.kind ≠ .switch) (hp : s.present i = true) (k : HoldKind) :
    (s.putHold x i).has k i = (s.has k i || decide (k = x.kind)) := by
  by_cases hh : s.has x.kind i = true
  · have same : (s.putHold x i).str i = s.str i :=
      (State.str_putHold_or x hx i i s).resolve_right fun ⟨_, _, hn, _⟩ => by
        rw [hh] at hn
        cases hn
    rw [State.has, same]
    by_cases hk : k = x.kind
    · subst hk
      rw [← State.has, hh]
      rfl
    · rw [decide_eq_false hk, Bool.or_false]
      rfl
  · rw [State.has, State.str_putHold x i i s hp (Bool.eq_false_iff.2 hh), if_pos rfl, StringRecord.has_put,
      Bool.or_comm]
    rfl

theorem Gained.condition (hp : s.present i = true) (hx : x.ofCondition) (c : Bool) :
    Gained i (fun k => c && decide (k = x.kind)) s (if c then s.putHold x i else s) := by
  cases c with
  | false => exact ⟨fun k => by simp, rfl, rfl, fun _ _ => rfl, s.stab.strings, s.cfs.queue, rfl⟩
  | true =>
    have other (j : StringId) (hj : j ≠ i) : (s.putHold x i).str j = s.str j :=
      (State.str_putHold_or x hx.kind i j s).resolve_right fun h => hj h.1
    obtain ⟨r, q, e⟩ := State.putHold_quiet hx.kind i s
    refine ⟨fun k => by simpa using State.has_putHold_or hx.kind hp k, ?_, ?_, other, r, q, e⟩
    all_goals
      rw [if_pos rfl]
      rcases State.str_putHold_or x hx.kind i i s with e | ⟨-, -, -, e⟩ <;> rw [e]
    · exact (StringRecord.put_condition hx _).1
    · exact (StringRecord.put_condition hx _).2

/-- A string given the holds of the conditions that stand (R70). -/
theorem State.addConditions_gained (hp : s.present i = true) :
    Gained i (fun k => decide ((k, true) ∈ s.stab.conditions.standing)) s (s.addConditions i) := by
  have one {ks : HoldKind → Bool} (c : Bool) (x : Hold) (hx : x.ofCondition) {u : State} (h : Gained i ks s u) :
      Gained i (fun k => ks k || (c && decide (k = x.kind))) s (if c then u.putHold x i else u) :=
    h.trans (Gained.condition ((h.present i).trans hp) hx c)
  have none_ : Gained i (fun _ => false) s s :=
    ⟨fun k => by simp, rfl, rfl, fun _ _ => rfl, s.stab.strings, s.cfs.queue, rfl⟩
  have all := one s.stab.conditions.arc .arc (.inr (.inr (.inr rfl))) (one s.stab.conditions.store .store
    (.inr (.inr (.inl rfl))) (one s.stab.conditions.start .start (.inr (.inl rfl))
      (one s.stab.conditions.fire .fire (.inl rfl) none_)))
  have kinds (k : HoldKind) : decide ((k, true) ∈ s.stab.conditions.standing) =
      ((((false || (s.stab.conditions.fire && decide (k = Hold.fire.kind))) ||
        (s.stab.conditions.start && decide (k = Hold.start.kind))) ||
        (s.stab.conditions.store && decide (k = Hold.store.kind))) ||
        (s.stab.conditions.arc && decide (k = Hold.arc.kind))) := by
    rw [Bool.eq_iff_iff]
    simp only [Conditions.standing, List.mem_cons, Prod.mk.injEq, List.not_mem_nil, decide_eq_true_eq,
      Bool.or_eq_true, Bool.and_eq_true, Bool.false_eq_true, or_false, false_or, or_assoc, and_comm, @eq_comm _ true]
    exact Iff.rfl
  simp only [kinds]
  exact all

theorem Gained.sseq {ks : HoldKind → Bool} (h : Gained i ks s t) : t.sseq = s.sseq := by
  obtain ⟨r, q, e⟩ := h.rest
  rw [e]

theorem Gained.beyond {ks : HoldKind → Bool} (h : Gained i ks s t) : t.beyondSwitching = s.beyondSwitching := by
  obtain ⟨r, q, e⟩ := h.rest
  rw [e]
  rfl

/-- A present string without a hold that is put under SVC and the conditions that stand (R70). -/
structure LockedOut (i : StringId) (code : LockCode) (s t : State) : Prop where
  has : ∀ k, t.has k i = (decide (k = .svc) || decide ((k, true) ∈ s.stab.conditions.standing))
  lock : (t.str i).lockCode = some code
  fault : (t.str i).faultKind = none
  other : ∀ j, j ≠ i → t.str j = s.str j
  sseq : t.sseq = s.sseq
  beyond : t.beyondSwitching = s.beyondSwitching

theorem State.lockedOut (hp : s.present i = true) (he : s.str i = emptyRecord) (code : LockCode) :
    LockedOut i code s ((s.putHold (.svc code) i).addConditions i) := by
  have bare (k : HoldKind) : s.has k i = false := by
    rw [State.has, he]
    cases k <;> rfl
  obtain ⟨r, q, e⟩ := State.putHold_quiet (x := .svc code) (fun x => nomatch x) i s
  have records (j : StringId) := State.str_putHold (.svc code) i j s hp (bare .svc)
  have here : (s.putHold (.svc code) i).str i = (s.str i).put (.svc code) := (records i).trans (if_pos rfl)
  have conditions : (s.putHold (.svc code) i).stab.conditions = s.stab.conditions := by rw [e]
  have sseq : (s.putHold (.svc code) i).sseq = s.sseq := by rw [e]
  have present : (s.putHold (.svc code) i).present i = true := by
    rw [e]
    exact hp
  have beyond := State.putHold_beyond (.svc code) i s
  generalize s.putHold (.svc code) i = u at *
  have gained := State.addConditions_gained present
  rw [conditions] at gained
  refine ⟨fun k => ?_, gained.lock.trans ?_, gained.fault.trans ?_, fun j hj => (gained.other j hj).trans ?_,
    gained.sseq.trans sseq, gained.beyond.trans beyond⟩
  · rw [gained.has, State.has, here, StringRecord.has_put, ← State.has, bare, Bool.or_false]
    rfl
  · rw [here]
    rfl
  · rw [here, he]
    rfl
  · exact (records j).trans (if_neg hj)

/-! ### The first switch state (R99) -/

/-- A string of an idle unit taken from ABSENT to OPEN, or FAULTED where its relay shows closed (R99). -/
structure Positioned (i : StringId) (s t : State) : Prop where
  has : ∀ k, t.has k i = (s.has k i || (decide (k = .switch) && s.feedback i))
  lock : (t.str i).lockCode = (s.str i).lockCode
  fault : (t.str i).faultKind = if s.feedback i then some .uncommandedClosed else (s.str i).faultKind
  other : ∀ j, j ≠ i → t.str j = s.str j
  state : if s.feedback i then t.switchState i = .faulted
    else t.switchState i = .opened ∧ (t.sw i).dwell = .running (s.now + 1000 * s.cfgNat .tDwell)
  beyond : t.beyondSwitching = s.beyondSwitching

/-- A FAULTED string of an idle unit gains SWITCH with its kind (R74). -/
theorem State.becomeFaulted_idle (kind : FaultKind) (hg : s.gsu.state = .idle) (hp : s.present i = true)
    (hw : s.has .switch i = false) : (s.becomeFaulted i kind).switchState i = .faulted ∧
    ∀ j, (s.becomeFaulted i kind).str j = if j = i then (s.str i).put (.switch kind) else s.str j := by
  unfold State.becomeFaulted
  simp only []
  obtain ⟨r, e⟩ : ∃ q, (((s.drive i .off).leaveQueue i).leaveRampList i).modSwitch i
      (fun w => { w with dwell := .stopped }) = { s with sseq := q } := ⟨_, rfl⟩
  rw [e]
  have idle : ({ s with sseq := r } : State).searchActive = false := State.searchActive_of_idle hg
  have still := (Still.refl { s with sseq := r }).enter i .faulted none
  have records := State.str_enter_idle (new := .faulted) none idle i
  have state : (({ s with sseq := r } : State).enter i .faulted none).switchState i = .faulted := by
    rw [State.switchState_enter, if_pos rfl]
  have present := still.present i
  generalize ({ s with sseq := r } : State).enter i .faulted none = u at *
  have put := fun j => State.str_putHold (.switch kind) i j u (present.trans hp) (by
    rw [State.has, records]
    exact hw)
  obtain ⟨r1, q1, x1, e1⟩ := State.putHold_eq (.switch kind) i u
  obtain ⟨a, g, c, p, e2⟩ := (u.putHold (.switch kind) i).takeReports_eq
  obtain ⟨g', e3⟩ := State.emit_eq .switchFault (some i) (faultCode kind) (switchCode (s.switchState i))
    (u.putHold (.switch kind) i).takeReports
  rw [e3, e2]
  refine ⟨?_, fun j => (put j).trans ?_⟩
  · rw [e1]
    exact state
  · rw [records, records]
    rfl

theorem State.openFromAbsent_beyond (i : StringId) (s : State) :
    (s.openFromAbsent i).beyondSwitching = s.beyondSwitching := by
  unfold State.openFromAbsent
  simp only []
  split
  · rw [State.becomeFaulted_beyond, State.enter_beyond]
    rfl
  · rw [State.enter_beyond]
    rfl

theorem State.openFromAbsent_idle (hg : s.gsu.state = .idle) (hp : s.present i = true) (hw : s.has .switch i = false) :
    Positioned i s (s.openFromAbsent i) := by
  have beyond := State.openFromAbsent_beyond i s
  have idle (r : Sseq) : ({ s with sseq := r } : State).searchActive = false := State.searchActive_of_idle hg
  obtain ⟨r, er⟩ : ∃ q, (s.leaveQueue i).setTimer i none = { s with sseq := q } := ⟨_, rfl⟩
  obtain ⟨d, ed⟩ : ∃ q, ((s.leaveQueue i).setTimer i none).startDwell i = { s with sseq := q } := ⟨_, rfl⟩
  have feedback : ((s.leaveQueue i).setTimer i none).feedback i = s.feedback i := rfl
  have dwell : ((((s.leaveQueue i).setTimer i none).startDwell i).sw i).dwell =
      .running (s.now + 1000 * s.cfgNat .tDwell) := by
    rw [State.startDwell, State.sw_modSwitch, if_pos rfl]
    rfl
  unfold State.openFromAbsent at beyond ⊢
  simp only [feedback] at beyond ⊢
  by_cases hf : s.feedback i = true
  · simp only [hf, if_true] at beyond ⊢
    rw [er] at beyond ⊢
    have records := State.str_enter_idle (new := .opened) none (idle r) i
    have present := ((Still.refl { s with sseq := r }).enter i .opened none).present i
    have search := State.gsu_of_beyond (State.enter_beyond i .opened none { s with sseq := r })
    generalize ({ s with sseq := r } : State).enter i .opened none = u at *
    have faulted := State.becomeFaulted_idle .uncommandedClosed (search.trans hg) (present.trans hp)
      (by rw [State.has, records]; exact hw)
    have here := (faulted.2 i).trans (if_pos rfl)
    rw [records] at here
    refine ⟨fun k => ?_, ?_, ?_, fun j hj => (faulted.2 j).trans ((if_neg hj).trans (records j)), ?_, beyond⟩
    · rw [State.has, here, StringRecord.has_put, hf, Bool.and_true, Bool.or_comm]
      rfl
    · rw [here]
      rfl
    · rw [here, if_pos hf]
      rfl
    · rw [if_pos hf]
      exact faulted.1
  · simp only [hf, Bool.false_eq_true, if_false] at beyond ⊢
    rw [ed] at beyond dwell ⊢
    have records := State.str_enter_idle (new := .opened) none (idle d) i
    have switch := State.sw_enter i i .opened none { s with sseq := d }
    rw [if_pos rfl] at switch
    generalize ({ s with sseq := d } : State).enter i .opened none = u at *
    refine ⟨fun k => ?_, ?_, ?_, fun j _ => records j, ?_, beyond⟩
    · rw [State.has, records, Bool.eq_false_iff.2 hf, Bool.and_false, Bool.or_false]
      rfl
    · rw [records]
      rfl
    · rw [records, if_neg hf]
      rfl
    · rw [if_neg hf, State.switchState, switch]
      exact ⟨rfl, dwell⟩

/-! ### The whole work (R70) -/

theorem State.welcomes_eq (fire : Bool) (i : StringId) (s : State) : ∃ a g c p q, s.welcomes fire i =
    { s.openFromAbsent i with
      fli := { (s.openFromAbsent i).fli with arraySafe := a }, evr := { (s.openFromAbsent i).evr with ring := g }
      mfe := { (s.openFromAbsent i).mfe with capture := c }, ports := { (s.openFromAbsent i).ports with port := p }
      cfs := { (s.openFromAbsent i).cfs with queue := q }, reports := false } := by
  obtain ⟨a, g, c, p, e⟩ := (s.openFromAbsent i).takeReports_eq
  obtain ⟨g1, e1⟩ := State.emitHoldChanged_eq .svc true .presence [i] (s.openFromAbsent i).takeReports
  have last (f : Bool) (v : State) : ∃ g, (if f then v.emitHoldChanged .fire true .presence [i] else v) =
      { v with evr := { v.evr with ring := g } } := by
    cases f with
    | false => exact ⟨v.evr.ring, rfl⟩
    | true => exact State.emitHoldChanged_eq .fire true .presence [i] v
  obtain ⟨g2, e2⟩ := last fire ((s.openFromAbsent i).takeReports.emitHoldChanged .svc true .presence [i])
  refine ⟨a, g2, c, p, ?_, ?_⟩
  rotate_left
  · unfold State.welcomes
    simp only []
    rw [e2, e1, e]
    rfl

/-- A string welcomed is reported under SVC, and under FIRE where that condition stands (R70). -/
theorem Lately.welcomes (fire : Bool) (i : StringId) (s : State) :
    Lately (s.welcomes fire i) (s.eventNow .holdChanged none (2 ^ i.val : Nat) 0x402) 2 ∧
    (fire = true → Lately (s.welcomes fire i) (s.eventNow .holdChanged none (2 ^ i.val : Nat) 0x403) 2) := by
  have now : ∀ u : State, u.beyondSwitching = s.beyondSwitching → u.uptime = s.uptime := fun u h =>
    State.uptime_of_now (congrArg (fun x => x.now) h :)
  have bits : setBits [i] = 2 ^ i.val := by simp [setBits]
  have beyond : (s.openFromAbsent i).takeReports.beyondSwitching = s.beyondSwitching :=
    (State.takeReports_beyond _).trans (State.openFromAbsent_beyond i s)
  have one := State.emitHoldChanged_lately (List.cons_ne_nil i []) (now _ beyond) .svc true .presence
  have after : ((s.openFromAbsent i).takeReports.emitHoldChanged .svc true .presence [i]).beyondSwitching =
      s.beyondSwitching := by
    obtain ⟨g, e⟩ := State.emitHoldChanged_eq .svc true .presence [i] (s.openFromAbsent i).takeReports
    rw [e]
    exact beyond
  have two := State.emitHoldChanged_lately (List.cons_ne_nil i []) (now _ after) .fire true .presence
  have code (k : HoldKind) : ((partyCode k : Int) + (if true = true then 0 else 0x10) +
      0x100 * ChangeCause.presence.code) = partyCode k + 0x400 := by simp [ChangeCause.code]
  rw [bits, code] at one two
  change Lately _ (s.eventNow .holdChanged none (2 ^ i.val : Nat) 0x402) 1 at one
  change Lately _ (s.eventNow .holdChanged none (2 ^ i.val : Nat) 0x403) 1 at two
  unfold State.welcomes
  generalize (s.openFromAbsent i).takeReports = u at *
  simp only []
  generalize u.emitHoldChanged .svc true .presence [i] = v at *
  cases fire with
  | false => exact ⟨(one.mono (by decide : 1 ≤ 2)).congr rfl rfl, nofun⟩
  | true =>
    have pushed : Lately (v.emitHoldChanged .fire true .presence [i])
        (s.eventNow .holdChanged none (2 ^ i.val : Nat) 0x402) 2 := by
      unfold State.emitHoldChanged
      exact one.push (by decide) _
    have reported := two.mono (by decide : 1 ≤ 2)
    simp only [if_true]
    generalize v.emitHoldChanged .fire true .presence [i] = w at *
    exact ⟨pushed.congr rfl rfl, fun _ => reported.congr rfl rfl⟩

/-- A string without a hold made PRESENT while no search is active (R70). -/
structure Made (i : StringId) (code : LockCode) (s t : State) : Prop where
  settings : t.settings = { s.settings with
    strings := s.settings.strings.set i { s.settings.strings[i] with present := true } }
  has : ∀ k, t.has k i = (decide (k = .svc) || decide ((k, true) ∈ s.stab.conditions.standing)
    || (decide (k = .switch) && s.feedback i))
  lock : (t.str i).lockCode = some code
  fault : (t.str i).faultKind = if s.feedback i then some .uncommandedClosed else none
  other : ∀ j, j ≠ i → t.str j = s.str j
  state : if s.feedback i then t.switchState i = .faulted
    else t.switchState i = .opened ∧ (t.sw i).dwell = .running (s.now + 1000 * s.cfgNat .tDwell)
  beyond : { t with settings := s.settings }.beyondSwitching = s.beyondSwitching
  svc : Lately t (s.eventNow .holdChanged none (2 ^ i.val : Nat) 0x402) 2
  fire : s.stab.conditions.fire = true → Lately t (s.eventNow .holdChanged none (2 ^ i.val : Nat) 0x403) 2

theorem State.makePresent_leaves (hg : s.gsu.state = .idle) (he : s.str i = emptyRecord) (code : LockCode) :
    Made i code s (s.makePresent i code) := by
  rw [State.makePresent_eq]
  have admitted : (s.admits i).present i = true := (State.present_admits i i s).trans (if_pos rfl)
  have locked := State.lockedOut (s := s.admits i) admitted he code
  have dwellTime : (s.admits i).cfgNat .tDwell = s.cfgNat .tDwell := rfl
  generalize (((s.admits i).putHold (.svc code) i).addConditions i) = u at *
  have settings : u.settings = (s.admits i).settings := (congrArg (fun x => x.settings) locked.beyond :)
  have feedback : u.feedback i = s.feedback i := by
    rw [State.feedback, locked.sseq]
    rfl
  have noFault : u.has .switch i = false := by
    rw [locked.has]
    simp [Conditions.standing]
  have present : u.present i = true := by
    rw [State.present, State.strSet, settings]
    exact admitted
  have at_ := State.openFromAbsent_idle ((State.gsu_of_beyond locked.beyond).trans hg) present noFault
  obtain ⟨svc, fire⟩ := Lately.welcomes s.stab.conditions.fire i u
  have now : u.now = s.now := (congrArg (fun x => x.now) locked.beyond :)
  have events (a b : Int) : u.eventNow .holdChanged none a b = s.eventNow .holdChanged none a b := by
    rw [State.eventNow, State.eventNow, State.uptime_of_now now]
  have cfg : u.cfgNat .tDwell = s.cfgNat .tDwell := by
    rw [State.cfgNat, State.cfg, settings]
    rfl
  rw [events] at svc fire
  have opened := at_.beyond.trans locked.beyond
  obtain ⟨a, g, c, p, q, e⟩ := State.welcomes_eq s.stab.conditions.fire i u
  obtain ⟨has, lock, fault, other, state, -⟩ := at_
  rw [feedback] at has fault state
  rw [now, cfg] at state
  rw [e] at svc fire ⊢
  generalize u.openFromAbsent i = v at *
  refine ⟨(congrArg (fun x => x.settings) opened :), fun k => ?_, lock.trans locked.lock, fault.trans ?_,
    fun j hj => (other j hj).trans (locked.other j hj), state, ?_, svc, fire⟩
  · refine (has k).trans ?_
    rw [locked.has]
    rfl
  · rw [locked.fault]
  · exact congrArg (fun x : State => { x with settings := s.settings }) opened

/-! ### While a search may be active -/

theorem State.settings_conclude (p : Port) (q : RequestCode) (waits : List StoreRecord) (r : Result) (body : List Byte)
    (u : State) : (u.conclude p q waits r body).settings = u.settings := by
  rw [← (Keeps.refl u).takeReports.settle.still.settings]
  unfold State.conclude
  simp only []
  split
  · obtain ⟨w, e⟩ := State.beginWrite_eq (u.takeReports.settle.reply p (requestCode q) r body)
    rw [e]
    rfl
  · obtain ⟨w, e⟩ :=
      State.beginWrite_eq (askAll p waits (u.takeReports.settle.startWait p (requestCode q) (.commit r body)))
    obtain ⟨x, l⟩ := askAll_eq p waits (u.takeReports.settle.startWait p (requestCode q) (.commit r body))
    rw [e, l]
    rfl

theorem Still.openFromAbsent (h : Still s t) (i : StringId) : Still s (t.openFromAbsent i) := by
  have k := (h.leaveQueue i).setTimer i none
  unfold State.openFromAbsent
  simp only []
  split
  · exact (k.enter i _ _).becomeFaulted i _
  · exact (k.startDwell i).enter i _ _

theorem Still.emitHoldChanged (h : Still s t) (k : HoldKind) (added : Bool) (cause : ChangeCause) (xs : List StringId) :
    Still s (t.emitHoldChanged k added cause xs) := by
  obtain ⟨g, e⟩ := State.emitHoldChanged_eq k added cause xs t
  rw [e]
  exact h.quiet rfl rfl

/-- Beyond the presence, SET PRESENCE toward PRESENT changes no setting and answers no port. -/
theorem State.makePresent_still (i : StringId) (code : LockCode) (s : State) :
    Still (s.admits i) (s.makePresent i code) := by
  have k := (((((Still.refl (s.admits i)).putHold (.svc code) i).trans (State.addConditions_keeps i _).1).openFromAbsent
    i).takeReports).emitHoldChanged .svc true .presence [i]
  rw [State.makePresent_eq]
  unfold State.welcomes
  simp only []
  split
  · exact (k.emitHoldChanged .fire true .presence [i]).askCommit .holds []
  · exact k.askCommit .holds []

/-- A string made PRESENT is under SVC whatever a search does with it (R70). -/
theorem State.makePresent_presence (i : StringId) (code : LockCode) (s : State) :
    (s.makePresent i code).present i = true ∧ (s.makePresent i code).has .svc i = true := by
  have admitted : (s.admits i).present i = true := (State.present_admits i i s).trans (if_pos rfl)
  have put := State.has_putHold (x := .svc code) (fun e => nomatch e) admitted
  have first := Turns.putHold (L := Loseable) (.svc code) (fun e => nomatch e) i (s.admits i)
  have rest := ((Turns.addConditions (L := Loseable) i ((s.admits i).putHold (.svc code) i)).trans
    (.welcomes s.stab.conditions.fire i _))
  rw [State.makePresent_eq]
  refine ⟨?_, rest.runs.has ?_ put⟩
  · rw [State.present_of_frame rest.frame, State.present_of_frame first.frame]
    exact admitted
  · exact fun h => h.2.1 rfl

/-- Settles O31: the checks in their order, and the work of a string made PRESENT, hold by hold. -/
theorem madePresentStandsUnderALockout : Obligations.MadePresentStandsUnderALockout := by
  refine ⟨fun s n codes ha hk hl => ⟨fun hz => ?_, fun b hb => ?_, fun hz => ⟨fun hn => ?_, fun i hi => ⟨fun hr => ?_,
    fun hr hp hs => ?_⟩⟩⟩, fun s i codes ha hk hl hz hr => ⟨fun hp => ?_, fun hp => ?_, fun hp hs => ?_,
    fun hq hp hs he => ?_⟩⟩
  · exact setPresencePresent_fails ha hk hl (by decide) (if_pos (.inl hz))
  · refine setPresencePresent_fails ha hk hl (fun e => by rw [e] at hb; exact absurd hb (by decide)) (if_pos (.inr ?_))
    intro e
    have e : b = 1 := e
    rw [e] at hb
    exact absurd hb (by decide)
  · refine setPresencePresent_fails ha hk hl (by decide) ?_
    rw [State.presenceCheck_toPresent hz, stringOfByte_none hn]
  · rw [hi]
    exact setPresencePresent_fails ha hk hl (by decide) ((State.presenceCheck_string hz i).trans (if_pos hr))
  · rw [hi]
    refine setPresencePresent_fails ha hk hl (by decide) ?_
    rw [State.presenceCheck_string hz, hr, hp]
    exact if_pos hs
  · refine setPresencePresent_same ha hk hl (by decide) ?_
    rw [State.presenceCheck_string hz, hr, hp]
    rfl
  · refine setPresenceAbsent_same ha hk hl (by decide) ?_
    rw [State.presenceCheck_absent hz, stringOfByte_number]
    exact (if_neg fun h => by rw [hr] at h; cases h).trans (if_pos hp)
  all_goals
    have check : s.presenceCheck true ([byte (stringNumber i), 1] ++ codes) = .changes i := by
      rw [State.presenceCheck_string hz, hr, hp, hs]
      rfl
    refine ⟨_, setPresencePresent_makes ha hk hl (by decide) check, ?_⟩
  · obtain ⟨present, svc⟩ := State.makePresent_presence i (lockCodeOf codes) (s.hear .m)
    have o := State.has_outlasts (k := .svc) (i := i) (by decide)
    refine ⟨?_, ?_⟩
    · rw [State.present, State.strSet, State.settings_conclude]
      exact present
    · rw [State.has, State.str_conclude]
      exact o.settle (o.takeReports svc)
  · have made := State.makePresent_leaves (s := s.hear .m) (i := i) hq.1 he (lockCodeOf codes)
    have still := State.makePresent_still i (lockCodeOf codes) (s.hear .m)
    have idle : ((s.hear .m).makePresent i (lockCodeOf codes)).gsu.state = .idle :=
      (congrArg (fun x => x.gsu.state) made.beyond : _).trans hq.1
    have free : ((s.hear .m).port .m).outstanding = none := by
      rw [State.port_hear, if_pos rfl]
      exact ha.2.2.1
    have port : ((s.hear .m).makePresent i (lockCodeOf codes)).port .m = (s.hear .m).port .m :=
      still.port .m fun _ => free
    have deferred := concludes_deferred (s := s) (p := .m) (q := .setPresence) (r := .done) (body := [0])
      (waits := [.settings, .holds]) (by decide) idle port (port ▸ free)
    have svc := made.svc.conclude (p := .m) (q := .setPresence) (r := .done) (body := [0]) idle (by decide)
      [.settings, .holds]
    have fire := fun h => (made.fire h).conclude (p := .m) (q := .setPresence) (r := .done) (body := [0]) idle
      (by decide) [.settings, .holds]
    obtain ⟨a, g, c, o, x, w, e⟩ := State.conclude_eq (p := .m) (q := .setPresence) (r := .done) (body := [0]) idle
      [.settings, .holds]
    rw [e] at deferred svc fire ⊢
    exact ⟨made.settings, made.has, made.lock, made.fault, made.other, made.state, svc, fire, deferred, made.beyond⟩

end Sys2Proof.Machine
end

section
/-! SUPPORT. What start-up relay recovery may change, and the records it adds to the rings (R99, R173, R179). -/

namespace Sys2Proof.Machine

variable {s t u : State} {i j : StringId} {n m : Nat} {e : EventRecord}

/-! ### The records of the rings -/

/-- Each ring holds at most `n` records, none of them DAYLIGHT, and the first is `e` where it is routed. -/
def Told (e : EventRecord) (n : Nat) (s : State) : Prop := ∀ p, (s.ring p).records.length ≤ n ∧
  (s.routed e.kind p = true → (s.ring p).records.head? = some e) ∧ ∀ x ∈ (s.ring p).records, x.kind ≠ .daylight

theorem Told.mono (h : Told e n s) (hn : n ≤ m) : Told e m s := fun p => by
  obtain ⟨a, b, c⟩ := h p
  exact ⟨a.trans hn, b, c⟩

theorem Told.congr (h : Told e n s) (hs : t.settings.routes = s.settings.routes) (hr : t.evr.ring = s.evr.ring) :
    Told e n t := fun p => by
  have routed : t.routed e.kind p = s.routed e.kind p := by simp only [State.routed, hs]
  have ring : t.ring p = s.ring p := by simp only [State.ring, hr]
  rw [ring, routed]
  exact h p

/-- A ring with room keeps its oldest record (R173). -/
theorem Ring.push_room {r : Ring} (f : EventRecord) (h : r.records.length < ringSize) :
    (r.push f).records = r.records ++ [{ f with gap := false }] := by
  unfold Ring.push
  rw [if_pos h]

theorem Told.route (h : Told e n s) (hn : n < ringSize) {f : EventRecord} (hf : f.kind ≠ .daylight) :
    Told e (n + 1) (s.route f) := fun p => by
  obtain ⟨a, b, c⟩ := h p
  rw [State.ring_route, State.routed_route]
  split
  · have e := Ring.push_room f (a.trans_lt hn)
    refine ⟨?_, fun k => ?_, fun x m => ?_⟩
    · change ((s.ring p).push f).records.length ≤ n + 1
      rw [e, List.length_append]
      exact Nat.add_le_add_right a 1
    · change ((s.ring p).push f).records.head? = _
      rw [e, List.head?_append, b k]
      rfl
    · change x ∈ ((s.ring p).push f).records at m
      rw [e, List.mem_append, List.mem_singleton] at m
      rcases m with m | rfl
      · exact c x m
      · exact hf
  · exact ⟨a.trans (Nat.le_succ n), b, c⟩

/-- The first record of empty rings. -/
theorem Told.first (h : ∀ p, (s.ring p).records = []) (hf : e.kind ≠ .daylight) (hg : e.gap = false) :
    Told e 1 (s.route e) := fun p => by
  have room : (s.ring p).records.length < ringSize := by
    rw [h p]
    decide
  have push := Ring.push_room e room
  rw [h p, List.nil_append] at push
  have same : ({ e with gap := false } : EventRecord) = e := by rw [← hg]
  rw [same] at push
  rw [State.ring_route, State.routed_route]
  split
  · change ((s.ring p).push e).records.length ≤ 1 ∧ (_ → ((s.ring p).push e).records.head? = _) ∧
      ∀ x ∈ ((s.ring p).push e).records, _
    rw [push]
    exact ⟨le_rfl, fun _ => rfl, fun x m => List.mem_singleton.1 m ▸ hf⟩
  · next hn =>
    rw [h p]
    exact ⟨Nat.zero_le 1, fun k => absurd k hn, nofun⟩

/-! ### What recovery may change -/

/-- From one state to another the recovery of the relays has worked: beside the sequencer it has changed the
fault kinds of strings under SWITCH, asked for commits behind those that wait, worked out ARRAY SAFE, and added at most
`n` records to each ring. -/
structure Mends (n : Nat) (s t : State) : Prop where
  shape : ∃ q r w a g x, t = { s with
    cfs := { s.cfs with queue := q }, stab := { s.stab with strings := r }, sseq := w
    fli := { s.fli with arraySafe := a }, evr := { s.evr with ring := g }, reports := x }
  str : ∀ j, t.str j = s.str j ∨ (s.has .switch j = true ∧ ∃ k, t.str j = { s.str j with faultKind := some k })
  asked : s.cfs.writing = none → ∃ l, t.cfs.queue.map CommitEntry.record = s.cfs.queue.map CommitEntry.record ++ l
  told : ∀ e k, k + n ≤ ringSize → Told e k s → Told e (k + n) t

/-- Work of the sequencer alone. -/
theorem Mends.of_sseq (s : State) (w : Sseq) (x : Bool) : Mends 0 s { s with sseq := w, reports := x } :=
  ⟨⟨_, _, w, _, _, x, rfl⟩, fun _ => .inl rfl, fun _ => ⟨[], (List.append_nil _).symm⟩,
    fun _ _ _ h => h.congr rfl rfl⟩

theorem Mends.refl (s : State) : Mends 0 s s := Mends.of_sseq s s.sseq s.reports

theorem Mends.has (h : Mends n s t) (k : HoldKind) (j : StringId) : t.has k j = s.has k j := by
  rw [State.has, State.has]
  rcases h.str j with e | ⟨-, x, e⟩ <;> rw [e]

theorem Mends.trans (h : Mends n s t) (k : Mends m t u) : Mends (n + m) s u := by
  refine ⟨?_, fun j => ?_, fun hw => ?_, fun e b hb x => ?_⟩
  · obtain ⟨q, r, w, a, g, x, e⟩ := h.shape
    obtain ⟨q', r', w', a', g', x', e'⟩ := k.shape
    exact ⟨q', r', w', a', g', x', by rw [e', e]⟩
  · rcases k.str j with e | ⟨hs, x, e⟩
    · rw [e]
      exact h.str j
    · rw [h.has] at hs
      refine .inr ⟨hs, x, ?_⟩
      rw [e]
      rcases h.str j with e | ⟨-, y, e⟩ <;> rw [e]
  · obtain ⟨l, el⟩ := h.asked hw
    have writing : t.cfs.writing = none := by
      obtain ⟨q, r, w, a, g, x, e⟩ := h.shape
      rw [e]
      exact hw
    obtain ⟨l', el'⟩ := k.asked writing
    exact ⟨l ++ l', by rw [el', el, List.append_assoc]⟩
  · rw [← Nat.add_assoc]
    exact k.told e (b + n) (by omega) (h.told e b (by omega) x)

theorem Mends.mono (h : Mends n s t) (hn : n ≤ m) : Mends m s t :=
  ⟨h.shape, h.str, h.asked, fun e k hk x => (h.told e k (by omega) x).mono (by omega)⟩

theorem Mends.mfe (h : Mends n s t) : t.mfe = s.mfe := by
  obtain ⟨q, r, w, a, g, x, e⟩ := h.shape
  rw [e]

theorem Mends.settings (h : Mends n s t) : t.settings = s.settings := by
  obtain ⟨q, r, w, a, g, x, e⟩ := h.shape
  rw [e]

theorem Mends.now (h : Mends n s t) : t.now = s.now := by
  obtain ⟨q, r, w, a, g, x, e⟩ := h.shape
  rw [e]

theorem Mends.present (h : Mends n s t) (j : StringId) : t.present j = s.present j := by
  rw [State.present, State.strSet, h.settings]
  rfl

theorem Mends.below (h : Mends n s t) (j : StringId) : t.below j = s.below j := by
  rw [State.below, h.mfe]
  rfl

theorem Mends.cfgNat (h : Mends n s t) (k : Setting) : t.cfgNat k = s.cfgNat k := by
  rw [State.cfgNat, State.cfg, h.settings]
  rfl

/-! ### Its operations -/

theorem Mends.modSwitch (i : StringId) (f : Switch → Switch) (s : State) : Mends 0 s (s.modSwitch i f) :=
  Mends.of_sseq s _ s.reports

theorem Mends.modSseq (f : Sseq → Sseq) (s : State) : Mends 0 s (s.modSseq f) := Mends.of_sseq s _ s.reports

theorem Mends.noteStates (s : State) : Mends 0 s s.noteStates := Mends.of_sseq s s.sseq true

theorem Mends.emit {k : EventKind} (hk : k ≠ .daylight) (i : Option StringId) (a b : Int) (s : State) :
    Mends 1 s (s.emit k i a b) := by
  refine ⟨?_, fun j => .inl ?_, fun _ => ⟨[], ?_⟩, fun e n hn h => Told.route h hn hk⟩
  all_goals obtain ⟨g, e⟩ := State.emit_eq k i a b s
  · exact ⟨_, _, _, _, g, _, e⟩
  all_goals rw [e]
  · rfl
  · exact (List.append_nil _).symm

theorem State.takeReports_noCapture (hc : s.mfe.capture = none) :
    s.takeReports = if s.reports then (s.modReports fun _ => false).workArraySafe else s := by
  unfold State.takeReports State.checkCapture
  split
  · obtain ⟨a, g, e⟩ := (s.modReports fun _ => false).workArraySafe_eq
    have capture : (s.modReports fun _ => false).workArraySafe.mfe.capture = none := by
      rw [e]
      exact hc
    rw [capture]
  · rfl

theorem Mends.takeReports (hc : s.mfe.capture = none) : Mends 1 s s.takeReports := by
  rw [State.takeReports_noCapture hc]
  split
  · unfold State.workArraySafe
    simp only []
    split
    · exact (Mends.of_sseq s s.sseq false).mono (Nat.zero_le 1)
    · have marked (a : Bool) : Mends 0 s ((s.modReports fun _ => false).modFli fun f => { f with arraySafe := a }) :=
        ⟨⟨_, _, _, a, _, false, rfl⟩, fun _ => .inl rfl, fun _ => ⟨[], (List.append_nil _).symm⟩,
          fun _ _ _ h => h.congr rfl rfl⟩
      exact (marked _).trans (.emit (by decide) ..)
  · exact (Mends.refl s).mono (Nat.zero_le 1)

/-- Before the positions are known, ARRAY SAFE does not change, and no record is added (R155). -/
theorem Mends.takeReports_unknown (hc : s.mfe.capture = none) (hk : s.fli.positionsKnown = false)
    (ha : s.fli.arraySafe = false) : Mends 0 s s.takeReports ∧ s.takeReports.fli = s.fli := by
  rw [State.takeReports_noCapture hc]
  split
  · unfold State.workArraySafe
    simp only [State.modReports_fli, hk, ha, Bool.false_and, if_true]
    exact ⟨Mends.of_sseq s s.sseq false, trivial⟩
  · exact ⟨Mends.refl s, rfl⟩

theorem State.askCommit_records (hw : s.cfs.writing = none) (r : StoreRecord) (w : List Port) :
    ∃ l, (s.askCommit r w).cfs.queue.map CommitEntry.record = s.cfs.queue.map CommitEntry.record ++ l := by
  simp only [State.askCommit, State.modCfs_cfs, Cfs.waiting, hw, Option.isSome_none, Bool.false_eq_true, if_false,
    List.nil_append]
  rw [joinCommit_records]
  split
  · exact ⟨[], (List.append_nil _).symm⟩
  · exact ⟨[r], rfl⟩

/-- A string under SWITCH is given another fault kind (R91). -/
theorem Mends.putSwitch (hp : s.present i = true) (hw : s.has .switch i = true) (kind : FaultKind) :
    Mends 0 s (s.putHold (.switch kind) i) := by
  have value : s.putHold (.switch kind) i =
      ((s.modString i fun r => { r with faultKind := some kind }).askCommit .holds []).noteStates := by
    unfold State.putHold
    rw [if_neg (by simp [hp])]
    exact if_pos hw
  rw [value]
  refine ⟨⟨_, _, _, _, _, true, rfl⟩, fun j => ?_, fun hn => ?_, fun e k _ h => h.congr rfl rfl⟩
  · have here : (((s.modString i fun r => { r with faultKind := some kind }).askCommit .holds []).noteStates).str j =
        (s.modString i fun r => { r with faultKind := some kind }).str j := rfl
    rw [here, State.str_modString]
    by_cases hj : j = i
    · rw [if_pos hj, hj]
      exact .inr ⟨hw, kind, rfl⟩
    · exact .inl (if_neg hj)
  · exact State.askCommit_records (s := s.modString i fun r => { r with faultKind := some kind }) hn .holds []

/-- The fault kind of a string under SWITCH is replaced before the positions are known (R99). -/
theorem Mends.replaceFault (hp : s.present i = true) (hw : s.has .switch i = true) (hc : s.mfe.capture = none)
    (hk : s.fli.positionsKnown = false) (ha : s.fli.arraySafe = false) (kind : FaultKind) :
    Mends 1 s (s.replaceFault i kind) ∧ (s.replaceFault i kind).fli = s.fli ∧
    (s.replaceFault i kind).sseq = s.sseq := by
  have put := Mends.putSwitch hp hw kind
  obtain ⟨r, q, x, e⟩ := State.putHold_eq (.switch kind) i s
  have same : (s.putHold (.switch kind) i).fli = s.fli ∧ (s.putHold (.switch kind) i).sseq = s.sseq := by
    rw [e]
    exact ⟨rfl, rfl⟩
  have capture : (s.putHold (.switch kind) i).mfe.capture = none := by
    rw [put.mfe]
    exact hc
  unfold State.replaceFault
  generalize s.putHold (.switch kind) i = v at put same capture ⊢
  obtain ⟨taken, fli⟩ := Mends.takeReports_unknown capture (same.1 ▸ hk) (same.1 ▸ ha)
  have sseq := v.takeReports_sseq
  generalize v.takeReports = w at taken fli sseq ⊢
  have last := Mends.emit (s := w) (k := .switchFault) (by decide) (some i) (faultCode kind)
    (switchCode (s.switchState i))
  obtain ⟨g, e⟩ := State.emit_eq .switchFault (some i) (faultCode kind) (switchCode (s.switchState i)) w
  refine ⟨(put.trans taken).trans last, ?_, ?_⟩ <;> rw [e]
  · exact fli.trans same.1
  · exact sseq.trans same.2

/-- A string that neither enters nor leaves a closing state, nor OPEN, is reported to nobody else (R76). -/
theorem State.enter_unreported {new : SwitchState} (ho : s.switchState i ≠ .ramping ∧ s.switchState i ≠ .closed)
    (hn : new = .curtailWait ∨ new = .relayOpening) (timer : Option Nat) :
    s.enter i new timer = { s with sseq := (s.enter i new timer).sseq, reports := true } := by
  unfold State.enter State.report
  obtain ⟨hr, hc⟩ := ho
  rcases hn with rfl | rfl
  · simp [hr, hc, State.noteStates]
    rfl
  · simp [hr, hc, State.noteStates]
    rfl

theorem Mends.enter {new : SwitchState} (ho : s.switchState i ≠ .ramping ∧ s.switchState i ≠ .closed)
    (hn : new = .curtailWait ∨ new = .relayOpening) (timer : Option Nat) : Mends 0 s (s.enter i new timer) := by
  rw [State.enter_unreported ho hn timer]
  exact Mends.of_sseq s _ true

end Sys2Proof.Machine
end

section
/-! SUPPORT. Where start-up relay recovery leaves each string, the coil queue and the pulses (R99, R93). -/

namespace Sys2Proof.Machine

variable {s t u v : State} {i j : StringId} {n m : Nat} {e : EventRecord} {done rest : List StringId}

/-! ### String after string -/

theorem allStrings_ascend : allStrings.Pairwise (· < ·) := by decide

/-- The strings before one in their order are lower, and so not itself. -/
theorem lt_of_split (h : allStrings = done ++ i :: rest) (hj : j ∈ done) : j < i := by
  have ascend := allStrings_ascend
  rw [h] at ascend
  exact (List.pairwise_append.1 ascend).2.2 j hj i List.mem_cons_self

theorem not_mem_of_split (h : allStrings = done ++ i :: rest) : i ∉ done := fun m => lt_irrefl _ (lt_of_split h m)

theorem forStrings_induct {P : List StringId → State → Prop} {f : StringId → State → State}
    (hf : ∀ done i rest u, allStrings = done ++ i :: rest → P done u → P (done ++ [i]) (f i u)) (h : P [] s) :
    P allStrings (forStrings f allStrings s) := by
  have steps (xs : List StringId) : ∀ done u, allStrings = done ++ xs → P done u →
      P allStrings (forStrings f xs u) := by
    induction xs with
    | nil =>
      intro done u e h
      rw [List.append_nil] at e
      exact e ▸ h
    | cons x xs ih => exact fun done u e h => ih (done ++ [x]) _ (by simpa using e) (hf done x xs u e h)
  exact steps allStrings [] s rfl h

/-! ### The switch states (R99) -/

/-- The part before recovery: no string has a state yet, and the sequencer has no work. -/
structure State.Unplaced (s : State) : Prop where
  switches : ∀ j, s.sw j = restingSwitch
  queue : s.sseq.queue = []
  pulses : s.sseq.pulses = []
  slot : s.sseq.slot = none
  rampList : s.sseq.rampList = []
  retest : s.sseq.retest = none
  capture : s.mfe.capture = none
  unknown : s.fli.positionsKnown = false
  lineOpen : s.fli.arraySafe = false

/-- A string's switch as its presence, its SWITCH hold and its feedback give it. -/
def State.recovered (s : State) (j : StringId) : Switch :=
  if s.present j = false then restingSwitch
  else if s.has .switch j then { restingSwitch with state := .faulted }
  else if s.feedback j then { restingSwitch with state := .pendingOpen }
  else { restingSwitch with state := .opened, dwell := .running (s.after (1000 * s.cfgNat .tDwell)) }

theorem State.recovered_drive (s : State) (j : StringId) : (s.recovered j).drive = .off := by
  unfold State.recovered
  split
  · rfl
  · split
    · rfl
    · split <;> rfl

/-- The strings of `done` have their states. -/
structure Placed (v : State) (done : List StringId) (u : State) : Prop where
  mends : Mends (done.countP (v.has .switch)) v u
  sw : ∀ j, u.sw j = if j ∈ done then v.recovered j else restingSwitch
  rest : u.sseq = { v.sseq with switches := u.sseq.switches }
  fli : u.fli = v.fli

theorem Placed.feedback (h : Placed v done u) (j : StringId) : u.feedback j = v.feedback j := by
  rw [State.feedback, h.rest]
  rfl

theorem State.modSwitch_modSwitch (i : StringId) (f g : Switch → Switch) (s : State) :
    (s.modSwitch i f).modSwitch i g = s.modSwitch i fun w => g (f w) := by
  simp [State.modSwitch, State.modSseq]

/-- A string's switch is set. -/
theorem Placed.put (h : Placed v done u) (hi : i ∉ done) (f : Switch → Switch) (hf : f restingSwitch = v.recovered i) :
    Placed v (done ++ [i]) (u.modSwitch i f) := by
  refine ⟨(h.mends.trans (.modSwitch i f u)).mono ?_, fun j => ?_, ?_, h.fli⟩
  · rw [List.countP_append]
    omega
  · rw [State.sw_modSwitch]
    by_cases hj : j = i
    · subst hj
      rw [if_pos rfl, h.sw, if_neg hi, hf]
      simp
    · rw [if_neg hj, h.sw]
      simp [hj]
  · have same : (u.modSwitch i f).sseq = { u.sseq with switches := (u.modSwitch i f).sseq.switches } := rfl
    rw [same, h.rest]

theorem Placed.recoverSwitch (h : Placed v done u) (hv : v.Unplaced) (hi : i ∉ done) :
    Placed v (done ++ [i]) (u.recoverSwitch i) := by
  have present := h.mends.present i
  have has := h.mends.has .switch i
  have feedback := h.feedback i
  unfold State.recoverSwitch
  simp only [present, has]
  by_cases hp : v.present i = false
  · rw [if_pos hp]
    exact h.put hi _ (by rw [State.recovered, if_pos hp]; rfl)
  · rw [if_neg hp]
    by_cases hs : v.has .switch i = true
    · rw [if_pos hs]
      have put := h.put hi (fun w => { w with state := .faulted }) (by rw [State.recovered, if_neg hp, if_pos hs])
      have capture : (u.modSwitch i fun w => { w with state := .faulted }).mfe.capture = none := by
        rw [put.mends.mfe]
        exact hv.capture
      have before := h.mends.trans (.modSwitch i (fun w => { w with state := .faulted }) u)
      have counted : done.countP (v.has .switch) + 0 + 1 = (done ++ [i]).countP (v.has .switch) := by
        rw [List.countP_append, List.countP_singleton, if_pos hs]
      generalize u.modSwitch i (fun w => { w with state := .faulted }) = w at *
      split
      · obtain ⟨mends, fli, sseq⟩ := Mends.replaceFault (s := w) ((put.mends.present i).trans (by simpa using hp))
          ((put.mends.has .switch i).trans hs) capture (put.fli ▸ hv.unknown) (put.fli ▸ hv.lineOpen) .uncommandedClosed
        refine ⟨counted ▸ before.trans mends, fun j => ?_, ?_, fli.trans put.fli⟩
        · rw [State.sw, sseq]
          exact put.sw j
        · rw [sseq]
          exact put.rest
      · exact put
    · rw [if_neg hs, feedback]
      by_cases hf : v.feedback i = true
      · rw [if_pos hf]
        exact h.put hi _ (by rw [State.recovered, if_neg hp, if_neg hs, if_pos hf])
      · rw [if_neg hf]
        have both : (u.startDwell i).modSwitch i (fun w => { w with state := .opened }) = u.modSwitch i fun w =>
            { w with state := .opened, dwell := .running (v.after (1000 * v.cfgNat .tDwell)) } := by
          have time : u.after (1000 * u.cfgNat .tDwell) = v.after (1000 * v.cfgNat .tDwell) := by
            rw [State.after, State.after, h.mends.now, h.mends.cfgNat]
          unfold State.startDwell
          rw [time, State.modSwitch_modSwitch]
        rw [both]
        exact h.put hi _ (by rw [State.recovered, if_neg hp, if_neg hs, if_neg hf])

/-! ### The OPEN entries (R99) -/

/-- A string that is read closed and is not FAULTED: it gets an OPEN entry. -/
def State.moved (s : State) (j : StringId) : Bool := s.feedback j && (!s.present j || !s.has .switch j)

/-- The state in which a string waits for its OPEN entry's grant, or that it keeps. -/
def State.waitState (s : State) (j : StringId) : SwitchState :=
  if (s.recovered j).state = .pendingOpen ∧ s.below j = false then .curtailWait else (s.recovered j).state

theorem State.moved_iff (s : State) (j : StringId) : s.moved j = true ↔
    (s.feedback j = true ∧ (s.recovered j).state = .absent) ∨ (s.recovered j).state = .pendingOpen := by
  unfold State.moved State.recovered
  cases hp : s.present j <;> cases hs : s.has .switch j <;> cases hf : s.feedback j <;> simp [restingSwitch]

/-- The entries of the moved strings among `done` have joined the queue. -/
structure Entered (v : State) (done : List StringId) (u : State) : Prop where
  mends : Mends (allStrings.countP (v.has .switch) + 1 + done.countP fun j => !v.has .switch j) v u
  idle : ∀ j, (u.sw j).drive = .off ∧ (u.sw j).dwell = (v.recovered j).dwell
  state : ∀ j, u.switchState j = if j ∈ done then v.waitState j else (v.recovered j).state
  queue : u.sseq.queue = (done.filter v.moved).map fun j => { string := j, mark := .toOpen }
  rest : u.sseq = { v.sseq with
    switches := u.sseq.switches, queue := u.sseq.queue, curtail := u.sseq.curtail }

theorem Entered.feedback (h : Entered v done u) (j : StringId) : u.feedback j = v.feedback j := by
  rw [State.feedback, h.rest]
  rfl

/-- A string without work is passed over. -/
theorem Entered.skip (h : Entered v done u) (hm : v.moved i = false)
    (hs : v.waitState i = (v.recovered i).state) : Entered v (done ++ [i]) u := by
  refine ⟨h.mends.mono ?_, h.idle, fun j => ?_, ?_, h.rest⟩
  · rw [List.countP_append]
    omega
  · rw [h.state]
    by_cases hj : j = i
    · subst hj
      simp [hs]
    · simp [hj]
  · rw [h.queue, List.filter_append]
    simp [hm]

/-- A string's OPEN entry joins the queue behind those of the lower strings. -/
theorem Entered.join (h : Entered v done u) (hi : i ∉ done) (hm : v.moved i = true) :
    (u.joinQueue i .toOpen).sseq = { u.sseq with
      queue := ((done ++ [i]).filter v.moved).map fun j => { string := j, mark := .toOpen } } ∧
    Mends 0 u (u.joinQueue i .toOpen) := by
  have unqueued : u.queued i = false := by
    rw [State.queued, h.queue]
    simp only [List.any_map, List.any_eq_false, List.mem_filter, Function.comp_apply, beq_iff_eq]
    exact fun x m e => hi (e ▸ m.1)
  unfold State.joinQueue
  rw [if_neg (by simp [unqueued])]
  refine ⟨?_, .modSseq _ u⟩
  simp [h.queue, hm]

theorem State.enter_rest (i : StringId) (new : SwitchState) (timer : Option Nat) (s : State) :
    (s.enter i new timer).sseq = { s.sseq with switches := (s.enter i new timer).sseq.switches
                                               curtail := (s.enter i new timer).sseq.curtail } := by
  rw [State.enter_sseq]
  rfl

/-- A string goes from PENDING_OPEN to CURTAIL_WAIT, with its record (R87, R89). -/
theorem Mends.enterCurtailWait (ho : s.switchState i = .pendingOpen) : Mends 1 s (s.enterCurtailWait i) ∧
    (∀ j, ((s.enterCurtailWait i).sw j).drive = (s.sw j).drive ∧ ((s.enterCurtailWait i).sw j).dwell = (s.sw j).dwell) ∧
    (s.enterCurtailWait i).sseq = { s.sseq with switches := (s.enterCurtailWait i).sseq.switches
                                                curtail := (s.enterCurtailWait i).sseq.curtail } := by
  unfold State.enterCurtailWait
  simp only []
  have first := Mends.modSwitch i (fun w => { w with periods := 0 }) s
  have switches (j : StringId) := State.sw_modSwitch i j (fun w => { w with periods := 0 }) s
  have rest : (s.modSwitch i fun w => { w with periods := 0 }).sseq =
      { s.sseq with switches := (s.modSwitch i fun w => { w with periods := 0 }).sseq.switches } := rfl
  generalize s.modSwitch i (fun w => { w with periods := 0 }) = u at *
  have state : u.switchState i = .pendingOpen := by
    rw [State.switchState, switches, if_pos rfl]
    exact ho
  have second := fun timer => Mends.enter (s := u) (i := i) (by rw [state]; decide) (.inl rfl) timer
  have entered := State.enter_rest i .curtailWait (some (u.after (1000 * u.cfgNat .tCurtail))) u
  have moved := fun j => State.sw_enter i j .curtailWait (some (u.after (1000 * u.cfgNat .tCurtail))) u
  specialize second (some (u.after (1000 * u.cfgNat .tCurtail)))
  generalize u.enter i .curtailWait (some (u.after (1000 * u.cfgNat .tCurtail))) = w at *
  have third := Mends.emit (s := w) (k := .interruptFailed) (by decide) (some i) (w.fast i) 0
  obtain ⟨g, e⟩ := State.emit_eq .interruptFailed (some i) (w.fast i) 0 w
  refine ⟨(first.trans second).trans third, fun j => ?_, ?_⟩
  · rw [e]
    change (w.sw j).drive = _ ∧ (w.sw j).dwell = _
    rw [moved]
    by_cases hj : j = i
    · rw [if_pos hj, switches, if_pos rfl, hj]
      exact ⟨rfl, rfl⟩
    · rw [if_neg hj, switches, if_neg hj]
      exact ⟨rfl, rfl⟩
  · rw [e]
    exact entered.trans (by rw [rest])

/-- A string gets its entry and keeps its state. -/
theorem Entered.stays (h : Entered v done u) (hi : i ∉ done) (hm : v.moved i = true)
    (hs : v.waitState i = (v.recovered i).state) : Entered v (done ++ [i]) (u.joinQueue i .toOpen) := by
  obtain ⟨sseq, joined⟩ := h.join hi hm
  have switches (j : StringId) : (u.joinQueue i .toOpen).sw j = u.sw j := by
    rw [State.sw, sseq]
    rfl
  refine ⟨(h.mends.trans joined).mono ?_, fun j => ?_, fun j => ?_, ?_, ?_⟩
  · rw [List.countP_append]
    omega
  · rw [switches]
    exact h.idle j
  · rw [State.switchState, switches]
    refine (h.state j).trans ?_
    by_cases hj : j = i
    · subst hj
      simp [hs]
    · simp [hj]
  · rw [sseq]
  · rw [sseq, h.rest]

/-- No string that waits in PENDING_OPEN is under SWITCH. -/
theorem State.unlocked_of_pending (hp : (v.recovered i).state = .pendingOpen) : v.has .switch i = false := by
  unfold State.recovered at hp
  by_contra hs
  rw [Bool.not_eq_false] at hs
  simp only [hs, if_true] at hp
  split at hp <;> cases hp

/-- A string under current gets its entry and goes to CURTAIL_WAIT (R89). -/
theorem Entered.curtails (h : Entered v done u) (hi : i ∉ done) (hp : (v.recovered i).state = .pendingOpen)
    (hb : v.below i = false) : Entered v (done ++ [i]) ((u.joinQueue i .toOpen).enterCurtailWait i) := by
  have waits : v.waitState i = .curtailWait := if_pos ⟨hp, hb⟩
  obtain ⟨sseq, joined⟩ := h.join hi ((v.moved_iff i).2 (.inr hp))
  have switches (j : StringId) : (u.joinQueue i .toOpen).sw j = u.sw j := by
    rw [State.sw, sseq]
    rfl
  have states := fun j => (congrArg Switch.state (switches j)).trans (h.state j)
  obtain ⟨mends, kept, after⟩ := Mends.enterCurtailWait ((states i).trans ((if_neg hi).trans hp))
  refine ⟨((h.mends.trans joined).trans mends).mono ?_, fun j => ?_, fun j => ?_, ?_, ?_⟩
  · rw [List.countP_append, List.countP_singleton, State.unlocked_of_pending hp]
    simp only [Bool.not_false, if_true]
    omega
  · rw [(kept j).1, (kept j).2, switches]
    exact h.idle j
  · rw [State.switchState_enterCurtailWait]
    by_cases hj : j = i
    · rw [if_pos hj, hj, waits]
      simp
    · rw [if_neg hj]
      refine (states j).trans ?_
      simp [hj]
  · rw [after, sseq]
  · rw [after, sseq, h.rest]

theorem Entered.recoverEntry (h : Entered v done u) (hi : i ∉ done) : Entered v (done ++ [i]) (u.recoverEntry i) := by
  have state : u.switchState i = (v.recovered i).state := (h.state i).trans (if_neg hi)
  have below : (u.joinQueue i .toOpen).below i = v.below i := by
    rw [← h.mends.below]
    unfold State.joinQueue
    split <;> rfl
  unfold State.recoverEntry
  rw [h.feedback, state]
  by_cases ha : v.feedback i = true ∧ (v.recovered i).state = .absent
  · rw [if_pos ha]
    exact h.stays hi ((v.moved_iff i).2 (.inl ha)) (if_neg fun x => by rw [ha.2] at x; cases x.1)
  · rw [if_neg ha]
    by_cases hp : (v.recovered i).state = .pendingOpen
    · simp only [hp, if_true, below]
      by_cases hb : v.below i = true
      · rw [if_pos hb]
        exact h.stays hi ((v.moved_iff i).2 (.inr hp)) (if_neg fun x => by rw [hb] at x; cases x.2)
      · rw [if_neg hb]
        exact h.curtails hi hp (by simpa using hb)
    · rw [if_neg hp]
      refine h.skip ?_ (if_neg fun x => hp x.1)
      rw [Bool.eq_false_iff, Ne, v.moved_iff]
      exact fun x => x.elim ha hp

end Sys2Proof.Machine
end

section
/-! SUPPORT. The grants of a start-up: at most two, lowest strings first (R93, R99). -/

namespace Sys2Proof.Machine

variable {s t u v : State} {i j : StringId} {n m : Nat} {e : EventRecord} {x : CoilEntry} {done rest : List StringId}

/-- The entries and the pulses of the strings read closed, between two grants. -/
structure Granted (v u : State) : Prop where
  mends : Mends 17 v u
  idle : ∀ j, (u.sw j).drive = .off ∧ (u.sw j).dwell = (v.recovered j).dwell
  state : ∀ j, u.switchState j = v.waitState j ∨
    ((v.recovered j).state = .pendingOpen ∧ u.switchState j = .relayOpening)
  waiting : ∀ x ∈ u.sseq.queue, x.mark = .toOpen ∧ v.moved x.string = true ∧
    u.switchState x.string = v.waitState x.string
  ascend : (u.sseq.queue.map CoilEntry.string).Pairwise (· < ·)
  pulses : ∀ x ∈ u.sseq.pulses, x.mark = .toOpen ∧ v.moved x.string = true ∧ v.below x.string = true ∧
    x.endsAt = v.after (v.cfgNat .tCoil)
  covers : ∀ j, v.moved j = true → (∃ x ∈ u.sseq.queue, x.string = j) ∨ ∃ x ∈ u.sseq.pulses, x.string = j
  behind : ∀ x ∈ u.sseq.pulses, ∀ y ∈ u.sseq.queue, v.below y.string = true → x.string < y.string
  rest : u.sseq = { v.sseq with switches := u.sseq.switches, queue := u.sseq.queue, pulses := u.sseq.pulses
                                curtail := u.sseq.curtail }

theorem Granted.feedback (h : Granted v u) (j : StringId) : u.feedback j = v.feedback j := by
  rw [State.feedback, h.rest]
  rfl

/-- Before the first grant. -/
theorem Entered.granted (h : Entered v allStrings u) (hp : v.sseq.pulses = []) : Granted v u := by
  have members (j : StringId) : j ∈ allStrings := List.contains_iff_mem.1 (mem_allStrings j)
  have state (j : StringId) : u.switchState j = v.waitState j := (h.state j).trans (if_pos (members j))
  have stands : u.sseq.pulses = v.sseq.pulses := by rw [h.rest]
  have pulses := stands.trans hp
  have budget : allStrings.countP (v.has .switch) + 1 + allStrings.countP (fun j => !v.has .switch j) ≤ 17 := by
    have all := List.length_eq_countP_add_countP (v.has .switch) (l := allStrings)
    have same : allStrings.countP (fun j => !v.has .switch j) = allStrings.countP fun j => ¬v.has .switch j = true :=
      List.countP_congr fun j _ => by simp
    have size : allStrings.length = 16 := rfl
    omega
  refine ⟨h.mends.mono budget, h.idle, fun j => .inl (state j), fun x m => ?_, ?_, fun x m => ?_, fun j hj => .inl ?_,
    fun x m => ?_, ?_⟩
  · rw [h.queue] at m
    obtain ⟨j, mj, rfl⟩ := List.mem_map.1 m
    exact ⟨rfl, (List.mem_filter.1 mj).2, state j⟩
  · rw [h.queue, List.map_map]
    have same : (CoilEntry.string ∘ fun j => ({ string := j, mark := .toOpen } : CoilEntry)) = id := rfl
    rw [same, List.map_id]
    exact allStrings_ascend.filter _
  · rw [pulses] at m
    cases m
  · rw [h.queue]
    exact ⟨_, List.mem_map_of_mem (List.mem_filter.2 ⟨members j, hj⟩), rfl⟩
  · rw [pulses] at m
    cases m
  · exact h.rest.trans (by rw [stands])

/-- A moved string waits in ABSENT, or in PENDING_OPEN where its current is low. -/
theorem State.waitState_low (hm : v.moved i = true) (hb : v.below i = true) :
    v.waitState i = .absent ∨ ((v.recovered i).state = .pendingOpen ∧ v.waitState i = .pendingOpen) := by
  have same : v.waitState i = (v.recovered i).state := if_neg fun x => by rw [hb] at x; cases x.2
  rcases (v.moved_iff i).1 hm with ⟨-, e⟩ | e
  · exact .inl (same.trans e)
  · exact .inr ⟨e, same.trans e⟩

/-- The entries whose strings are below I_zero are grantable, and no others (R93). -/
theorem Granted.grantable (h : Granted v u) (hx : x ∈ u.sseq.queue) : u.grantable x = v.below x.string := by
  obtain ⟨mark, moved, state⟩ := h.waiting x hx
  unfold State.grantable
  rw [mark]
  simp only [h.mends.below, (h.idle x.string).1, decide_true, Bool.and_true]
  by_cases hb : v.below x.string = true
  · rw [hb, state]
    rcases State.waitState_low moved hb with e | ⟨-, e⟩ <;> rw [e] <;> rfl
  · rw [Bool.eq_false_iff.2 hb, Bool.false_and]

/-- The entry granted next is that of the lowest string below I_zero. -/
theorem Granted.nextGrant (h : Granted v u) (hx : u.nextGrant = some x) : x ∈ u.sseq.queue ∧ v.below x.string = true ∧
    ∀ y ∈ u.sseq.queue, y.string ≠ x.string → v.below y.string = true → x.string < y.string := by
  obtain ⟨mem, grantable⟩ := State.nextGrant_mem u x hx
  have low := (h.grantable mem).symm.trans grantable
  refine ⟨mem, low, fun y my hne hb => ?_⟩
  unfold State.nextGrant at hx
  split at hx
  · next z hz =>
    cases hx
    obtain ⟨-, as, bs, e, none⟩ := List.find?_eq_some_iff_append.1 hz
    have ascend := h.ascend
    rw [e] at my
    rw [e, List.map_append, List.map_cons] at ascend
    rcases List.mem_append.1 my with m | m
    · have miss := none y m
      have mark := (h.waiting y (e ▸ List.mem_append_left _ m)).1
      rw [h.grantable (e ▸ List.mem_append_left _ m), hb, mark] at miss
      cases miss
    · rcases List.mem_cons.1 m with rfl | m
      · exact absurd rfl hne
      · exact (List.pairwise_cons.1 (List.pairwise_append.1 ascend).2.1).1 _ (List.mem_map_of_mem m)
  · next hn =>
    have close := List.find?_some hx
    rw [(h.waiting x mem).1] at close
    cases close

/-- No entry is granted: none is of a string below I_zero. -/
theorem Granted.nextGrant_none (h : Granted v u) (hn : u.nextGrant = none) :
    ∀ y ∈ u.sseq.queue, v.below y.string = false := by
  intro y my
  unfold State.nextGrant at hn
  split at hn
  · cases hn
  · next hx =>
    have miss := List.find?_eq_none.1 hx y my
    rw [h.grantable my, (h.waiting y my).1] at miss
    simpa using miss

/-- A grant: its entry leaves the queue, and its pulse starts (R93). -/
theorem Granted.granting (h : Granted v u) (hx : u.nextGrant = some x) (mends : Mends 0 u t)
    (sseq : t.sseq = { u.sseq with
      switches := t.sseq.switches, curtail := t.sseq.curtail
      queue := u.sseq.queue.filter fun y => y.string != x.string
      pulses := u.sseq.pulses ++ [{ string := x.string, mark := x.mark, endsAt := u.after (u.cfgNat .tCoil) }] })
    (idle : ∀ j, (t.sw j).drive = (u.sw j).drive ∧ (t.sw j).dwell = (u.sw j).dwell)
    (other : ∀ j, j ≠ x.string → t.switchState j = u.switchState j)
    (state : t.switchState x.string = u.switchState x.string ∨
      (u.switchState x.string = .pendingOpen ∧ t.switchState x.string = .relayOpening)) : Granted v t := by
  obtain ⟨mem, low, ahead⟩ := h.nextGrant hx
  obtain ⟨mark, moved, waits⟩ := h.waiting x mem
  have queue (y : CoilEntry) : y ∈ t.sseq.queue ↔ y ∈ u.sseq.queue ∧ y.string ≠ x.string := by
    rw [sseq]
    simp
  have pulses (y : Pulse) : y ∈ t.sseq.pulses ↔ y ∈ u.sseq.pulses ∨
      y = { string := x.string, mark := x.mark, endsAt := u.after (u.cfgNat .tCoil) } := by
    rw [sseq]
    simp
  refine ⟨h.mends.trans mends, fun j => ?_, fun j => ?_, fun y my => ?_, ?_, fun y my => ?_, fun j hj => ?_,
    fun y my z mz hz => ?_, ?_⟩
  · rw [(idle j).1, (idle j).2]
    exact h.idle j
  · by_cases hj : j = x.string
    · subst hj
      rcases state with e | ⟨e, k⟩
      · rw [e]
        exact h.state _
      · rw [waits] at e
        refine .inr ⟨?_, k⟩
        unfold State.waitState at e
        split at e
        · cases e
        · exact e
    · rw [other j hj]
      exact h.state j
  · obtain ⟨m, hy⟩ := (queue y).1 my
    rw [other _ hy]
    exact h.waiting y m
  · rw [sseq]
    exact h.ascend.sublist (List.filter_sublist.map _)
  · rcases (pulses y).1 my with m | rfl
    · exact h.pulses y m
    · refine ⟨mark, moved, low, ?_⟩
      change u.now + u.cfgNat .tCoil = v.now + v.cfgNat .tCoil
      rw [h.mends.now, h.mends.cfgNat]
  · rcases h.covers j hj with ⟨y, m, rfl⟩ | ⟨y, m, rfl⟩
    · by_cases hy : y.string = x.string
      · exact .inr ⟨_, (pulses _).2 (.inr rfl), hy.symm⟩
      · exact .inl ⟨y, (queue y).2 ⟨m, hy⟩, rfl⟩
    · exact .inr ⟨y, (pulses y).2 (.inl m), rfl⟩
  · obtain ⟨m, hne⟩ := (queue z).1 mz
    rcases (pulses y).1 my with m' | rfl
    · exact h.behind y m' z m hz
    · exact ahead z m hne hz
  · rw [sseq, h.rest]

/-- A string's entry is granted: it goes to RELAY_OPENING, or stays in ABSENT (R89, R99). -/
theorem Granted.grant (h : Granted v u) (hx : u.nextGrant = some x) :
    Granted v (u.grant x) ∧ (u.grant x).sseq.pulses.length = u.sseq.pulses.length + 1 := by
  obtain ⟨mem, low, -⟩ := h.nextGrant hx
  obtain ⟨-, moved, waits⟩ := h.waiting x mem
  have closed : u.feedback x.string = true := by
    rw [h.feedback]
    unfold State.moved at moved
    exact (Bool.and_eq_true _ _ ▸ moved).1
  unfold State.grant
  simp only []
  generalize hw : (u.leaveQueue x.string).modSseq _ = w
  have sseq : w.sseq = { u.sseq with
      queue := u.sseq.queue.filter fun y => y.string != x.string
      pulses := u.sseq.pulses ++ [{ string := x.string, mark := x.mark, endsAt := u.after (u.cfgNat .tCoil) }] } := by
    rw [← hw]
    rfl
  have first : Mends 0 u w := by
    rw [← hw]
    exact (Mends.modSseq _ u).trans (.modSseq _ _)
  have switches (j : StringId) : w.sw j = u.sw j := by
    rw [State.sw, sseq]
    rfl
  have stateHere : w.switchState x.string = u.switchState x.string := congrArg Switch.state (switches _)
  have feedback : w.feedback x.string = true := by
    rw [State.feedback, sseq]
    exact closed
  clear hw
  rw [stateHere]
  rcases State.waitState_low moved low with e | ⟨-, e⟩
  · rw [waits, e]
    simp only [feedback, if_true, State.setTimer]
    have second := Mends.modSwitch x.string (fun s => { s with timer := some (w.after (w.cfgNat .tConfirm)) }) w
    have sw := fun j =>
      State.sw_modSwitch x.string j (fun s => { s with timer := some (w.after (w.cfgNat .tConfirm)) }) w
    have rest : (w.modSwitch x.string fun s => { s with timer := some (w.after (w.cfgNat .tConfirm)) }).sseq =
        { w.sseq with switches := (w.modSwitch x.string fun s =>
          { s with timer := some (w.after (w.cfgNat .tConfirm)) }).sseq.switches } := rfl
    generalize w.modSwitch x.string _ = t at second sw rest ⊢
    have same (j : StringId) : (t.sw j).state = (u.sw j).state ∧ (t.sw j).drive = (u.sw j).drive ∧
        (t.sw j).dwell = (u.sw j).dwell := by
      rw [sw]
      split
      · next hj =>
        rw [hj, switches]
        exact ⟨rfl, rfl, rfl⟩
      · rw [switches]
        exact ⟨rfl, rfl, rfl⟩
    refine ⟨h.granting hx (first.trans second) (rest.trans ?_) (fun j => (same j).2) (fun j _ => (same j).1)
      (.inl (same _).1), ?_⟩
    · rw [rest, sseq]
    · rw [rest, sseq]
      simp
  · rw [waits, e]
    have pending : u.switchState x.string = .pendingOpen := waits.trans e
    have second := Mends.enter (s := w) (i := x.string) (by rw [stateHere, pending]; decide) (.inr rfl)
      (some (w.after (w.cfgNat .tConfirm)))
    have sw := fun j => State.sw_enter x.string j .relayOpening (some (w.after (w.cfgNat .tConfirm))) w
    have rest := State.enter_rest x.string .relayOpening (some (w.after (w.cfgNat .tConfirm))) w
    have closed' := (State.feedback_enter x.string x.string .relayOpening (some (w.after (w.cfgNat .tConfirm))) w).trans
      feedback
    simp only [closed', if_true]
    generalize w.enter x.string .relayOpening _ = t at second sw rest ⊢
    refine ⟨h.granting hx (first.trans second) (rest.trans (by rw [sseq])) (fun j => ?_) (fun j hj => ?_)
      (.inr ⟨pending, ?_⟩), ?_⟩
    · rw [sw]
      split
      · next hj =>
        rw [hj, switches]
        exact ⟨rfl, rfl⟩
      · rw [switches]
        exact ⟨rfl, rfl⟩
    · rw [State.switchState, sw, if_neg hj, switches]
      rfl
    · rw [State.switchState, sw, if_pos rfl]
    · rw [rest, sseq]
      simp

/-- The grants of a start-up end with two pulses, or with no string below I_zero in the queue. -/
theorem Granted.grants (n : Nat) : ∀ u, Granted v u → u.sseq.pulses.length + n = 2 →
    Granted v (State.grants n u) ∧ (State.grants n u).sseq.pulses.length ≤ 2 ∧
    ((State.grants n u).sseq.pulses.length = 2 ∨ ∀ y ∈ (State.grants n u).sseq.queue, v.below y.string = false) := by
  induction n with
  | zero => exact fun u h hn => ⟨h, hn.le, .inl hn⟩
  | succ n ih =>
    intro u h hn
    have room : u.sseq.pulses.length < pulseLimit := by
      unfold pulseLimit
      omega
    unfold State.grants
    rw [if_pos room]
    split
    · next x hx =>
      obtain ⟨g, l⟩ := h.grant hx
      exact ih _ g (by omega)
    · next hx => exact ⟨h, by omega, .inr (h.nextGrant_none hx)⟩

/-! ### The recovery as a whole -/

/-- The part with the switch positions marked known (R155). -/
def State.known (s : State) : State := s.modFli fun f => { f with positionsKnown := true }

/-- The strings have their states; the entries can join. -/
theorem Placed.known (h : Placed v allStrings u) (hv : v.Unplaced) :
    Entered v.known [] u.known.noteStates.takeReports := by
  have members (j : StringId) : j ∈ allStrings := List.contains_iff_mem.1 (mem_allStrings j)
  have noted : Mends (allStrings.countP (v.has .switch)) v.known u.known.noteStates := by
    obtain ⟨q, r, w, a, g, x, e⟩ := h.mends.shape
    exact ⟨⟨q, r, w, a, g, true, by rw [e]; rfl⟩, h.mends.str, h.mends.asked, fun e k hk y =>
      (h.mends.told e k hk (y.congr rfl rfl)).congr rfl rfl⟩
  have taken := noted.trans (.takeReports (by rw [noted.mfe]; exact hv.capture))
  have sseq : u.known.noteStates.takeReports.sseq = u.sseq := State.takeReports_sseq _
  have switches (j : StringId) : u.known.noteStates.takeReports.sw j = v.recovered j := by
    rw [State.sw, sseq]
    exact (h.sw j).trans (if_pos (members j))
  have queue : u.sseq.queue = [] := by
    rw [h.rest]
    exact hv.queue
  refine ⟨taken, fun j => ?_, fun j => ?_, ?_, ?_⟩
  · rw [switches]
    exact ⟨v.recovered_drive j, rfl⟩
  · rw [State.switchState, switches]
    rfl
  · rw [sseq]
    exact queue
  · rw [sseq, h.rest]
    rfl

/-- What start-up relay recovery leaves (R99, R93). -/
theorem State.recoverRelays_leaves (hv : v.Unplaced) : ∃ u, Granted v.known u ∧ u.sseq.pulses.length ≤ 2 ∧
    (u.sseq.pulses.length = 2 ∨ ∀ y ∈ u.sseq.queue, v.below y.string = false) ∧ v.recoverRelays = u.takeReports := by
  have start : Placed v [] v := ⟨Mends.refl v, fun j => (hv.switches j).trans (if_neg List.not_mem_nil).symm, rfl, rfl⟩
  have placed : Placed v allStrings (forStrings State.recoverSwitch allStrings v) :=
    forStrings_induct (fun done i rest u e h => h.recoverSwitch hv (not_mem_of_split e)) start
  have entered := forStrings_induct (P := Entered v.known) (f := State.recoverEntry)
    (fun done i rest u e h => h.recoverEntry (not_mem_of_split e)) (placed.known hv)
  have granted := entered.granted hv.pulses
  have none : (forStrings State.recoverEntry allStrings
      (forStrings State.recoverSwitch allStrings v).known.noteStates.takeReports).sseq.pulses = [] := by
    rw [entered.rest]
    exact hv.pulses
  obtain ⟨last, few, full⟩ := Granted.grants 2 _ granted (by rw [none]; rfl)
  exact ⟨_, last, few, full, rfl⟩

end Sys2Proof.Machine
end

section
/-! SUPPORT. The stored records that a start-up reads, and the holds it restores from them (R177, R179, R180). -/

namespace Sys2Proof.Machine

variable {s t u v : State} {i j : StringId} {k : HoldKind} {cause : StartCause} {inp : StartInputs}

/-! ### The copies of a record (R177) -/

/-- A start-up reads the latest good version of the copies that pass their check. -/
theorem Copies.readsLatest {α : Type} (c : Copies α) (a b : Bool) (x : α) :
    ReadsLatest c a b x ((c.fail a b).dataOr x) (c.fail a b).latest.isNone := by
  unfold ReadsLatest Copies.dataOr Copies.latest Copies.fail
  cases ha : (c.a.good && !a) <;> cases hb : (c.b.good && !b) <;> simp only []
  · simp
  · simp
  · simp
  · by_cases hs : c.b.sequence ≤ c.a.sequence
    · simp [hs]
    · simp [hs]
      omega

/-- A write cut short spoils the copy that does not hold the latest good version (R177). -/
theorem Copies.spoil_latest {α : Type} (c : Copies α) : c.spoil.latest = c.latest := by
  unfold Copies.spoil Copies.latest Copies.targetIsB
  cases ha : c.a.good <;> cases hb : c.b.good <;> simp [ha, hb]
  by_cases hs : c.b.sequence ≤ c.a.sequence <;> simp [hs, ha, hb]

theorem Cfs.loseSupply_latest (c : Cfs) : c.loseSupply.settingsCopies.latest = c.settingsCopies.latest ∧
    c.loseSupply.holdCopies.latest = c.holdCopies.latest := by
  unfold Cfs.loseSupply
  rcases c.writing with _ | ⟨_, _ | _⟩
  · exact ⟨rfl, rfl⟩
  · exact ⟨Copies.spoil_latest _, rfl⟩
  · exact ⟨rfl, Copies.spoil_latest _⟩

theorem Cfs.loseSupply_idle {c : Cfs} (h : c.writing = none) : c.loseSupply.settingsCopies = c.settingsCopies ∧
    c.loseSupply.holdCopies = c.holdCopies := by
  unfold Cfs.loseSupply
  rw [h]
  exact ⟨rfl, rfl⟩

theorem Copies.fail_neither {α : Type} (c : Copies α) : c.fail false false = c := by simp [Copies.fail]

theorem Copies.dataOr_latest {α : Type} {c : Copies α} {y : Copy α} (h : c.latest = some y) (x : α) :
    c.dataOr x = y.data ∧ c.latest.isNone = false := by
  unfold Copies.dataOr
  rw [h]
  exact ⟨rfl, rfl⟩

theorem Copies.dataOr_none {α : Type} {c : Copies α} (h : c.latest.isNone = true) (x : α) : c.dataOr x = x := by
  unfold Copies.dataOr
  rw [Option.isNone_iff_eq_none.1 h]

/-! ### The restored holds (R179, R180) -/

theorem StringRecord.has_puts_eq (xs : List Hold) (r : StringRecord) (k : HoldKind) :
    (xs.foldl StringRecord.put r).holds[k.slot] = (r.holds[k.slot] || xs.any fun x => decide (k = x.kind)) := by
  induction xs generalizing r with
  | nil => exact (Bool.or_false _).symm
  | cons x xs ih =>
    refine (ih _).trans ?_
    rw [StringRecord.has_put, List.any_cons, Bool.or_comm (decide _), Bool.or_assoc]

theorem StringRecord.puts_condition {xs : List Hold} (h : ∀ x ∈ xs, x.ofCondition) (r : StringRecord) :
    (xs.foldl StringRecord.put r).lockCode = r.lockCode := by
  induction xs generalizing r with
  | nil => rfl
  | cons x xs ih =>
    exact (ih (fun y m => h y (List.mem_cons_of_mem _ m)) _).trans
      (StringRecord.put_condition (h x List.mem_cons_self) r).1

theorem ReadRecords.raised_conditions {r : ReadRecords} {fire arc : Bool} {x : Hold} (h : x ∈ r.raised fire arc) :
    x.ofCondition := by
  unfold ReadRecords.raised at h
  unfold Hold.ofCondition
  simp only [List.mem_append, List.mem_ite_nil_right, List.mem_singleton] at h
  obtain ((⟨-, e⟩ | ⟨-, e⟩) | e) | ⟨-, e⟩ := h <;> simp [e]

theorem ReadRecords.any_raised (r : ReadRecords) (fire arc : Bool) (k : HoldKind) :
    ((r.raised fire arc).any fun x => decide (k = x.kind)) =
      (decide (k = .start) || (decide (k = .store) && r.storeStands) || (decide (k = .fire) && fire) ||
        (decide (k = .arc) && arc)) := by
  unfold ReadRecords.raised
  cases fire <;> cases arc <;> cases r.storeStands <;> cases k <;> rfl

/-- A stored hold of a string PRESENT in both records. -/
def ReadRecords.stored (r : ReadRecords) (k : HoldKind) (i : StringId) : Bool :=
  (r.settings.strings[i]).present && (r.holds[i]).present && k.stored && (r.holds[i]).holds[k.slot]

theorem ReadRecords.has_restored (r : ReadRecords) (k : HoldKind) (i : StringId) :
    (k.stored && (r.restored i).holds[k.slot]) = r.stored k i := by
  unfold ReadRecords.restored ReadRecords.stored
  by_cases h : ((r.settings.strings[i]).present && (r.holds[i]).present) = true
  · rw [if_pos h, h, Bool.true_and]
  · rw [if_neg h, Bool.eq_false_iff.2 h, Bool.false_and, Bool.false_and]
    cases k <;> rfl

/-- The holds of a present string after a start-up (R179). -/
theorem ReadRecords.record_has (r : ReadRecords) (fire arc : Bool) (hp : (r.settings.strings[i]).present = true)
    (k : HoldKind) : (r.record fire arc i).holds[k.slot] = (r.stored k i || decide (k = .start)
      || (decide (k = .store) && r.storeStands) || (decide (k = .fire) && fire) || (decide (k = .arc) && arc)) := by
  have kept : (r.restored i).record.holds[k.slot] = r.stored k i :=
    (storedHolds_get _ k).trans (r.has_restored k i)
  rw [ReadRecords.record_eq, if_pos hp, StringRecord.has_puts_eq, kept, ReadRecords.any_raised]
  simp only [Bool.or_assoc]

theorem ReadRecords.record_lock (r : ReadRecords) (fire arc : Bool) (hs : r.stored .svc i = true) :
    (r.record fire arc i).lockCode = (r.holds[i]).lockCode := by
  unfold ReadRecords.stored at hs
  simp only [Bool.and_eq_true] at hs
  obtain ⟨⟨⟨hp, hh⟩, -⟩, -⟩ := hs
  have whole : r.restored i = r.holds[i] := if_pos (by rw [hp, hh]; rfl)
  rw [ReadRecords.record_eq, if_pos hp, StringRecord.puts_condition fun x m => ReadRecords.raised_conditions m, whole]
  rfl

theorem ReadRecords.anyFire_eq (r : ReadRecords) : r.anyFire = allStrings.any (r.stored .fire) := by
  unfold ReadRecords.anyFire
  congr 1
  funext i
  exact r.has_restored .fire i

theorem ReadRecords.anyArc_eq (r : ReadRecords) : r.anyArc = allStrings.any (r.stored .arc) := by
  unfold ReadRecords.anyArc
  congr 1
  funext i
  exact r.has_restored .arc i

/-! ### The replacements' commits and the first record (R180, R181) -/

/-- The records whose replacements are committed first. -/
def ReadRecords.replacements (r : ReadRecords) : List StoreRecord :=
  (if r.settingsReplaced then [.settings] else []) ++ if r.holdsReplaced then [.holds] else []

theorem State.askReplacements_records (r : ReadRecords) (hq : s.cfs.queue = []) (hw : s.cfs.writing = none) :
    (s.askReplacements r).cfs.queue.map CommitEntry.record = r.replacements ∧
    (s.askReplacements r).cfs.writing = none := by
  unfold State.askReplacements ReadRecords.replacements
  cases r.settingsReplaced <;> cases r.holdsReplaced <;>
    simp [State.askCommit, Cfs.waiting, hq, hw, joinCommit]

/-- The RESTARTED record (R181). -/
def ReadRecords.restarted (cause : StartCause) (r : ReadRecords) : EventRecord :=
  { kind := .restarted, string := none, time := 0, valueA := BitVec.ofInt 32 cause.code
    valueB := BitVec.ofInt 16 (bitAt 0 r.settingsReplaced + bitAt 1 r.holdsReplaced + bitAt 2 r.disagree : Nat)
    gap := false }

/-- What a start-up has done in the rings and the commit queue before the relays are recovered. -/
theorem State.reinstated_told (cause : StartCause) (inp : StartInputs) (s : State) :
    Told ((s.storeAtStart inp).read.restarted cause) 1 (s.reinstated cause inp) ∧
    (∃ l, (s.reinstated cause inp).cfs.queue.map CommitEntry.record =
      (s.storeAtStart inp).read.replacements ++ l) ∧ (s.reinstated cause inp).cfs.writing = none := by
  obtain ⟨records, writing⟩ := State.askReplacements_records (s := s.awoken inp) (s.storeAtStart inp).read rfl rfl
  have fresh : ((s.awoken inp).askReplacements (s.storeAtStart inp).read).now = 0 ∧
      ∀ p, (((s.awoken inp).askReplacements (s.storeAtStart inp).read).ring p).records = [] := by
    unfold State.askReplacements
    refine ⟨?_, fun p => ?_⟩
    · simp only []
      split <;> split <;> rfl
    · simp only []
      split <;> split <;> cases p <;> rfl
  unfold State.reinstated
  simp only []
  rw [← State.awoken]
  generalize (s.awoken inp).askReplacements (s.storeAtStart inp).read = u at *
  generalize (s.storeAtStart inp).read = r at *
  have event : u.eventNow .restarted none cause.code
      (bitAt 0 r.settingsReplaced + bitAt 1 r.holdsReplaced + bitAt 2 r.disagree : Nat) = r.restarted cause := by
    have up : u.uptime = 0 := by
      rw [State.uptime, fresh.1]
      rfl
    rw [State.eventNow, up]
    rfl
  have told : Told (r.restarted cause) 1 (u.emitRestarted cause r) := by
    have route : u.emitRestarted cause r = u.route (u.eventNow .restarted none cause.code
      (bitAt 0 r.settingsReplaced + bitAt 1 r.holdsReplaced + bitAt 2 r.disagree : Nat)) := rfl
    rw [route, event]
    exact Told.first fresh.2 (fun h => nomatch h) rfl
  have cfs : (u.emitRestarted cause r).cfs = u.cfs := by
    obtain ⟨g, e⟩ := State.emit_eq .restarted none cause.code
      (bitAt 0 r.settingsReplaced + bitAt 1 r.holdsReplaced + bitAt 2 r.disagree : Nat) u
    rw [State.emitRestarted, e]
  rw [← cfs] at records writing
  generalize u.emitRestarted cause r = w at *
  unfold State.restoreHolds
  simp only []
  split
  · obtain ⟨l, e⟩ := State.askCommit_records writing .holds []
    exact ⟨told.congr rfl rfl, ⟨l, e.trans (by rw [records])⟩, writing⟩
  · exact ⟨told.congr rfl rfl, ⟨[], records.trans (List.append_nil _).symm⟩, writing⟩

/-- The sequencer before the relays are recovered. -/
theorem State.reinstated_unplaced (cause : StartCause) (inp : StartInputs) (s : State) :
    (s.reinstated cause inp).Unplaced := by
  obtain ⟨q, g, e⟩ := s.reinstated_eq cause inp
  rw [e]
  refine ⟨fun j => ?_, rfl, rfl, rfl, rfl, rfl, rfl, rfl, rfl⟩
  simp [State.sw, State.awoken, State.started, State.off]

theorem State.beginWrite_value (hw : s.cfs.writing = none) : s.beginWrite = s.modCfs fun c => { c with
    writing := s.cfs.queue.head?.map fun e => { startedAt := s.now, image := s.image e.record } } := by
  unfold State.beginWrite
  rw [hw]
  cases hq : s.cfs.queue with
  | nil =>
    simp only [List.head?_nil, Option.map_none, State.modCfs]
    rw [← hw]
  | cons x xs => rfl

end Sys2Proof.Machine
end

section
/-! SUPPORT. The statement on start-ups and the loss of supply (R99, R155, R177 to R181). -/

namespace Sys2Proof.Machine

variable {s t u v : State} {i j : StringId} {k : HoldKind} {cause : StartCause} {inp : StartInputs}

/-- The part as a start-up leaves it. -/
structure Revived (cause : StartCause) (inp : StartInputs) (s t : State) : Prop where
  frame : ∃ q r w a g x y, t = { s.awoken inp with
    cfs := { (s.awoken inp).cfs with queue := q, writing := y }
    stab := { strings := r, conditions := (s.storeAtStart inp).read.table.conditions }
    sseq := w
    imon := { (s.awoken inp).imon with
      gap := none
      inFlight := some { owner := .periodic, purpose := .routine, startedAt := 0,
                         endsAt := 1000 * (s.awoken inp).cfgNat .tIso } }
    fli := { (s.awoken inp).fli with positionsKnown := true, arraySafe := a }
    evr := { (s.awoken inp).evr with ring := g }, reports := x }
  granted : ∃ u, Granted (s.reinstated cause inp).known u ∧ u.sseq.pulses.length ≤ 2 ∧ (u.sseq.pulses.length = 2 ∨
    ∀ y ∈ u.sseq.queue, (s.reinstated cause inp).below y.string = false) ∧ t.sseq = u.sseq
  str : ∀ j, t.str j = (s.reinstated cause inp).str j ∨ ((s.reinstated cause inp).has .switch j = true ∧
    ∃ x, t.str j = { (s.reinstated cause inp).str j with faultKind := some x })
  records : ∃ l, t.cfs.queue.map CommitEntry.record = (s.storeAtStart inp).read.replacements ++ l
  writing : t.cfs.writing = t.cfs.queue.head?.map fun e => { startedAt := 0, image := t.image e.record }
  told : Told ((s.storeAtStart inp).read.restarted cause) 19 t

theorem State.startUp_revives (cause : StartCause) (inp : StartInputs) (s : State) :
    Revived cause inp s (s.startUp cause inp) := by
  obtain ⟨u, granted, few, full, e⟩ := State.recoverRelays_leaves (s.reinstated_unplaced cause inp)
  obtain ⟨told, ⟨l, records⟩, writing⟩ := s.reinstated_told cause inp
  have taken := Mends.takeReports (s := u) (granted.mends.mfe ▸ (s.reinstated_unplaced cause inp).capture)
  have sseq := u.takeReports_sseq
  have mends := granted.mends.trans taken
  rw [State.startUp_eq, e]
  generalize u.takeReports = w at sseq mends
  obtain ⟨l', asked⟩ := mends.asked writing
  have later := mends.told _ 1 (by decide) (told.congr rfl rfl)
  have str := mends.str
  obtain ⟨q, r, y, a, g, x, shape⟩ := mends.shape
  obtain ⟨q', g', base⟩ := s.reinstated_eq cause inp
  have now : w.now = 0 := by
    rw [shape, base]
    rfl
  have idle : w.cfs.writing = none := by
    rw [shape]
    exact writing
  obtain ⟨y', hy, measured⟩ : ∃ y', y' = w.cfs.queue.head?.map (fun e =>
      ({ startedAt := w.now, image := w.image e.record } : Write)) ∧
      (w.startMeasurement .periodic .routine).beginWrite =
        (w.startMeasurement .periodic .routine).modCfs fun c => { c with writing := y' } :=
    ⟨_, rfl, State.beginWrite_value (s := w.startMeasurement .periodic .routine) idle⟩
  rw [now] at hy
  rw [measured]
  refine ⟨?_, ⟨u, granted, few, full, sseq⟩, str, ⟨l ++ l', ?_⟩, ?_, later.congr rfl rfl⟩
  · refine ⟨q, r, y, a, g, x, y', ?_⟩
    simp only [State.startMeasurement, State.modImon, State.modCfs, State.after, now, Nat.zero_add]
    rw [shape, base]
    rfl
  · rw [← List.append_assoc, ← records]
    exact asked
  · exact hy.trans rfl

theorem Revived.settings (h : Revived cause inp s t) : t.settings = (s.storeAtStart inp).read.settings := by
  obtain ⟨q, r, w, a, g, x, y, e⟩ := h.frame
  rw [e]
  rfl

theorem Revived.present (h : Revived cause inp s t) (j : StringId) :
    t.present j = ((s.storeAtStart inp).read.settings.strings[j]).present := by
  rw [State.present, State.strSet, h.settings]

theorem Revived.has_reinstated (h : Revived cause inp s t) (k : HoldKind) (j : StringId) :
    t.has k j = (s.reinstated cause inp).has k j := by
  rw [State.has, State.has]
  rcases h.str j with e | ⟨-, x, e⟩ <;> rw [e]

/-- The holds of a present string (R179). -/
theorem Revived.has (h : Revived cause inp s t) (hp : t.present j = true) (k : HoldKind) : t.has k j =
    ((s.storeAtStart inp).read.stored k j || decide (k = .start)
      || (decide (k = .store) && (s.storeAtStart inp).read.storeStands)
      || (decide (k = .fire) && allStrings.any ((s.storeAtStart inp).read.stored .fire))
      || (decide (k = .arc) && allStrings.any ((s.storeAtStart inp).read.stored .arc))) := by
  rw [h.present] at hp
  rw [h.has_reinstated, State.has, State.str_reinstated, ReadRecords.record_has _ _ _ hp, ReadRecords.anyFire_eq,
    ReadRecords.anyArc_eq]

/-- An ABSENT string carries nothing (R42). -/
theorem Revived.bare (h : Revived cause inp s t) (hp : t.present j = false) : t.str j = emptyRecord := by
  rw [h.present] at hp
  have record : (s.reinstated cause inp).str j = emptyRecord := by
    rw [State.str_reinstated, ReadRecords.record_eq, hp]
    rfl
  rcases h.str j with e | ⟨m, -⟩
  · rw [e, record]
  · rw [State.has, record] at m
    cases m

theorem Revived.lock (h : Revived cause inp s t) (hs : (s.storeAtStart inp).read.stored .svc j = true) :
    (t.str j).lockCode = ((s.storeAtStart inp).read.holds[j]).lockCode := by
  have record : ((s.reinstated cause inp).str j).lockCode = ((s.storeAtStart inp).read.holds[j]).lockCode := by
    rw [State.str_reinstated, ReadRecords.record_lock _ _ _ hs]
  rcases h.str j with e | ⟨-, x, e⟩ <;> rw [e] <;> exact record

/-! ### The relays (R99) -/

/-- What the recovery of the relays has gone by. -/
theorem Revived.inputs (h : Revived cause inp s t) (j : StringId) :
    let v := (s.reinstated cause inp).known
    v.present j = t.present j ∧ v.feedback j = inp.feedbackClosed[j] ∧ v.below j = t.below j ∧
    t.feedback j = inp.feedbackClosed[j] ∧ v.after (v.cfgNat .tCoil) = t.cfgNat .tCoil ∧
    v.after (1000 * v.cfgNat .tDwell) = 1000 * t.cfgNat .tDwell := by
  simp only []
  obtain ⟨u, granted, -, -, sseq⟩ := h.granted
  have feedback : t.feedback j = (s.reinstated cause inp).known.feedback j := by
    rw [State.feedback, sseq]
    exact granted.feedback j
  obtain ⟨q', g', base⟩ := s.reinstated_eq cause inp
  obtain ⟨q, r, w, a, g, x, y, e⟩ := h.frame
  rw [base] at feedback ⊢
  exact ⟨by rw [e]; rfl, rfl, by rw [e]; rfl, feedback, by rw [e]; exact Nat.zero_add _,
    by rw [e]; exact Nat.zero_add _⟩

/-- SWITCH on a present string is its stored one. -/
theorem Revived.hasSwitch (h : Revived cause inp s t) (hp : t.present j = true) :
    (s.reinstated cause inp).known.has .switch j = (s.storeAtStart inp).read.stored .switch j := by
  have e := (h.has_reinstated .switch j).symm.trans (h.has hp .switch)
  refine e.trans ?_
  simp

theorem Revived.recovered (h : Revived cause inp s t) (j : StringId) : (s.reinstated cause inp).known.recovered j =
    if t.present j = false then restingSwitch
    else if (s.storeAtStart inp).read.stored .switch j then { restingSwitch with state := .faulted }
    else if inp.feedbackClosed[j] then { restingSwitch with state := .pendingOpen }
    else { restingSwitch with state := .opened, dwell := .running (1000 * t.cfgNat .tDwell) } := by
  obtain ⟨present, feedback, -, -, -, dwell⟩ := h.inputs j
  unfold State.recovered
  rw [present, feedback, dwell]
  by_cases hp : t.present j = false
  · rw [if_pos hp, if_pos hp]
  · rw [if_neg hp, if_neg hp, h.hasSwitch (by simpa using hp)]

/-- Each string's switch (R99). -/
theorem Revived.switch (h : Revived cause inp s t) (j : StringId) : (t.sw j).drive = .off ∧
    t.feedback j = inp.feedbackClosed[j] ∧ (t.present j = false → t.switchState j = .absent) ∧
    (t.present j = true → (s.storeAtStart inp).read.stored .switch j = true → t.switchState j = .faulted) ∧
    (t.present j = true → (s.storeAtStart inp).read.stored .switch j = false → inp.feedbackClosed[j] = false →
      t.switchState j = .opened ∧ (t.sw j).dwell = .running (1000 * t.cfgNat .tDwell)) ∧
    (t.present j = true → (s.storeAtStart inp).read.stored .switch j = false → inp.feedbackClosed[j] = true →
      t.switchState j ∈ [.pendingOpen, .relayOpening, .curtailWait]) := by
  obtain ⟨-, -, -, feedback, -, -⟩ := h.inputs j
  have recovered := h.recovered j
  obtain ⟨u, granted, -, -, sseq⟩ := h.granted
  have same : t.sw j = u.sw j := by
    rw [State.sw, sseq]
    rfl
  obtain ⟨drive, dwell⟩ := granted.idle j
  rw [← same] at drive dwell
  have state : t.switchState j = (s.reinstated cause inp).known.waitState j ∨
      (((s.reinstated cause inp).known.recovered j).state = .pendingOpen ∧ t.switchState j = .relayOpening) := by
    rw [State.switchState, same]
    exact granted.state j
  generalize (s.reinstated cause inp).known = v at *
  have kept (hn : (v.recovered j).state ≠ .pendingOpen) : t.switchState j = (v.recovered j).state :=
    (state.resolve_right fun x => hn x.1).trans (if_neg fun x => hn x.1)
  refine ⟨drive, feedback, fun hp => ?_, fun hp hs => ?_, fun hp hs hf => ?_, fun hp hs hf => ?_⟩
  · rw [if_pos hp] at recovered
    exact (kept (by rw [recovered]; decide)).trans (by rw [recovered]; rfl)
  all_goals rw [hp, hs] at recovered
  · simp only [Bool.true_eq_false, if_false, if_true] at recovered
    exact (kept (by rw [recovered]; decide)).trans (by rw [recovered])
  · simp only [hf, Bool.true_eq_false, Bool.false_eq_true, if_false] at recovered
    exact ⟨(kept (by rw [recovered]; exact fun x => nomatch x)).trans (by rw [recovered]), by rw [dwell, recovered]⟩
  · simp only [hf, Bool.true_eq_false, Bool.false_eq_true, if_false, if_true] at recovered
    rcases state with e | ⟨-, e⟩
    · rw [e]
      unfold State.waitState
      rw [recovered]
      split <;> simp
    · rw [e]
      decide

theorem Revived.moved (h : Revived cause inp s t) (j : StringId) : (s.reinstated cause inp).known.moved j = true ↔
    inp.feedbackClosed[j] = true ∧ (t.present j = false ∨ (s.storeAtStart inp).read.stored .switch j = false) := by
  obtain ⟨present, feedback, -⟩ := h.inputs j
  unfold State.moved
  rw [present, feedback, Bool.and_eq_true]
  refine and_congr_right fun _ => ?_
  by_cases hp : t.present j = true
  · rw [hp, h.hasSwitch hp]
    simp
  · simp [Bool.eq_false_iff.2 hp]

/-- The coil queue and its pulses (R93). -/
theorem Revived.queue (h : Revived cause inp s t) :
    let moved (i : StringId) : Prop := inp.feedbackClosed[i] = true ∧
      (t.present i = false ∨ (s.storeAtStart inp).read.stored .switch i = false)
    (∀ e ∈ t.sseq.queue, e.mark = .toOpen ∧ moved e.string) ∧
    (t.sseq.queue.map CoilEntry.string).Pairwise (· < ·) ∧ t.sseq.pulses.length ≤ 2 ∧
    (∀ x ∈ t.sseq.pulses, x.mark = .toOpen ∧ moved x.string ∧ t.below x.string = true ∧ x.endsAt = t.cfgNat .tCoil) ∧
    (∀ i, moved i → t.queued i = true ∨ ∃ x ∈ t.sseq.pulses, x.string = i) ∧
    (∀ i, t.queued i = true → t.below i = true →
      t.sseq.pulses.length = 2 ∧ ∀ x ∈ t.sseq.pulses, x.string < i) := by
  intro moved
  have moves (j : StringId) : (s.reinstated cause inp).known.moved j = true ↔ moved j := h.moved j
  have low (j : StringId) : (s.reinstated cause inp).known.below j = t.below j := (h.inputs j).2.2.1
  obtain ⟨-, -, -, -, coil, -⟩ := h.inputs 0
  obtain ⟨u, granted, few, full, sseq⟩ := h.granted
  have queued (j : StringId) : t.queued j = true ↔ ∃ x ∈ t.sseq.queue, x.string = j := by
    simp [State.queued]
  rw [← sseq] at few full
  refine ⟨fun e m => ?_, ?_, few, fun x m => ?_, fun i hi => ?_, fun i hq hb => ?_⟩
  · rw [sseq] at m
    obtain ⟨mark, moved, -⟩ := granted.waiting e m
    exact ⟨mark, (moves _).1 moved⟩
  · rw [sseq]
    exact granted.ascend
  · rw [sseq] at m
    obtain ⟨mark, moved, below, ends⟩ := granted.pulses x m
    exact ⟨mark, (moves _).1 moved, low x.string ▸ below, ends.trans coil⟩
  · rw [queued, sseq]
    exact granted.covers i ((moves i).2 hi)
  · obtain ⟨y, m, rfl⟩ := (queued i).1 hq
    rw [← low] at hb
    refine ⟨full.resolve_right fun none => ?_, fun x mx => ?_⟩
    · have clear : (s.reinstated cause inp).known.below y.string = false := none y m
      rw [hb] at clear
      cases clear
    · rw [sseq] at m mx
      exact granted.behind x mx y m hb

/-! ### The other blocks (R179) -/

theorem Revived.conditions (h : Revived cause inp s t) : t.stab.conditions =
    { fire := allStrings.any ((s.storeAtStart inp).read.stored .fire), start := true
      store := (s.storeAtStart inp).read.storeStands
      arc := allStrings.any ((s.storeAtStart inp).read.stored .arc) } := by
  obtain ⟨q, r, w, a, g, x, y, e⟩ := h.frame
  rw [e, ← ReadRecords.anyFire_eq, ← ReadRecords.anyArc_eq]
  rfl

/-- The evaluator, the reclose and thermal controllers, and the first measurement. -/
theorem Revived.evaluators (h : Revived cause inp s t) :
    t.imon = { inFlight := some { owner := .periodic, purpose := .routine, startedAt := 0,
                                  endsAt := 1000 * t.cfgNat .tIso }
               gap := none, last := none, lowMark := false, suppression := false } ∧
    t.seval.strings = Vector.replicate 16 emptyEval ∧
    (∀ g : Fin 4, t.seval.groups[g] = { reference := none, count := 0 }) ∧ t.gsu = idleGsu ∧
    ∀ i : StringId, t.rcl[i] = { reclose := none, stable := none } := by
  obtain ⟨q, r, w, a, g, x, y, e⟩ := h.frame
  rw [e]
  exact ⟨rfl, rfl, fun g => Vector.getElem_replicate _, rfl, fun i => Vector.getElem_replicate _⟩

theorem Revived.mfe (h : Revived cause inp s t) : t.mfe =
    { scanStart := 0, scanLength := 1000, daylight := .night, wakeCount := 0, darkRun := none
      samples := none, capture := none, fast := inp.fast.map fun x => min x 3200
      below := inp.fast.map fun x => decide (min x 3200 < t.cfgNat .iZero) } := by
  obtain ⟨q, r, w, a, g, x, y, e⟩ := h.frame
  have below : (s.awoken inp).mfe.below =
      inp.fast.map fun x => decide (min x 3200 < (s.awoken inp).cfgNat .iZero) := Vector.map_map
  have mfe : (s.awoken inp).mfe = { (s.awoken inp).mfe with
      below := inp.fast.map fun x => decide (min x 3200 < (s.awoken inp).cfgNat .iZero) } := by rw [← below]
  rw [e]
  exact mfe

theorem Revived.sequencer (h : Revived cause inp s t) :
    t.sseq.slot = none ∧ t.sseq.rampList = [] ∧ t.sseq.retest = none := by
  obtain ⟨u, granted, -, -, sseq⟩ := h.granted
  have unplaced := s.reinstated_unplaced cause inp
  rw [sseq, granted.rest]
  exact ⟨unplaced.slot, unplaced.rampList, unplaced.retest⟩

theorem Revived.ports (h : Revived cause inp s t) (p : Port) :
    (t.port p).outstanding = none ∧ (t.port p).ready = [] ∧ (t.port p).transmitting = none := by
  obtain ⟨q, r, w, a, g, x, y, e⟩ := h.frame
  rw [e]
  cases p <;> exact ⟨rfl, rfl, rfl⟩

/-- The first record of each ring routed for it (R181). -/
theorem Revived.restarted (h : Revived cause inp s t) {p : Port} (hp : t.routed .restarted p = true) :
    ∃ x ∈ (t.ring p).records.head?, x.kind = .restarted ∧ x.time = 0 ∧ x.valueA = BitVec.ofInt 32 cause.code ∧
      x.valueB = BitVec.ofNat 16 ((if (s.storeAtStart inp).read.settingsReplaced then 1 else 0) +
        (if (s.storeAtStart inp).read.holdsReplaced then 2 else 0) +
        (if allStrings.any fun i => decide (((s.storeAtStart inp).read.settings.strings[i]).present ≠
          ((s.storeAtStart inp).read.holds[i]).present) then 4 else 0)) ∧
      x.string = none ∧ x.gap = false := by
  refine ⟨_, (h.told p).2.1 hp, rfl, rfl, rfl, ?_, rfl, rfl⟩
  have differ (r : ReadRecords) : r.disagree =
      allStrings.any fun i => decide ((r.settings.strings[i]).present ≠ (r.holds[i]).present) := by
    unfold ReadRecords.disagree
    congr 1
    funext i
    cases (r.settings.strings[i]).present <;> cases (r.holds[i]).present <;> rfl
  rw [← differ]
  exact BitVec.ofInt_natCast ..

/-! ### The statement -/

/-- The cause that a start-up command stands for (R179). -/
def startCause : Instr → StartCause
  | .powerUp _ => .powerUp
  | .supplyDip _ => .supplyDip
  | _ => .request

theorem exec_startUp {c : Instr} (hc : c = .powerUp inp ∨ (s.powered = true ∧ c = .supplyDip inp) ∨
    (s.powered = true ∧ s.restartWaitOver = true ∧ c = .restartWaitEnd inp)) :
    exec c s = .next (s.startUp (startCause c) inp) := by
  rcases hc with rfl | ⟨hp, rfl⟩ | ⟨hp, hw, rfl⟩
  · rfl
  · exact congrArg Host.Outcome.next (if_pos (by rw [hp]; rfl))
  · exact congrArg Host.Outcome.next (if_pos (by rw [hp, hw]; rfl))

/-- What replaces a failed settings record shows every string PRESENT, in no group (R168, R180). -/
theorem defaultSettings_strings (i : StringId) : (defaultSettings.strings[i]).present = true ∧
    (defaultSettings.strings[i]).group = .none ∧ (defaultSettings.strings[i]).rank = 0 ∧
    (defaultSettings.strings[i]).range = .wide := by
  revert i
  decide

theorem Cfs.read_latest (c : Cfs) :
    (c.settingsCopies.latest.isNone = true → c.read.settings = defaultSettings) ∧
    (c.holdCopies.latest.isNone = true → c.read.holds = emptyHoldRecord c.read.settings) :=
  ⟨fun h => Copies.dataOr_none h _, fun h => Copies.dataOr_none h _⟩

theorem Revived.commits (h : Revived cause inp s t) :
    ((s.storeAtStart inp).read.settingsReplaced = true → t.cfs.queue.head?.map CommitEntry.record = some .settings) ∧
    ((s.storeAtStart inp).read.holdsReplaced = true → .holds ∈ t.cfs.queue.map CommitEntry.record) := by
  obtain ⟨l, e⟩ := h.records
  rw [← List.head?_map, e, ReadRecords.replacements]
  refine ⟨fun hs => ?_, fun hs => ?_⟩
  · rw [hs]
    rfl
  · rw [hs]
    simp

/-- The records are read from their latest good copies (R177). -/
theorem State.storeAtStart_reads (inp : StartInputs) (s : State) :
    let r := (s.storeAtStart inp).read
    (s.cfs.writing = none →
      ReadsLatest s.cfs.settingsCopies inp.settingsAFails inp.settingsBFails defaultSettings r.settings
        r.settingsReplaced ∧
      ReadsLatest s.cfs.holdCopies inp.holdsAFails inp.holdsBFails (emptyHoldRecord r.settings) r.holds
        r.holdsReplaced) ∧
    (inp.settingsAFails = false → inp.settingsBFails = false →
      ∀ v ∈ s.cfs.settingsCopies.latest, r.settings = v.data ∧ r.settingsReplaced = false) ∧
    (inp.holdsAFails = false → inp.holdsBFails = false →
      ∀ v ∈ s.cfs.holdCopies.latest, r.holds = v.data ∧ r.holdsReplaced = false) := by
  obtain ⟨settings, holds⟩ := s.cfs.loseSupply_latest
  refine ⟨fun hw => ?_, fun ha hb v hv => ?_, fun ha hb v hv => ?_⟩
  · obtain ⟨es, eh⟩ := Cfs.loseSupply_idle hw
    rw [← es, ← eh]
    exact ⟨Copies.readsLatest .., Copies.readsLatest ..⟩
  · have latest : (s.storeAtStart inp).settingsCopies.latest = some v := by
      unfold State.storeAtStart
      simp only [ha, hb, Copies.fail_neither, settings]
      exact hv
    exact Copies.dataOr_latest latest _
  · have latest : (s.storeAtStart inp).holdCopies.latest = some v := by
      unfold State.storeAtStart
      simp only [ha, hb, Copies.fail_neither, holds]
      exact hv
    exact Copies.dataOr_latest latest _

theorem ReadRecords.stored_replaced {c : Cfs} (h : c.read.holdsReplaced = true) (i : StringId) (k : HoldKind) :
    c.read.stored k i = false := by
  unfold ReadRecords.stored
  rw [c.read_latest.2 h, emptyHoldRecord, tab_get]
  have none : (emptyStored (c.read.settings.strings[i]).present).holds[k.slot] = false := by cases k <;> rfl
  rw [none, Bool.and_false]

/-- Settles O60: the records read, the holds restored, the relays recovered, and the supply lost. -/
theorem startUpsAndTheLossOfSupply : Obligations.StartUpsAndTheLossOfSupply := by
  refine ⟨fun s inp c hc => ?_, fun s hp => ⟨s.losePower, ?_, ?_⟩⟩
  · obtain ⟨t, run, h⟩ : ∃ t, exec c s = .next t ∧ Revived (startCause c) inp s t :=
      ⟨_, exec_startUp hc, s.startUp_revives _ inp⟩
    refine ⟨t, run, ?_⟩
    clear run
    obtain ⟨latest, settingsRead, holdsRead⟩ := s.storeAtStart_reads inp
    have settings := h.settings
    obtain ⟨commitsSettings, commitsHolds⟩ := h.commits
    have queue := h.queue
    intro r store kept stored fire arc
    obtain ⟨imon, evals, groups, gsu, reclose⟩ := h.evaluators
    obtain ⟨slot, rampList, retest⟩ := h.sequencer
    obtain ⟨q, rs, w, a, g, x, y, e⟩ := h.frame
    refine ⟨fun hw => ?_, fun ha hb v hv => ?_, holdsRead, fun hs i => ?_,
      fun hs i k => ReadRecords.stored_replaced hs i k, commitsSettings, commitsHolds, h.writing, by rw [e]; rfl,
      by rw [e]; rfl, by rw [e]; rfl, settings, h.conditions,
      fun i hp k => h.has hp k, fun i hp => h.bare hp, fun i hs => h.lock hs, h.switch, imon, evals, groups, gsu, h.mfe,
      by rw [e]; rfl, reclose, by rw [e]; rfl, by rw [e]; rfl, slot, rampList, retest, queue, by rw [e]; rfl,
      by rw [e]; rfl, by rw [e]; rfl, by rw [e], by rw [e]; rfl, by rw [e]; rfl, by rw [e]; rfl, by rw [e]; rfl,
      by rw [e]; rfl, by rw [e]; rfl, h.ports, by rw [e]; rfl, by rw [e]; rfl, by rw [e]; rfl, fun p hp => ?_,
      fun p x m => (h.told p).2.2 x m⟩
    · rw [settings]
      exact latest hw
    · rw [settings]
      exact settingsRead ha hb v hv
    · have replaced : t.settings = defaultSettings := settings.trans ((Cfs.read_latest _).1 hs)
      rw [replaced]
      exact defaultSettings_strings i
    · obtain ⟨x, m, kind, time, cause, rest⟩ := h.restarted hp
      refine ⟨x, m, kind, time, cause.trans ?_, rest⟩
      rcases hc with rfl | ⟨-, rfl⟩ | ⟨-, -, rfl⟩ <;> rfl
  · exact congrArg Host.Outcome.next (if_pos (by rw [hp]; rfl))
  · refine ⟨rfl, rfl, fun i => ?_, rfl, rfl, rfl, rfl, fun p => ?_, Cfs.loseSupply_idle,
      fun w _ => s.cfs.loseSupply_latest⟩
    · exact congrArg Switch.drive (Vector.getElem_replicate _)
    · cases p <;> exact ⟨rfl, rfl, rfl⟩

end Sys2Proof.Machine
end
